-- ==== Sys2Proof/Word.lean ====
section
/-!
DEFINITION. The word types of the block: 32-bit registers (R14), bytes, and 64-bit quantities in two registers.
-/

namespace Sys2Proof

/-- A register of the block (R14). -/
abbrev Word := BitVec 32

/-- The smallest addressable unit of SRAM, flash and frames (R13). -/
abbrev Byte := BitVec 8

/-- A 64-bit quantity: two adjacent registers, low word first (R14). -/
abbrev Dword := BitVec 64

end Sys2Proof
end

