-- ==== Sys2Proof/Syntax.lean ====
section
/-!
DEFINITION. The commands of the block: one constructor of `Instr` for each row of spec/opcode_table.json, and the
types their operands have.
A command carries what its sender or its pin supplies: the requester (R121), the page, the argument, the data of a
frame, the value a sensor shows. What the block itself holds is in the state, not in the command.
-/

namespace Sys2Proof

/-- The page types of Table 3-6. -/
inductive PageType where
  | tempo | homeroom | cue | tile | sect | locker | dma | camera | pfe | dpp | weight | codec | kv
  | loop | pstage | angle | jsl | adc | proctor | rubric | hallmon | image | identity | dynamics
  | pcie | eth | can | compositor | safeio
  deriving DecidableEq, Repr

/-- A register page: a type of Table 3-6 and an instance number (R84). -/
structure PageRef where
  ty : PageType
  inst : Nat
  deriving DecidableEq, Repr

/-- Who issues an access (R121): a host request with or without a PASID prefix, a Conductor core, a tile or a DMA
channel. -/
inductive Requester where
  | host (pasid : Option (BitVec 20))
  | core (c : Fin 4)
  | tile (t : Fin 32)
  | dma (c : Fin 8)
  deriving DecidableEq, Repr

/-- What an error-correcting read finds (R155). -/
inductive Ecc where
  | clean | single | double
  deriving DecidableEq, Repr

/-- The class fields of an MX instruction (Table 7-6). -/
structure MxFields where
  accumulate : Bool
  sat : Bool
  tag : BitVec 2
  agd : BitVec 8
  row0 : BitVec 8
  rows1 : BitVec 8
  off : BitVec 12
  op : BitVec 12
  deriving DecidableEq, Repr

/-- An upset of the array in one check block of a pass (R204, R206): in the first attempt at the block or in its replay, it flips bits
of an output, of the column code of a row, of the row code of a column, or it breaks the parity of an accumulator entry read
(R194). -/
inductive MxUpset where
  | output (block : Nat) (replay : Bool) (row : Fin 64) (column : Fin 32) (flip : BitVec 48)
  | columnCode (block : Nat) (replay : Bool) (row : Fin 64) (flip : BitVec 48)
  | rowCode (block : Nat) (replay : Bool) (column : Fin 32) (flip : BitVec 48)
  | parity (block : Nat) (replay : Bool) (row : Fin 64) (column : Fin 32)
  deriving DecidableEq, Repr

/-- A parity error MX.OUT meets as it reads the accumulators (R194): where, and whether the replay of the block matches. -/
structure AccParity where
  row : Fin 64
  column : Fin 32
  replayMatches : Bool
  deriving DecidableEq, Repr

/-- The class fields of a VX instruction (Table 7-6). -/
structure VxFields where
  fmt : BitVec 4
  vd : BitVec 5
  va : BitVec 5
  vb : BitVec 5
  vc : BitVec 5
  quarter : BitVec 2
  off : BitVec 14
  tag : BitVec 2
  sr : BitVec 4
  /-- No field of the word: a vector register the instruction reads fails its parity (R198). -/
  parity : Bool
  deriving DecidableEq, Repr

/-- The sub-operations of VX.ALU (Table 7-7). The manual names them and gives them no codes. -/
inductive VxAluOp where
  | add | sub | min | max | cmpEq | cmpLt | and | or | xor | shl | shrLogical | shrArith
  deriving DecidableEq, Repr

/-- The table functions of R197. -/
inductive VxFnOp where
  | exp | exp2 | log2 | sigmoid | tanh | recip | rsqrt
  deriving DecidableEq, Repr

/-- The class fields of an MV instruction (Table 7-6). -/
structure MvFields where
  stag : BitVec 2
  dtag : BitVec 2
  units1 : BitVec 16
  sa : BitVec 4
  da : BitVec 4
  mask : BitVec 8
  combine : BitVec 8
  fmt : BitVec 4
  deriving DecidableEq, Repr

/-- The class fields of an SY instruction (Table 7-6). -/
structure SyFields where
  st : Bool
  cueReg : Bool
  cue : BitVec 16
  n : BitVec 16
  sreg : BitVec 4
  timeout : BitVec 12
  deriving DecidableEq, Repr

/-- The class fields of a CT instruction (Table 7-6). -/
structure CtFields where
  cond : BitVec 4
  rd : BitVec 4
  ra : BitVec 4
  rb : BitVec 4
  imm : BitVec 36
  deriving DecidableEq, Repr

/-- The scalar operations of CT.ALU (Table 7-7). The manual names them and gives them no codes. -/
inductive CtAluOp where
  | add | sub | mul | shl | shr | sar | and | or | xor | cmpEq | cmpLt | cmpLtu
  deriving DecidableEq, Repr

/-- The class fields of a CK instruction (Table 7-6). -/
structure CkFields where
  fmt : BitVec 4
  rd : BitVec 4
  ra : BitVec 4
  rl : BitVec 4
  rlo : BitVec 4
  rhi : BitVec 4
  imm : BitVec 28
  deriving DecidableEq, Repr


/-- A CSI-2 packet header as the receiver takes it: bytes 0 and 1, what its ECC finds, the Metronome value at which it passes
(R247), and whether the receiver or its Pixel Front End meets a parity error of its own as it takes the packet (Table 8-5). -/
structure CsiHeader where
  bytes01 : BitVec 16
  ecc : Ecc
  time : Dword
  parity : Bool
  deriving DecidableEq, Repr

/-- Bytes of host memory a read of the device returns. What no chunk holds comes back as an error completion. -/
structure HostChunk where
  addr : Dword
  data : List Byte
  /-- The completion came with EP set: the data is poisoned. -/
  ep : Bool
  deriving DecidableEq, Repr

/-- A read of pages: its address and how many bytes it asks for. -/
structure PageRead where
  addr : Word
  size : Nat
  deriving DecidableEq, Repr

/-- RESET_PAGE: its argument, and whether the unit passes its self-test (Table 3-3). -/
structure ResetArg where
  arg : BitVec 24
  healthy : Bool
  deriving DecidableEq, Repr

/-- A flit on the link of a Locker stack: its transmissions, as received (R175). -/
structure LinkFlit where
  stack : Fin 4
  copies : List (List Byte)
  deriving DecidableEq, Repr

/-- A Corridor flit that still fails after its resends: whose access it belongs to, the address, and whether it writes (R182). -/
structure CorridorFlit where
  source : Requester
  addr : Word
  write : Bool
  deriving DecidableEq, Repr

/-- An MX.OUT: its fields, and a parity error of the accumulators that it reads (R194). -/
structure MxStore where
  fields : MxFields
  parity : Option AccParity
  deriving DecidableEq, Repr

/-- What a host completion brings: a row's data, or an error; and its EP bit (R184). -/
structure HostRow where
  data : Option (List Byte)
  ep : Bool
  deriving DecidableEq, Repr

/-- The signals of a pulse input (R374). -/
inductive PulseSignal where
  | a | b | z
  deriving DecidableEq, Repr

/-- A configuration request of the host (sections 15.1.2 to 15.1.6). -/
inductive CfgReq where
  /-- Reads a double-word of the header. -/
  | header (k : Fin 16)
  /-- Writes a base address register. -/
  | bar (k : Fin 6) (v : Word)
  /-- Writes MSI-X Enable and Function Mask. -/
  | msix (enable mask : Bool)
  /-- Writes PASID Enable. -/
  | pasid (enable : Bool)
  /-- Reads Link Status; clears Link Autonomous Bandwidth Status. -/
  | linkStatus (clear : Bool)
  deriving DecidableEq, Repr

/-- What a gPTP message brings a port: a Sync with its Follow_Up, as the offset of the Metronome from the grandmaster that the port
measures by them, or any other message (R500, R501). -/
inductive GptpMsg where
  | sync (offset : Word)
  | other
  deriving DecidableEq, Repr

/-- A CAN frame (Table 15-7): identifier, its format bits, DLC and data. -/
structure CanFrame where
  id : BitVec 29
  ext : Bool
  rtr : Bool
  fd : Bool
  dlc : BitVec 4
  brs : Bool
  esi : Bool
  data : List Byte
  deriving DecidableEq, Repr


/-- The commands and events of the block: one constructor for each row of spec/opcode_table.json. -/
inductive Instr where
  /-- PULSE_BOUNDARY (R43). -/
  | pulseBoundary
  /-- BEAT_BOUNDARY (R45). -/
  | beatBoundary
  /-- BAR_BOUNDARY (R45). -/
  | barBoundary
  /-- TEMPO_EPOCH_REACHED (R55). -/
  | tempoEpochReached
  /-- TRIGGER_HOLD_EXPIRY (R61). -/
  | triggerHoldExpiry (h : Fin 8) (i : Nat)
  /-- DEADLINE_EXPIRY (R64). -/
  | deadlineExpiry (h : Fin 8) (i : Nat)
  /-- BUDGET_EXPIRY (R64). -/
  | budgetExpiry (h : Fin 8) (i : Nat) (at' : Dword)
  /-- SKIP_DEADLINE_EXPIRY (R71). -/
  | skipDeadlineExpiry (h : Fin 8) (i : Nat)
  /-- NO_TRIGGER_EXPIRY (R66). -/
  | noTriggerExpiry (h : Fin 8) (i : Nat)
  /-- FSYNC_ASSERT (R58). -/
  | fsyncAssert (n : Fin 12)
  /-- FSYNC_DEASSERT (R58). -/
  | fsyncDeassert (n : Fin 12)
  /-- SET_TEMPO (R73). -/
  | setTempo (r : Requester) (arg : BitVec 24)
  /-- SET_TEMPO_CHECK_DONE (R73). -/
  | setTempoCheckDone
  /-- STEP_MTN (R55). -/
  | stepMtn (r : Requester) (arg : BitVec 24)
  /-- TEMPO_SLEW_WRITE (R48). -/
  | tempoSlewWrite (r : Requester) (v : Word)
  /-- LATCHING_READ (R51). -/
  | latchingRead (r : Requester) (a : PageRead)
  /-- REF_CLOCK_LOSS (R56). -/
  | refClockLoss
  /-- BEAT_TIMING_FAULT (R57). -/
  | beatTimingFault
  /-- SYNC_HOLDOVER_TIMEOUT (R49). -/
  | syncHoldoverTimeout
  /-- IO_LINK_DOWN (R21). -/
  | ioLinkDown (d : Fin 2)
  /-- IO_LINK_WATCHDOG_EXPIRY (R22). -/
  | ioLinkWatchdogExpiry (d : Fin 2)
  /-- REGISTER_WRITE (R89). -/
  | registerWrite (r : Requester) (addr : Word) (size : Nat) (v : Dword)
  /-- RC_REGISTER_READ (R16). -/
  | rcRegisterRead (r : Requester) (a : PageRead)
  /-- IRQ_PEND_WRITE (R87). -/
  | irqPendWrite (r : Requester) (p : PageRef) (v : Word)
  /-- IRQ_EN_WRITE (R88). -/
  | irqEnWrite (r : Requester) (p : PageRef) (v : Word)
  /-- NOP (R95). -/
  | nop (r : Requester) (p : PageRef) (arg : BitVec 24)
  /-- RESET_PAGE (R91). -/
  | resetPage (r : Requester) (p : PageRef) (arg : ResetArg)
  /-- ENABLE (R91). -/
  | enable (r : Requester) (p : PageRef) (arg : BitVec 24)
  /-- DISABLE (R91). -/
  | disable (r : Requester) (p : PageRef) (arg : BitVec 24)
  /-- QUIESCE (R102). -/
  | quiesce (r : Requester) (p : PageRef) (arg : BitVec 24)
  /-- STOP (R100). -/
  | stop (r : Requester) (p : PageRef) (arg : BitVec 24)
  /-- UNKNOWN_COMMAND (R97). -/
  | unknownCommand (r : Requester) (p : PageRef) (code : BitVec 8) (arg : BitVec 24)
  /-- COMMAND_COMPLETION (R99). -/
  | commandCompletion (p : PageRef) (detail : Word)
  /-- ADMIT (R67). -/
  | admitScore (r : Requester) (h : Fin 8) (arg : BitVec 24)
  /-- ADMIT_COMPLETE (R68). -/
  | admitComplete (h : Fin 8)
  /-- CONFIGURE (R133). -/
  | configure (r : Requester) (arg : BitVec 24)
  /-- GRANT_PAGE (R130). -/
  | grantPage (r : Requester) (arg : BitVec 24)
  /-- REVOKE_PAGE (R130). -/
  | revokePage (r : Requester) (arg : BitVec 24)
  /-- RELEASE (R134). -/
  | release (r : Requester) (arg : BitVec 24)
  /-- RELEASE_COMPLETE (R134). -/
  | releaseComplete
  /-- VIOLATION_WINDOW_EXPIRY (R126). -/
  | violationWindowExpiry (h : Fin 8)
  /-- WAKE_TOL_WRITE (R470). -/
  | wakeTolWrite (r : Requester) (h : Fin 8) (v : Word)
  /-- CUE_SIGNAL (R139). -/
  | cueSignal (r : Requester) (cue : BitVec 16) (v : Word)
  /-- CUE_WAIT (R139). -/
  | cueWait (r : Requester) (cue : BitVec 16) (n : BitVec 16) (timeout : BitVec 24)
  /-- CUE_ARRIVE (R139). -/
  | cueArrive (r : Requester) (cue : BitVec 16) (timeout : BitVec 24)
  /-- CUE_TEST (R139). -/
  | cueTest (r : Requester) (cue : BitVec 16)
  /-- CUE_SET (R139). -/
  | cueSet (r : Requester) (cue : BitVec 16) (v : Word)
  /-- CUE_TAKE (R139). -/
  | cueTake (r : Requester) (cue : BitVec 16)
  /-- WAITER_TIMEOUT (R145). -/
  | waiterTimeout (i : Nat)
  /-- CUE_CFG_WRITE (R151). -/
  | cueCfgWrite (r : Requester) (b : BitVec 8) (j : Fin 128) (v : Word)
  /-- CUE_STORAGE_ERROR (R153). -/
  | cueStorageError (b : BitVec 8) (idx : BitVec 8)
  /-- SCRATCHPAD_ACCESS_ISSUE (R167). -/
  | scratchpadAccessIssue (t : Fin 32) (ecc : Ecc)
  /-- SCRUB_READ (R176). -/
  | scrubRead (addr : Word) (ecc : Ecc)
  /-- LOCKER_LINK_DOWN (R175). -/
  | lockerLinkDown (flit : LinkFlit)
  /-- CORRIDOR_PARITY_FAIL (R182). -/
  | corridorParityFail (flit : CorridorFlit)
  /-- SET_TAGS (R173). -/
  | setTags (r : Requester) (t : Fin 32) (arg : BitVec 24)
  /-- INJECT (R178). -/
  | inject (r : Requester) (k : Fin 4) (arg : BitVec 24)
  /-- TILE_BANKMAP_WRITE (R172). -/
  | tileBankmapWrite (r : Requester) (t : Fin 32) (v : Word)
  /-- BANK_PHASE_APPLY (R165). -/
  | bankPhaseApply (t : Fin 32)
  /-- DMA_TAIL_WRITE (R187). -/
  | dmaTailWrite (r : Requester) (c : Fin 8) (v : Word)
  /-- DMA_DESCRIPTOR_START (R183). -/
  | dmaDescriptorStart (c : Fin 8)
  /-- DMA_DESCRIPTOR_END (R185). -/
  | dmaDescriptorEnd (c : Fin 8) (ns : List Nat)
  /-- DMA_TAG_TIMEOUT (R185). -/
  | dmaTagTimeout (c : Fin 8)
  /-- HOST_SRAM_ACCESS (R157). -/
  | hostSramAccess (pasid : Option (BitVec 20)) (addr : Word) (write : Bool) (data : List Byte)
  /-- MX_CFG (R192). -/
  | mxCfg (t : Fin 32) (f : MxFields)
  /-- MX_LDW (R192). -/
  | mxLdw (t : Fin 32) (f : MxFields)
  /-- MX_SWAP (R192). -/
  | mxSwap (t : Fin 32) (f : MxFields)
  /-- MX_PASS (R203). -/
  | mxPass (t : Fin 32) (f : MxFields) (ups : List MxUpset)
  /-- MX_OUT (R195). -/
  | mxOut (t : Fin 32) (f : MxStore)
  /-- MX_ZACC (R194). -/
  | mxZacc (t : Fin 32) (f : MxFields)
  /-- VX_LD (R223). -/
  | vxLd (t : Fin 32) (f : VxFields)
  /-- VX_ST (R223). -/
  | vxSt (t : Fin 32) (f : VxFields)
  /-- VX_ALU (R197). -/
  | vxAlu (t : Fin 32) (op : VxAluOp) (f : VxFields)
  /-- VX_FMA (R197). -/
  | vxFma (t : Fin 32) (f : VxFields)
  /-- VX_FN (R197). -/
  | vxFn (t : Fin 32) (op : VxFnOp) (f : VxFields)
  /-- VX_CVT (R199). -/
  | vxCvt (t : Fin 32) (f : VxFields) (dst : BitVec 4) (sat : Bool)
  /-- VX_QMUL (R202). -/
  | vxQmul (t : Fin 32) (f : VxFields)
  /-- VX_MAC8 (R197). -/
  | vxMac8 (t : Fin 32) (f : VxFields)
  /-- VX_LRED (R230). -/
  | vxLred (t : Fin 32) (f : VxFields) (maximum : Bool)
  /-- VX_SEL (R197). -/
  | vxSel (t : Fin 32) (f : VxFields)
  /-- VX_PERM (R197). -/
  | vxPerm (t : Fin 32) (f : VxFields)
  /-- VX_ARGMAX (R197). -/
  | vxArgmax (t : Fin 32) (f : VxFields)
  /-- VX_ATADDI (R239). -/
  | vxAtaddi (t : Fin 32) (f : VxFields)
  /-- VX_ATADDF (R238). -/
  | vxAtaddf (t : Fin 32) (f : VxFields)
  /-- MV_COPY (R180). -/
  | mvCopy (t : Fin 32) (f : MvFields)
  /-- MV_BCAST (R212). -/
  | mvBcast (t : Fin 32) (f : MvFields)
  /-- MV_RED (R213). -/
  | mvRed (t : Fin 32) (f : MvFields)
  /-- MV_GATHER (R180). -/
  | mvGather (t : Fin 32) (f : MvFields)
  /-- SY_SIGNAL (R223). -/
  | sySignal (t : Fin 32) (f : SyFields)
  /-- SY_WAIT (R232). -/
  | syWait (t : Fin 32) (f : SyFields)
  /-- SY_ARRIVE (R232). -/
  | syArrive (t : Fin 32) (f : SyFields)
  /-- SY_TEST (R231). -/
  | syTest (t : Fin 32) (f : SyFields)
  /-- SY_SET (R223). -/
  | sySet (t : Fin 32) (f : SyFields)
  /-- SY_TAKE (R231). -/
  | syTake (t : Fin 32) (f : SyFields)
  /-- SY_WAITANY (R232). -/
  | syWaitany (t : Fin 32) (f : SyFields)
  /-- SY_FENCE (R223). -/
  | syFence (t : Fin 32) (f : SyFields)
  /-- SY_TAGS (R166). -/
  | syTags (t : Fin 32) (first : BitVec 13) (count1 : BitVec 13) (v : BitVec 2)
  /-- CT_SETS (R229). -/
  | ctSets (t : Fin 32) (f : CtFields)
  /-- CT_ALU (R229). -/
  | ctAlu (t : Fin 32) (op : CtAluOp) (f : CtFields)
  /-- CT_BR (R229). -/
  | ctBr (t : Fin 32) (f : CtFields)
  /-- CT_LOOP (R229). -/
  | ctLoop (t : Fin 32) (f : CtFields)
  /-- CT_PHASE (R165). -/
  | ctPhase (t : Fin 32) (f : CtFields)
  /-- CT_YIELD (R224). -/
  | ctYield (t : Fin 32) (f : CtFields)
  /-- CT_END (R228). -/
  | ctEnd (t : Fin 32) (f : CtFields)
  /-- CT_MTN (R231). -/
  | ctMtn (t : Fin 32) (f : CtFields)
  /-- CT_TID (R229). -/
  | ctTid (t : Fin 32) (f : CtFields)
  /-- CT_LDS (R229). -/
  | ctLds (t : Fin 32) (f : CtFields)
  /-- CT_STS (R229). -/
  | ctSts (t : Fin 32) (f : CtFields)
  /-- CK_CRC (R103). -/
  | ckCrc (t : Fin 32) (f : CkFields)
  /-- CK_FIN (R229). -/
  | ckFin (t : Fin 32) (f : CkFields)
  /-- CK_BOUND (R229). -/
  | ckBound (t : Fin 32) (f : CkFields)
  /-- CK_TRAP (R235). -/
  | ckTrap (t : Fin 32) (f : CkFields)
  /-- CK_STAMP (R231). -/
  | ckStamp (t : Fin 32) (f : CkFields)
  /-- ACTIVATION_DISPATCH (R221). -/
  | activationDispatch (h : Fin 8) (i : Nat)
  /-- ACTIVATION_STOP (R226). -/
  | activationStop (t : Fin 32)
  /-- YIELD_BARRIER_RELEASE (R224). -/
  | yieldBarrierRelease (h : Fin 8) (i : Nat)
  /-- STALL_TIMEOUT (R233). -/
  | stallTimeout (t : Fin 32)
  /-- HARDWARE_STALL (R234). -/
  | hardwareStall (t : Fin 32)
  /-- INJECT_CK (R214). -/
  | injectCk (r : Requester) (t : Fin 32) (arg : BitVec 24)
  /-- BIST (R216). -/
  | bist (r : Requester) (q : Fin 4) (arg : BitVec 24)
  /-- BIST_COMPLETE (R216). -/
  | bistComplete (q : Fin 4) (passed : BitVec 8) (failMap : BitVec 28)
  /-- READMISSION_COMPLETE (R243). -/
  | readmissionComplete (h : Fin 8)
  /-- CSI_FRAME_START (R250). -/
  | csiFrameStart (n : Fin 12) (fn : BitVec 16) (hdr : CsiHeader)
  /-- CSI_FRAME_END (R248). -/
  | csiFrameEnd (n : Fin 12) (fn : BitVec 16) (hdr : CsiHeader)
  /-- CSI_LINE_PACKET (R248). -/
  | csiLinePacket (n : Fin 12) (hdr : CsiHeader) (payload : List Byte) (crcOk : Bool)
  /-- CSI_IGNORED_PACKET (R246). -/
  | csiIgnoredPacket (n : Fin 12) (hdr : CsiHeader)
  /-- CAM_NO_FE_TIMEOUT (R249). -/
  | camNoFeTimeout (n : Fin 12)
  /-- CAM_NO_FRAME_TIMEOUT (R249). -/
  | camNoFrameTimeout (n : Fin 12)
  /-- CSI_PHY_LOSS (R249). -/
  | csiPhyLoss (n : Fin 12)
  /-- PFE_FRAME_COMMIT (R257). -/
  | pfeFrameCommit (n : Fin 12) (time : Dword)
  /-- PFE_SAMPLE_START (R258). -/
  | pfeSampleStart (n : Fin 12)
  /-- DPP_JOB_START (R263). -/
  | dppJobStart
  /-- DPP_JOB_END (R267). -/
  | dppJobEnd (ns : Nat)
  /-- BUILD_BEGIN (R272). -/
  | buildBegin (r : Requester) (k : Fin 8) (arg : BitVec 24)
  /-- SEGUE (R273). -/
  | segue (r : Requester) (k : Fin 8) (arg : BitVec 24)
  /-- DECODE_WPKF (R295). -/
  | decodeWpkf (h : Fin 8) (host : List HostChunk)
  /-- DECODE_APKV (R295). -/
  | decodeApkv (h : Fin 8) (host : List HostChunk)
  /-- ENCODE_APKV (R295). -/
  | encodeApkv (h : Fin 8) (host : List HostChunk)
  /-- COPY (R295). -/
  | copyBlocks (h : Fin 8) (host : List HostChunk)
  /-- CODEC_BLOCK (R296). -/
  | codecBlock (ns : Nat) (host : List HostChunk)
  /-- OPEN (R304). -/
  | openSeq (ns : Nat)
  /-- BATCH (R305). -/
  | batchSeq (ns : Nat) (host : List HostChunk)
  /-- CLOSE (R304). -/
  | closeSeq (ns : Nat)
  /-- SWAP_OUT (R307). -/
  | swapOut (ns : Nat)
  /-- SWAP_IN (R308). -/
  | swapIn (ns : Nat) (host : List HostChunk)
  /-- SET_PRIORITY (R304). -/
  | setPriority (ns : Nat)
  /-- SWAP_OUT_READBACK_DONE (R307). -/
  | swapOutReadbackDone (ok : Bool) (ns : Nat)
  /-- LIMIT_WORD (R325). -/
  | limitWord (n : Fin 16) (errors : BitVec 41)
  /-- OBS_RIDE_TIMEOUT (R331). -/
  | obsRideTimeout (n : Fin 16)
  /-- LOOP_TGT_COMMIT (R341). -/
  | loopTgtCommit (r : Requester) (n : Fin 16) (v : Word)
  /-- SETPOINT_TIMEOUT (R341). -/
  | setpointTimeout (n : Fin 16)
  /-- LOOP_GAIN_WRITE (R324). -/
  | loopGainWrite (r : Requester) (n : Fin 16) (k : Fin 30) (v : Word)
  /-- OST_TABLE_WRITE (R337). -/
  | ostTableWrite (r : Requester) (n : Fin 16) (i : Fin 512) (v : Word)
  /-- CAPTURE (R345). -/
  | capture (r : Requester) (n : Fin 16) (arg : BitVec 24)
  /-- CAP_STOP (R345). -/
  | capStop (r : Requester) (n : Fin 16) (arg : BitVec 24)
  /-- OST_CLEAR (R351). -/
  | ostClear (r : Requester) (n : Fin 16) (arg : BitVec 24)
  /-- CAPTURE_DONE (R347). -/
  | captureDone (n : Fin 16)
  /-- PWM_UPDATE_POINT (R356). -/
  | pwmUpdatePoint (n : Fin 16)
  /-- ADC_SAMPLE (R359). -/
  | adcSample (d : Fin 2) (codes : List (BitVec 14)) (time : Dword)
  /-- GATE_DRIVER_FAULT (R361). -/
  | gateDriverFault (n : Fin 16) (sw : Fin 6) (levels : BitVec 11) (time : Dword)
  /-- BLANKING_EXPIRY (R361). -/
  | blankingExpiry (n : Fin 16) (sw : Fin 6) (time : Dword)
  /-- OC_COMPARATOR_TRIP (R362). -/
  | ocComparatorTrip (n : Fin 16) (phase : Fin 3) (levels : BitVec 11) (time : Dword)
  /-- FAULT_WINDOW_EXPIRY (R365). -/
  | faultWindowExpiry (n : Fin 16)
  /-- ASC_TIMEOUT (R365). -/
  | ascTimeout (n : Fin 16)
  /-- TEST_PATH (R370). -/
  | testPath (r : Requester) (n : Fin 16) (arg : BitVec 24)
  /-- CALIBRATE (R372). -/
  | calibrate (r : Requester) (d : Fin 2) (arg : BitVec 24)
  /-- PULSE_INPUT_EDGE (R375). -/
  | pulseInputEdge (n : Fin 16) (sig : PulseSignal) (rising : Bool) (time : Dword)
  /-- SYNTHETIC_TOOTH (R379). -/
  | syntheticTooth (n : Fin 16)
  /-- TRACKER_HALT (R384). -/
  | trackerHalt (n : Fin 16)
  /-- ANGLE_EVENT_FIRE (R388). -/
  | angleEventFire (n : Fin 16) (e : Fin 16)
  /-- ANG_EVENT_WRITE (R389). -/
  | angEventWrite (r : Requester) (n : Fin 16) (e : Fin 16) (ctl : Bool) (v : Word)
  /-- JSL_TRANSACTION_START (R394). -/
  | jslTransactionStart (p : Fin 8)
  /-- JSL_RESPONSE (R395). -/
  | jslResponse (p : Fin 8) (a : Fin 4) (frame : List Byte) (stopOk : Bool)
  /-- JSL_RESPONSE_TIMEOUT (R395). -/
  | jslResponseTimeout (p : Fin 8) (a : Fin 4)
  /-- ACYC (R396). -/
  | acyc (r : Requester) (p : Fin 8) (arg : BitVec 24)
  /-- LOCKSTEP_MISMATCH (R398). -/
  | lockstepMismatch
  /-- PROCTOR_SRAM_UE (R400). -/
  | proctorSramUe
  /-- STO_TEST_PULSE (R402). -/
  | stoTestPulse (b seen : Bool)
  /-- STO_FEEDBACK_CHECK (R403). -/
  | stoFeedbackCheck (b fb : Bool)
  /-- BRAKE_FEEDBACK_TIMEOUT (R405). -/
  | brakeFeedbackTimeout (k : Fin 2) (fb : Bool)
  /-- SAFE_IN_EDGE (R406). -/
  | safeInEdge (k : Fin 8) (chB high : Bool) (time : Dword)
  /-- SAFE_IN_FILTER_EXPIRY (R406). -/
  | safeInFilterExpiry (k : Fin 8) (time : Dword)
  /-- DISCREPANCY_EXPIRY (R406). -/
  | discrepancyExpiry (k : Fin 8) (time : Dword)
  /-- TP_TEST_PULSE (R407). -/
  | tpTestPulse (tp1 : Bool) (during after : BitVec 16) (time : Dword)
  /-- OSSD_INTERVAL_EXPIRY (R408). -/
  | ossdIntervalExpiry (k : Fin 8) (chB : Bool)
  /-- PROCTOR_EVENT (R415). -/
  | proctorEvent
  /-- HM_CHALLENGE (R422). -/
  | hmChallenge (cycles : BitVec 32)
  /-- HM_ANSWER (R424). -/
  | hmAnswer (errors : BitVec 24) (ns : BitVec 20)
  /-- HM_ANSWER_WINDOW_EXPIRY (R424). -/
  | hmAnswerWindowExpiry
  /-- HM_SUPPLY_FAULT (R424). -/
  | hmSupplyFault
  /-- CANS_STATUS_TIMER (R443). -/
  | cansStatusTimer (time : Dword)
  /-- CANS_COMMAND (R430). -/
  | cansCommand (id : BitVec 11) (frame : List Byte)
  /-- CANS_TIMEOUT (R430). -/
  | cansTimeout
  /-- BODY_PDU (R460). -/
  | bodyPdu (id : BitVec 11) (frame : List Byte)
  /-- HOST_REQUEST_RELEASE (R438). -/
  | hostRequestRelease (r : Requester) (arg : BitVec 24)
  /-- PORST_N_ASSERT (R526). -/
  | porstNAssert (ns : Word)
  /-- BOOT_START (R439). -/
  | bootStart (failed : BitVec 256) (readFail : BitVec 4) (recFail : Bool) (time : Dword)
  /-- FLASH_ERASE (R456). -/
  | flashErase (r : Requester) (arg : BitVec 24)
  /-- FLASH_WRITE (R456). -/
  | flashWrite (r : Requester) (arg : BitVec 24)
  /-- VERIFY_SLOT (R457). -/
  | verifySlot (r : Requester) (arg : BitVec 24)
  /-- SET_PREFERRED (R446). -/
  | setPreferred (r : Requester) (arg : BitVec 24)
  /-- CONFIRM (R457). -/
  | confirm (r : Requester) (arg : BitVec 24)
  /-- COMMIT_SVN (R457). -/
  | commitSvn (r : Requester) (arg : BitVec 24)
  /-- REVOKE_KEY (R450). -/
  | revokeKey (r : Requester) (arg : BitVec 24)
  /-- DEVICE_RESET (R454). -/
  | deviceReset (r : Requester) (arg : BitVec 24)
  /-- QUOTE (R459). -/
  | quote (r : Requester) (arg : BitVec 24)
  /-- SEAT_ACCEPT (R463). -/
  | seatAccept (r : Requester) (arg : BitVec 24)
  /-- FLEET_ENROL (R462). -/
  | fleetEnrol (r : Requester) (arg : BitVec 24)
  /-- NO_BODY_TIMEOUT (R464). -/
  | noBodyTimeout
  /-- DWELL_EXPIRY (R474). -/
  | dwellExpiry (time : Dword)
  /-- WAKE (R487). -/
  | wakeCmd (r : Requester) (arg : BitVec 24)
  /-- DYN_ALARM_EXPIRY (R476). -/
  | dynAlarmExpiry
  /-- WAKE_COMPLETE (R478). -/
  | wakeComplete (time : Dword) (flashFail : Bool)
  /-- THERMAL_SAMPLE (R482). -/
  | thermalSample (sec die : Word) (tooHot : Bool) (time : Dword)
  /-- PWRWARN_ASSERT (R485). -/
  | pwrwarnAssert
  /-- PWRWARN_CLEAR (R485). -/
  | pwrwarnClear
  /-- PCIE_CONFIG_REQUEST (R492). -/
  | pcieConfigRequest (req : CfgReq) (time : Dword)
  /-- PCIE_LINK_RESET (R497). -/
  | pcieLinkReset (perst : Bool) (released : Dword)
  /-- PCIE_LANE_LOSS (R494). -/
  | pcieLaneLoss
  /-- RETRAIN (R494). -/
  | retrain (r : Requester) (d : Fin 2) (arg : BitVec 24)
  /-- MSIX_UNMASK (R496). -/
  | msixUnmask (e : Fin 64) (masked : Bool)
  /-- HOST_COMPLETION (R184). -/
  | hostCompletion (c : Fin 8) (row : Nat) (got : HostRow)
  /-- HOST_COMPLETION_TIMEOUT (R184). -/
  | hostCompletionTimeout (c : Option (Fin 8)) (row : Nat)
  /-- ETH_FRAME_RECEIVE (R506). -/
  | ethFrameReceive (m : Fin 4) (frame : List Byte) (fcsOk : Bool) (time : Dword)
  /-- ETH_FRAME_TRANSMIT (R504). -/
  | ethFrameTransmit (m : Fin 4) (host : List HostChunk) (time : Dword)
  /-- ETH_LINK_CHANGE (R507). -/
  | ethLinkChange (m : Fin 4) (speed : BitVec 3)
  /-- GPTP_MESSAGE_RECEIVE (R500). -/
  | gptpMessageReceive (m : Fin 4) (msg : GptpMsg)
  /-- GPTP_SYNC_SEND (R502). -/
  | gptpSyncSend (m : Fin 4) (time : Dword)
  /-- GPTP_PDELAY (R500). -/
  | gptpPdelay (m : Fin 4) (delay : Word)
  /-- QBV_CYCLE_START (R503). -/
  | qbvCycleStart (m : Fin 4) (time : Dword)
  /-- QBV_APPLY (R505). -/
  | qbvApply (r : Requester) (m : Fin 4) (arg : BitVec 24)
  /-- CAN_FRAME_RECEIVE (R509). -/
  | canFrameReceive (m : Fin 4) (f : CanFrame) (time : Dword)
  /-- CAN_FRAME_TRANSMIT (R509). -/
  | canFrameTransmit (m : Fin 4) (arbLost : Bool) (time : Dword)
  /-- CAN_BUS_OFF (R509). -/
  | canBusOff (m : Fin 4)
  /-- CAN_BUS_OFF_RECOVERY (R509). -/
  | canBusOffRecovery (m : Fin 4)
  /-- COMP_FRAME_START (R515). -/
  | compFrameStart (time : Dword)
  /-- COMP_LINE_UNDERRUN (R515). -/
  | compLineUnderrun (line x : BitVec 11)
  /-- COMP_WRITEBACK_DONE (R514). -/
  | compWritebackDone
  /-- COMMIT (R518). -/
  | commitLayers (r : Requester) (arg : BitVec 24)
  /-- DCS_SEND (R516). -/
  | dcsSend (r : Requester) (arg : BitVec 24)
  /-- DCS_READ (R516). -/
  | dcsRead (r : Requester) (arg : BitVec 24) (answer : Option Dword)
  /-- SUPPLY_MONITOR_FAULT (R524). -/
  | supplyMonitorFault (vddSafe : Bool)
  /-- PROCTOR_HANG (R401). -/
  | proctorHang
  /-- PCIE_LINK_UP (R497). -/
  | pcieLinkUp (speed : BitVec 3) (width : BitVec 4)
  /-- LINK_EXIT_FROM_L1 (R476). -/
  | linkExitFromL1
  deriving DecidableEq, Repr

end Sys2Proof
end

