-- ==== Sys2Proof/Decode.lean ====
section
/-!
DEFINITION. Table words. The rows of spec/opcode_table.json give no command any bits, so no word spells one: the block takes
its commands as commands, not as words.
-/

namespace Sys2Proof

/-- The command a word spells by the bits of the table: none, since the table gives no row bits. -/
def decodeTableWord (_nbits _w : Nat) : Option Instr := none

end Sys2Proof
end

