-- ==== Sys2Proof/Config.lean ====
section
/-!
DEFINITION. What the manual leaves open: constants without a body. Nothing can be proved of their values, so a statement
that holds of the model holds whatever they are. Each is named in a log entry.
-/

namespace Sys2Proof.Config

/-- A fresh unspecified word: the draw (State.freeCtr) and an index within it (log entry 10). -/
opaque freeWord : Nat → Nat → Word

/-- Which element of the windows element k of activation row r of a pass is: output row and column, window row and column, channel.
The manual gives the descriptor (Table 7-3) and not the order of the elements (log entry 20). -/
opaque agdPick (desc : List Byte) (f : MxFields) (row k : Nat) : Nat × Nat × Nat × Nat × Nat

/-- A byte of a scratchpad whose contents are unspecified, by the key of what made it so and its address (R222, R225; log entry
152). -/
opaque staleByte (key a : Nat) : Byte

/-- Lanes 1 to 63 after VX.LRED, by the vector combined (log entry 22). -/
opaque lredLane (maximum : Bool) (v : BitVec 2048) (lane : Nat) : Word

/-- VX.ARGMAX over a vector that holds a NaN (log entry 22). -/
opaque argmaxNan (v : BitVec 2048) : Word

/-- Element index, within the bytes of a weight block, of the weight of reduction row k and output channel n (log entry
20). -/
opaque weightIndex (mode k n : Nat) : Nat

/-- Byte offset, in the per-channel table, of a field for output channel n: 0 bias, 1 mult, 2 s, 3 scale, 4 lo, 5 hi,
6 zero point (log entry 20). -/
opaque chanOffset (outFmt field n : Nat) : Nat

/-- The value of a table function of R197 for an operand that is not special, where it keeps the rule's bound (log entry 22). -/
opaque vxFn (op : VxFnOp) (x : BitVec 32) : BitVec 32

/-- The result of an integer vector operation whose exact result does not fit its element (log entry 22). -/
opaque vxIntOverflow (width : Nat) (exact : Int) : Nat

/-- Minimum or maximum of two floating-point elements of which one is NaN, or which are zeros of both signs (log entry 22). -/
opaque vxMinMax (fmt : Nat) (maximum : Bool) (a b : Nat) : Nat

/-- A shift by the element width or more (log entry 22). -/
opaque overShift (width op a amount : Nat) : Nat

/-- What a vector compare writes for an outcome (log entry 22). -/
opaque cmpValue (width : Nat) (outcome : Bool) : Nat

/-- Whether a mask element selects va (log entry 22). -/
opaque maskSelects (v : Nat) : Bool

/-- What a scalar compare of CT.ALU writes for an outcome (log entry 22). -/
opaque ctCmp (outcome : Bool) : Word

/-- Source code of an engine (PFE, DPP, Codec, KV Pager, Loop Engine, MAC, CAN port, Compositor) in records (log entry 11). -/
opaque engineSource : Nat

/-- ELEM of a stream the device encodes (log entry 26). -/
opaque streamElem : Nat

end Sys2Proof.Config
end

