-- ==== Sys2Proof/Machine/Bits.lean ====
section
/-!
DEFINITION. Bit fields, byte order, checks and the sparse tables that hold registers and memory.
-/

namespace Sys2Proof.Machine

/-- Field [hi:lo] of a register (R12). -/
def fld (w : Word) (hi lo : Nat) : Nat := (w.toNat >>> lo) % 2 ^ (hi + 1 - lo)

/-- Bit i of a register (R12). -/
def bit (w : Word) (i : Nat) : Bool := w.toNat.testBit i

/-- A register with field [hi:lo] replaced by the low bits of v. -/
def setFld (w : Word) (hi lo v : Nat) : Word :=
  let m := (2 ^ (hi + 1 - lo) - 1) <<< lo
  BitVec.ofNat 32 ((w.toNat &&& (0xFFFFFFFF ^^^ m)) ||| ((v <<< lo) &&& m))

def setBit (w : Word) (i : Nat) (b : Bool) : Word := setFld w i i (if b then 1 else 0)

def word (n : Nat) : Word := BitVec.ofNat 32 n

/-- A two's-complement field of n bits as an integer. -/
def sext (n v : Nat) : Int := if v % 2 ^ n < 2 ^ (n - 1) then (v % 2 ^ n : Nat) else ((v % 2 ^ n : Nat) : Int) - (2 ^ n : Nat)

/-- An integer wrapped to an n-bit field. -/
def wrapBits (n : Nat) (i : Int) : Nat := (i % ((2 ^ n : Nat) : Int)).toNat

/-- An integer limited to lo..hi. -/
def clampInt (lo hi i : Int) : Int := max lo (min hi i)

/-- A counter that saturates at top. -/
def satInc (top n : Nat) : Nat := if n < top then n + 1 else top

/-- Little-endian value of a byte string (R13). -/
def leNat : List Byte → Nat
  | [] => 0
  | b :: bs => b.toNat + 256 * leNat bs

/-- The n low bytes of a value, least significant first (R13). -/
def leBytes : Nat → Nat → List Byte
  | 0, _ => []
  | n + 1, v => BitVec.ofNat 8 v :: leBytes n (v / 256)

/-- Big-endian value of a byte string. -/
def beNat (bs : List Byte) : Nat := leNat bs.reverse

def wordAt (bs : List Byte) (off : Nat) : Word := BitVec.ofNat 32 (leNat ((bs.drop off).take 4))

def byteAt (bs : List Byte) (off : Nat) : Nat := (bs.getD off 0).toNat

def halfAt (bs : List Byte) (off : Nat) : Nat := leNat ((bs.drop off).take 2)

/-- One byte into a reflected CRC register. -/
def crcReflByte (poly : Nat) : Nat → Nat → Nat
  | 0, c => c
  | k + 1, c => crcReflByte poly k (if c % 2 = 1 then (c / 2) ^^^ poly else c / 2)

/-- The CRC-32 of Table 2-6's text: 0x04C1_1DB7 reflected, initial value and final XOR 0xFFFF_FFFF. -/
def crc32 (bs : List Byte) : Word :=
  BitVec.ofNat 32 ((bs.foldl (fun c b => crcReflByte 0xEDB88320 8 (c ^^^ b.toNat)) 0xFFFFFFFF) ^^^ 0xFFFFFFFF)

/-- One bit step of an unreflected CRC of width w. -/
def crcMsbBits (w poly : Nat) : Nat → Nat → Nat
  | 0, c => c
  | k + 1, c =>
    let c2 := (c <<< 1) % 2 ^ w
    crcMsbBits w poly k (if c.testBit (w - 1) then c2 ^^^ poly else c2)

/-- An unreflected byte-wise CRC of width w (at least 8). -/
def crcMsb (w poly init : Nat) (bs : List Byte) : Nat :=
  bs.foldl (fun c b => crcMsbBits w poly 8 (c ^^^ (b.toNat <<< (w - 8)))) init

/-- A sparse table: keys in rising order, no entry equal to the default of its key. -/
abbrev Tab (α : Type) := List (Nat × α)

/-- The entry of key a, or the default. -/
def tabGet {α : Type} (d : α) : List (Nat × α) → Nat → α
  | [], _ => d
  | (k, v) :: m, a => if k = a then v else tabGet d m a

/-- Removes every entry of key a. -/
def tabErase {α : Type} : List (Nat × α) → Nat → List (Nat × α)
  | [], _ => []
  | (k, w) :: m, a => if k = a then tabErase m a else (k, w) :: tabErase m a

/-- Puts an entry before the first greater key. -/
def tabInsert {α : Type} : List (Nat × α) → Nat → α → List (Nat × α)
  | [], a, v => [(a, v)]
  | (k, w) :: m, a, v => if a < k then (a, v) :: (k, w) :: m else (k, w) :: tabInsert m a v

/-- Sets key a to v. An entry equal to the default is removed, so that equal tables are equal data. -/
def tabSet {α : Type} [DecidableEq α] (d : α) (m : List (Nat × α)) (a : Nat) (v : α) : List (Nat × α) :=
  if v = d then tabErase m a else tabInsert (tabErase m a) a v

/-- Sets n consecutive keys from a to the values of a list. -/
def tabSetList {α : Type} [DecidableEq α] (d : α) (m : List (Nat × α)) (a : Nat) : List α → List (Nat × α)
  | [] => m
  | v :: vs => tabSetList d (tabSet d m a v) (a + 1) vs

/-- The canonical form: keys strictly rising from lo on, no entry equal to the default. -/
def tabWfFrom {α : Type} [DecidableEq α] (d : Nat → α) : Nat → List (Nat × α) → Bool
  | _, [] => true
  | lo, (k, v) :: m => decide (lo ≤ k) && decide (v ≠ d k) && tabWfFrom d (k + 1) m

def tabWf {α : Type} [DecidableEq α] (d : Nat → α) (m : List (Nat × α)) : Bool := tabWfFrom d 0 m

/-- Replaces entry i of a list. -/
def listSet {α : Type} : List α → Nat → α → List α
  | [], _, _ => []
  | _ :: xs, 0, v => v :: xs
  | x :: xs, i + 1, v => x :: listSet xs i v

/-- Repeats an update over the numbers 0 to n − 1, in rising order. -/
def forUpto {σ : Type} (n : Nat) (f : Nat → σ → σ) (s : σ) : σ := (List.range n).foldl (fun s i => f i s) s

def forIn' {σ α : Type} (l : List α) (f : α → σ → σ) (s : σ) : σ := l.foldl (fun s a => f a s) s

/-- The CRC-16 of R175 and R392: polynomial 0x1021, initial value 0xFFFF. -/
def crc16 (bs : List Byte) : Nat := crcMsb 16 0x1021 0xFFFF bs

/-- Bits of an integer square root, from bit b − 1 down. -/
def isqrtBits (n : Nat) : Nat → Nat → Nat
  | 0, r => r
  | b + 1, r => isqrtBits n b (if (r + 2 ^ b) * (r + 2 ^ b) ≤ n then r + 2 ^ b else r)

/-- The integer square root, rounded down. -/
def isqrt (n : Nat) : Nat := isqrtBits n (n.log2 / 2 + 1) 0

end Sys2Proof.Machine
end

