-- ==== Sys2Proof/Machine/Streams.lean ====
section
/-!
DEFINITION. Compressed streams (section 9.3): headers, index and blocks, WPK-F and APK-V, bit by bit.
-/

namespace Sys2Proof.Machine

/-! ## Bit strings (R284) -/

/-- Bits of bytes: bit n of the string is bit n mod 8 of byte n / 8. -/
def bitString (bs : List Byte) : List Bool := bs.flatMap fun b => (List.range 8).map b.toNat.testBit

/-- A field of n bits, least significant first. -/
def takeBits : Nat → List Bool → Option (Nat × List Bool)
  | 0, l => some (0, l)
  | _ + 1, [] => none
  | n + 1, b :: l => match takeBits n l with
    | some (v, r) => some (b.toNat + 2 * v, r)
    | none => none

/-- A value as n bits, least significant first. -/
def toBits : Nat → Nat → List Bool
  | 0, _ => []
  | n + 1, v => v.testBit 0 :: toBits n (v / 2)

/-- The bytes of a bit string, its last byte filled with 0. -/
def packBits (l : List Bool) : List Byte :=
  (List.range ((l.length + 7) / 8)).map fun i =>
    BitVec.ofNat 8 (((l.drop (8 * i)).take 8).foldr (fun b n => b.toNat + 2 * n) 0)

/-- What a decoder leaves of a payload is less than a byte and 0 (R284, R291). -/
def bitsEnd (payload : Nat) (rest : List Bool) : Bool :=
  decide (rest.length < 8) && rest.all (!·) && decide (0 < payload)

/-! ## Stream header (Table 9-5, R281) -/

/-- A stream header and what a decode needs of its tables. -/
structure StreamHead where
  wpkf : Bool
  tables : Nat
  blocks : Nat
  outBytes : Nat
  indexOff : Nat
  tableOff : Nat
  blockOff : Nat
  streamBytes : Nat
  deriving DecidableEq, Repr

def parseHead (bs : List Byte) : Option StreamHead :=
  let w := fun o => (wordAt bs o).toNat
  let h : StreamHead :=
    { wpkf := decide (w 0 = 0x464B5057), tables := fld (wordAt bs 4) 20 16, blocks := fld (wordAt bs 8) 14 0, outBytes := w 0x0C,
      indexOff := w 0x10, tableOff := w 0x14, blockOff := w 0x18, streamBytes := w 0x1C }
  let tablesOk := if h.wpkf then decide (1 ≤ h.tables) && decide (h.tables ≤ 16) else decide (h.tables = 0)
  if (w 0 = 0x464B5057 ∨ w 0 = 0x564B5041) ∧ fld (wordAt bs 4) 7 0 = 1 ∧ tablesOk ∧ 1 ≤ h.blocks ∧ h.blocks ≤ 16384 ∧
     fld (wordAt bs 4) 15 12 = 0 ∧ fld (wordAt bs 4) 31 21 = 0 ∧ fld (wordAt bs 8) 31 15 = 0 ∧ ((bs.drop 0x20).take 0x20).all (· == 0) ∧
     4096 * (h.blocks - 1) < h.outBytes ∧ h.outBytes ≤ 4096 * h.blocks ∧ h.indexOff % 4 = 0 ∧ h.blockOff % 8 = 0
  then some h else none

/-- Decoded bytes of block i (R281). -/
def StreamHead.outOf (h : StreamHead) (i : Nat) : Nat := if i + 1 = h.blocks then h.outBytes - 4096 * i else 4096

/-! ## WPK-F (R286, R287) -/

/-- Code length of every byte value. -/
def codeLengths (table : List Byte) : List Nat :=
  (List.range 256).map fun s => byteAt table (s / 2) / (if s % 2 = 0 then 1 else 16) % 16

/-- Byte values with codes of L bits, ascending, and the first of their codes; for L from 1 to 12. None: more codes than L
bits hold. -/
def codeRows (lens : List Nat) : Nat → Nat → Nat → Option (List (Nat × List Nat))
  | 0, _, _ => some []
  | n + 1, L, code =>
    let syms := (List.range 256).filter fun s => decide (lens.getD s 0 = L)
    if 2 ^ L < code + syms.length then none
    else match codeRows lens n (L + 1) (2 * (code + syms.length)) with
      | some r => some ((code, syms) :: r)
      | none => none

/-- The canonical codes of a table; none: the table is invalid. -/
def codeTable (table : List Byte) : Option (List (Nat × List Nat)) :=
  let lens := codeLengths table
  if lens.any (fun l => decide (12 < l)) || lens.all (fun l => decide (l = 0)) then none else codeRows lens 12 1 0

/-- One code, its first bit the most significant. -/
def decodeCode : List (Nat × List Nat) → Nat → List Bool → Option (Nat × List Bool)
  | [], _, _ => none
  | _ :: _, _, [] => none
  | row :: rows, code, b :: l =>
    let c := 2 * code + b.toNat
    if row.1 ≤ c ∧ c < row.1 + row.2.length then some (row.2.getD (c - row.1) 0, l) else decodeCode rows c l

def wpkfCodes (rows : List (Nat × List Nat)) : Nat → List Bool → Option (List Byte × List Bool)
  | 0, l => some ([], l)
  | n + 1, l => match decodeCode rows 0 l with
    | none => none
    | some (v, r) => match wpkfCodes rows n r with
      | some (bs, r') => some (BitVec.ofNat 8 v :: bs, r')
      | none => none

/-! ## APK-V (R288 to R290) -/

/-- The parameter record: prediction distance and whether elements have two bytes. -/
structure ApkvParam where
  dist : Nat
  wide : Bool
  deriving DecidableEq, Repr

def ApkvParam.ofNat (n : Nat) : ApkvParam := ⟨n % 512, n.testBit 9⟩
def ApkvParam.ok (p : ApkvParam) : Bool := decide (1 ≤ p.dist) && decide (p.dist ≤ 256)
def ApkvParam.esize (p : ApkvParam) : Nat := if p.wide then 2 else 1
def ApkvParam.bits (p : ApkvParam) : Nat := 8 * p.esize
def ApkvParam.toNat (p : ApkvParam) : Nat := p.dist + if p.wide then 512 else 0

/-- The parameter record of 16 bytes holds a valid S, and its reserved bits are 0 (R288). -/
def paramRecordOk (bs : List Byte) : Bool :=
  (ApkvParam.ofNat (wordAt bs 0).toNat).ok && decide (fld (wordAt bs 0) 31 10 = 0) && ((bs.drop 4).take 12).all (· == 0)

/-- The prediction of the next element, from the elements so far, latest first. -/
def ApkvParam.predict (p : ApkvParam) (rev : List Nat) : Nat := rev.getD (p.dist - 1) 0

def zigzag (b d : Nat) : Nat := if d < 2 ^ (b - 1) then 2 * d else 2 * (2 ^ b - d) - 1

def unzigzag (b z : Nat) : Nat := if z % 2 = 0 then z / 2 else (2 ^ b - (z + 1) / 2) % 2 ^ b

/-- Four zigzag values become four elements. -/
def groupElems (p : ApkvParam) : List Nat → List Nat → List Nat
  | [], rev => rev
  | z :: zs, rev => groupElems p zs ((p.predict rev + unzigzag p.bits z) % 2 ^ p.bits :: rev)

/-- k values of n bits. -/
def takeMany (n : Nat) : Nat → List Bool → Option (List Nat × List Bool)
  | 0, l => some ([], l)
  | k + 1, l => match takeBits n l with
    | none => none
    | some (v, r) => match takeMany n k r with
      | some (vs, r') => some (v :: vs, r')
      | none => none

/-- Tokens (Table 9-7) until total elements stand; the elements latest first. -/
def apkvTokens (p : ApkvParam) (total : Nat) : Nat → List Nat → List Bool → Option (List Nat × List Bool)
  | 0, rev, l => if rev.length = total then some (rev, l) else none
  | k + 1, rev, l =>
    if rev.length = total then some (rev, l)
    else match l with
      | false :: t => match takeBits 6 t with
        | some (n, r) => if total < rev.length + n + 1 then none else apkvTokens p total k (List.replicate (n + 1) 0 ++ rev) r
        | none => none
      | true :: false :: t => match takeBits 4 t with
        | some (w, r) =>
          if p.bits < w + 1 ∨ total < rev.length + 4 then none
          else match takeMany (w + 1) 4 r with
            | some (zs, r') => apkvTokens p total k (groupElems p zs rev) r'
            | none => none
        | none => none
      | true :: true :: t => match takeBits p.bits t with
        | some (v, r) => if total < rev.length + 1 then none else apkvTokens p total k (v :: rev) r
        | none => none
      | _ => none

def elemBytes (p : ApkvParam) (l : List Nat) : List Byte := l.flatMap (leBytes p.esize)

def bytesElems (p : ApkvParam) (bs : List Byte) : List Nat :=
  (List.range (bs.length / p.esize)).map fun i => leNat ((bs.drop (p.esize * i)).take p.esize)

/-! ## Blocks (R283 to R285, R291) -/

/-- Decodes one block. `tables` holds the code tables of WPK-F, `p` the record of APK-V. None: a decode error. -/
def decodeBlock (wpkf : Bool) (nTables : Nat) (tables : List Byte) (p : ApkvParam) (out : Nat) (bs : List Byte) : Option (List Byte) :=
  let w0 := wordAt bs 0
  let w1 := wordAt bs 4
  let n := fld w0 12 0
  let mode := fld w0 17 16
  let tbl := fld w0 23 20
  let payload := (bs.drop 8).take n
  let pad := ((bs.drop (8 + n)).take ((8 - n % 8) % 8))
  if n = 0 ∨ 4096 < n ∨ fld w0 15 13 ≠ 0 ∨ fld w0 19 18 ≠ 0 ∨ fld w0 31 24 ≠ 0 ∨ fld w1 31 13 ≠ 0 ∨ fld w1 12 0 ≠ out ∨ 1 < mode ∨
     (!(wpkf && decide (mode = 1)) && decide (tbl ≠ 0)) ∨ pad.any (fun b => b != 0) then none
  else if !wpkf && decide (out % p.esize ≠ 0) then none
  else if mode = 0 then (if n = out then some payload else none)
  else if wpkf then
    (if nTables ≤ tbl then none
     else match codeTable ((tables.drop (128 * tbl)).take 128) with
      | none => none
      | some rows => match wpkfCodes rows out (bitString payload) with
        | some (r, rest) => if bitsEnd n rest then some r else none
        | none => none)
  else match apkvTokens p (out / p.esize) out [] (bitString payload) with
    | some (rev, rest) => if bitsEnd n rest then some (elemBytes p rev.reverse) else none
    | none => none

/-- Bits a value needs, at least 1. -/
def bitLen (n : Nat) : Nat := if n = 0 then 1 else Nat.log2 n + 1

/-- The tokens of R290 for the elements that are left. -/
def apkvEncode (p : ApkvParam) : Nat → List Nat → List Nat → List Bool
  | 0, _, _ => []
  | _ + 1, _, [] => []
  | k + 1, rev, x :: xs =>
    if x = 0 then
      let run := min 64 (((x :: xs).takeWhile fun y => decide (y = 0)).length)
      false :: toBits 6 (run - 1) ++ apkvEncode p k (List.replicate run 0 ++ rev) ((x :: xs).drop run)
    else if 3 ≤ xs.length then
      let four := (x :: xs).take 4
      let step := fun (a : List Nat × List Nat) (y : Nat) =>
        (a.1 ++ [zigzag p.bits ((y + 2 ^ p.bits - p.predict a.2) % 2 ^ p.bits)], y :: a.2)
      let r := four.foldl step ([], rev)
      let w := r.1.foldl (fun m z => max m (bitLen z)) 1
      true :: false :: toBits 4 (w - 1) ++ r.1.flatMap (toBits w) ++ apkvEncode p k r.2 ((x :: xs).drop 4)
    else true :: true :: toBits p.bits x ++ apkvEncode p k (x :: rev) xs

/-- One encoded block, RAW where CODED would not be shorter (R285). -/
def encodeBlock (p : ApkvParam) (bs : List Byte) : List Byte :=
  let coded := packBits (apkvEncode p bs.length [] (bytesElems p bs))
  let raw := decide (bs.length ≤ coded.length)
  let payload := if raw then bs else coded
  leBytes 4 (payload.length + if raw then 0 else 0x10000) ++ leBytes 4 bs.length ++ payload ++
    List.replicate ((8 - payload.length % 8) % 8) 0

/-- The block area's offset in a stream of n blocks that the device writes (R295). -/
def encodedBlockOff (n : Nat) : Nat := (0x50 + 4 * n + 7) / 8 * 8

/-- Header, parameter record and index of a stream the device writes (R295). ELEM is information only and the manual gives
the device no value for it (free value, log entry 26). -/
def encodedHead (p : ApkvParam) (rawBytes : Nat) (blocks : List (List Byte)) : List Byte :=
  let n := blocks.length
  let off := encodedBlockOff n
  let index := (blocks.foldl (fun a b => (a.1 ++ leBytes 4 a.2, a.2 + b.length)) (([] : List Byte), off))
  leBytes 4 0x564B5041 ++ leBytes 4 (1 + Config.streamElem % 16 * 0x100) ++ leBytes 4 n ++ leBytes 4 rawBytes ++ leBytes 4 0x50 ++
    leBytes 4 0x40 ++ leBytes 4 off ++ leBytes 4 index.2 ++ leBytes 32 0 ++
    leBytes 16 p.toNat ++ index.1 ++ leBytes (off - (0x50 + 4 * n)) 0

/-- 4 KiB pieces of a byte string. -/
def blocksOf (bs : List Byte) : List (List Byte) :=
  (List.range ((bs.length + 4095) / 4096)).map fun i => (bs.drop (4096 * i)).take 4096

/-- A whole APK-V stream. -/
def encodeStream (p : ApkvParam) (bs : List Byte) : List Byte :=
  let bl := (blocksOf bs).map (encodeBlock p)
  encodedHead p bs.length bl ++ bl.flatten

/-- Where block i of a stream lies, from its index word (R282). -/
def blockAt (h : StreamHead) (word : Nat) (need : Nat) : Bool :=
  decide (word % 8 = 0) && decide (h.blockOff ≤ word) && decide (word + need ≤ h.streamBytes)

/-- Bytes of a block with its padding, from its header. -/
def blockSize (w0 : Word) : Nat := 8 + (fld w0 12 0 + 7) / 8 * 8

/-- Decodes a whole APK-V stream held in a byte string. -/
def decodeStream (bs : List Byte) : Option (List Byte) :=
  match parseHead bs with
  | none => none
  | some h =>
    let p := ApkvParam.ofNat (wordAt bs h.tableOff).toNat
    let offs := (List.range h.blocks).map fun i => (wordAt bs (h.indexOff + 4 * i)).toNat
    if h.wpkf || !paramRecordOk (bs.drop h.tableOff) || !((offs.zip (offs.drop 1)).all fun e => decide (e.1 < e.2)) then none
    else (List.range h.blocks).foldl (fun a i => match a with
      | none => none
      | some out =>
        let at' := (wordAt bs (h.indexOff + 4 * i)).toNat
        if blockAt h at' (blockSize (wordAt bs at')) then
          (match decodeBlock false 0 [] p (h.outOf i) ((bs.drop at').take (blockSize (wordAt bs at'))) with
           | some r => some (out ++ r)
           | none => none)
        else none) (some [])

/-- Host bytes that came back; none: an error completion. -/
def chunkRead (chunks : List HostChunk) (a n : Nat) : Option (List Byte) :=
  (List.range n).mapM fun i => chunks.findSome? fun c => if c.addr.toNat ≤ a + i then c.data[a + i - c.addr.toNat]? else none

/-- Some of the bytes came poisoned. -/
def chunkBad (chunks : List HostChunk) (a n : Nat) : Bool :=
  chunks.any fun c => c.ep && decide (c.addr.toNat < a + n) && decide (a < c.addr.toNat + c.data.length)

/-- The CRC-32 register after more bytes. -/
def crcRun (c : Nat) (bs : List Byte) : Nat := bs.foldl (fun c b => crcReflByte 0xEDB88320 8 (c ^^^ b.toNat)) c

end Sys2Proof.Machine
end

