-- ==== Sys2Proof/Machine/State.lean ====
section
/-!
DEFINITION. The state of the block: everything the manual gives it, as plain data, and its value at reset.
Registers are held in one table keyed by page and offset (`regs`), memory as a list of bytes in canonical form, and
what no register shows in one structure for each unit.
-/

namespace Sys2Proof.Machine

/-- Why the block stops. No command of the manual is left without an effect on these grounds; the type is closed. -/
inductive Fault where
  /-- Raised by no meaning of this model: every hardware fault of the manual is an effect on the state (a page state, a
  latch, an Excused bit). Safe. -/
  | none
  deriving DecidableEq, Repr

/-- Why a command has no meaning. -/
inductive Refusal where
  /-- Raised by an arm of Machine/Dispatch.lean whose command has no meaning yet. Safe: the run ends. -/
  | notModelled (mnemonic : String)
  deriving DecidableEq, Repr

/-- The grades of Table 0-2. -/
inductive Grade where
  | s1 | s2 | s2x | s4x
  deriving DecidableEq, Repr

/-- What assembly fixes: the grade, the temperature suffix and the stepping (R6, R8, R9). -/
structure Chip where
  grade : Grade
  hot : Bool
  stepping : Nat
  deriving DecidableEq, Repr

/-- The page states of Table 3-2. -/
inductive PageState where
  | off | idle | armed | running | hold | fault | excused | locked
  deriving DecidableEq, Repr

/-- A command that posted ACCEPTED (R99). -/
structure PendCmd where
  code : Nat
  seq : BitVec 16
  stateAt : PageState
  arg : BitVec 24
  deriving DecidableEq, Repr

/-- What the common header of a page shows and what lies behind it (section 3.2). -/
structure Page where
  owner : Nat
  lock : Bool
  state : PageState
  prev : PageState
  substate : Nat
  result : Word
  pending : Option PendCmd
  /-- QUIESCE commands that posted ACCEPTED; they leave a pending command in progress (R100). -/
  quiesces : List PendCmd
  crcOk : Bool
  status : Nat
  refusals : Nat
  syndrome : Nat
  pend : Word
  en : Word
  writes : Word
  cfgCrc : Word
  /-- The page's command count (R95). -/
  count : Nat
  /-- The last Beat check found a mismatch (R105). -/
  mismatch : Bool
  /-- The state before Dynamics powered the unit down (Table 3-3). -/
  asleep : Option PageState
  deriving DecidableEq, Repr

/-- A SET_TEMPO in progress (R73, R74). -/
structure TempoChange where
  pulse : Nat
  beats : Nat
  bars : Nat
  acceptedAt : Nat
  checked : Bool
  deriving DecidableEq, Repr

/-- The tick hierarchy behind the TEMPO page. -/
structure Tempo where
  /-- Index, from the epoch, of the Pulse boundary that falls next (R43). -/
  nextK : Nat
  /-- The Beat or Bar actions of that boundary have been taken (R45). -/
  beatDone : Bool
  ticks : Bool
  oscOk : Bool
  change : Option TempoChange
  /-- Latched companion words: requester code, page and offset, word (R51). -/
  latched : List (Nat × Nat × Word)
  /-- FSYNC outputs at their active level, and when each goes back (R58). -/
  fsync : List (Nat × Nat)
  /-- The Bar boundary each FSYNC output last asserted for. -/
  fsyncBar : List (Nat × Nat)
  /-- Sync intervals in a row with the offset below 1 µs (Table 2-2). -/
  syncGood : Nat
  /-- Part releases are suspended by QUIESCE of the TEMPO page. -/
  quiet : Bool
  /-- A QUIESCE that suspends releases from the next Beat boundary (Table 2-5). -/
  quietDue : Bool
  /-- STOP waits for the axes to lose torque (Table 2-5). -/
  stopping : Bool
  /-- The wake after TACET has completed at this Metronome value and ticks have not resumed (R46). -/
  resumeAfter : Option Nat
  deriving DecidableEq, Repr

/-- An activation of a Part. -/
structure Activation where
  release : Nat
  deadline : Nat
  /-- It is late and runs on under SKIP (Table 2-10). -/
  skipping : Bool
  /-- It is to stop at its next stop point (R226). -/
  stopping : Bool
  /-- It is on its group's tiles now. -/
  onTiles : Bool
  /-- It has been on its tiles and was switched out at this yield index. -/
  saved : Option Nat
  /-- Tiles on which CT.END has taken effect (R228). -/
  ended : List Nat
  /-- Number of the activation in its homeroom (CK.STAMP). -/
  number : Nat
  /-- Metronome value of a Part image fault one of its tiles raised (R236). -/
  faultAt : Option Nat
  deriving DecidableEq, Repr

/-- A Part descriptor (Table 2-7) with its placement and its run-time state. -/
structure Part where
  level : Nat
  late : Nat
  trigEn : Bool
  safety : Bool
  reflex : Bool
  every : Nat
  offset : Nat
  budget : Nat
  deadline : Nat
  engineNs : Nat
  tiles : Nat
  engines : Nat
  trigCue : Nat
  trigCount : Nat
  gap : Nat
  commonsBytes : Nat
  lockerBytes : Nat
  image : Nat
  partId : Nat
  /-- Tiles of the Part's group, in rising order; empty while unfit. -/
  group : List Nat
  unfit : Bool
  /-- Unfit at the throttle level in force (R483). -/
  throttled : Bool
  withdrawn : Bool
  /-- Ticks of LEVEL counted since the Score took effect, modulo EVERY (R59). -/
  phase : Nat
  /-- Releases still to come at these Metronome values (R60). -/
  due : List Nat
  lastRelease : Option Nat
  /-- A trigger is held until P/2 after the previous release (R61). -/
  held : Bool
  skipNext : Bool
  /-- Metronome value from which 2 × P without a release counts (R66). -/
  idleSince : Nat
  act : Option Activation
  activations : Nat
  deriving DecidableEq, Repr

/-- A Score (Table 2-6). -/
structure Score where
  offset : Nat
  lateRing : Nat
  lateLog2 : Nat
  lateVec : Nat
  parts : List Part
  deriving DecidableEq, Repr

/-- What lies behind a HOMEROOM page. -/
structure Hr where
  score : Option Score
  pendingScore : Option Score
  /-- An ADMIT in progress: the Score offset (R67). -/
  admitting : Option Nat
  windowCount : Nat
  /-- Start of the present violation window (R126). -/
  windowStart : Nat
  /-- Replaced Scores that still have activations, latest first (R67). -/
  oldScores : List Score
  /-- No Part is released (QUIESCE, HOLD). -/
  noRelease : Bool
  /-- A QUIESCE that bars releases from the next Beat boundary (Table 4-10). -/
  holdDue : Bool
  /-- Releases resume at the next Bar boundary. -/
  resumeAtBar : Bool
  /-- Shared-engine time used in this Beat, in ns (R65). -/
  engineUsed : Nat
  /-- A placement computed by re-admission that waits for the Bar boundary (R243). -/
  replaced : Option (List (List Nat))
  /-- A re-admission is in progress. -/
  readmit : Bool
  /-- Activations that were made, for stamp records. -/
  activations : Nat
  deriving DecidableEq, Repr

/-- How a Cue waiter ends (R146). -/
inductive WaitStatus where
  | ok | timeout | full | denied | cancelled
  deriving DecidableEq, Repr

/-- An entry of the waiter pool (R144). -/
structure Waiter where
  cue : Nat
  hr : Nat
  who : Requester
  n : Nat
  expiry : Nat
  /-- Position in a SY.WAITANY list. -/
  slot : Nat
  deriving DecidableEq, Repr

/-- The Cue unit (section 4.5). -/
structure CueUnit where
  /-- Counts of blocks 1 to 255, by Cue ID. -/
  counts : List (Nat × Word)
  /-- Copies of the hardware-event Cues: 256 × homeroom + Cue ID (R148). -/
  copies : List (Nat × Word)
  /-- Stamp of the latest signal of each hardware-event Cue (R147). -/
  stamps : List (Nat × Dword)
  /-- The waiter pool in order of arrival. -/
  waiters : List Waiter
  /-- How the latest waiter of a requester other than a tile ended. -/
  results : List (Requester × Nat × WaitStatus)
  deriving DecidableEq, Repr

/-- SRAM beside its bytes (sections 5.1 to 5.4). -/
structure SramAux where
  /-- 64-bit words stored poisoned, by address / 8, rising (R171). -/
  poison : List (Nat × Bool)
  /-- Check-bit errors standing in a word, by address / 8: 1 single, 2 double (R155, R178). -/
  errs : List (Nat × Nat)
  /-- Ranges of scratchpads whose contents are unspecified, latest first: first byte, past its last, a key (R222, R225). -/
  stale : List (Nat × Nat × Nat)
  /-- Slot tags, by 8192 × tile + slot (section 5.3.3). -/
  tags : List (Nat × Nat)
  /-- Metronome value of the latest uncorrectable error of a tile (0 to 31), a Commons block (32 + b) or a Locker channel
  (48 + 8k + c), plus 1. -/
  lastUe : List (Nat × Nat)
  /-- Units whose second uncorrectable error within 1 s has been met and that are to be Excused (R170, Table 5-6). -/
  condemned : List Nat
  /-- Corridor flits that failed all their resends and are yet to be delivered: source code, whether it writes, address / 64
  (R182). -/
  flits : List (Nat × Bool × Nat)
  /-- Host accesses held in PIANISSIMO, oldest first (R191). -/
  heldHost : List (Option (BitVec 20) × Nat × Bool × List Byte)
  deriving DecidableEq, Repr

/-- A DMA descriptor in progress (Table 5-10). -/
structure DmaJob where
  index : Nat
  src : Nat
  dst : Nat
  rowBytes : Nat
  srcMode : Nat
  dstMode : Nat
  srcHost : Bool
  dstHost : Bool
  done : Bool
  signalEn : Bool
  rows : Nat
  cue : Nat
  srcStride : Nat
  dstStride : Nat
  /-- Host read data that has come back, by source row; none: an error completion (R184). -/
  hostRows : List (Nat × Option (List Byte))
  /-- Rows whose data came poisoned, with EP set (R171, R279). -/
  epRows : List Nat
  /-- The next 64-byte access of the job. -/
  pos : Nat
  viol : Bool
  poisoned : Bool
  hostErr : Bool
  deriving DecidableEq, Repr

structure DmaChan where
  job : Option DmaJob
  quiescing : Bool
  deriving DecidableEq, Repr

/-- What holds a tile's sequencer (section 7.5). -/
inductive TileWait where
  | none
  /-- A tag wait: write, port class, slot (R167). -/
  | tag (write : Bool) (cls : Nat) (slot : Nat)
  /-- A Cue wait with its ST bit, status register and WAITANY flag. -/
  | cue (st : Bool) (sreg : Nat) (any : Bool)
  | sectionNet
  /-- A yield barrier at an index (R224). -/
  | barrier (k : Nat)
  /-- A phase change that waits for accesses in flight (R165). -/
  | phase (map : Word)
  deriving DecidableEq, Repr

/-- A hardware loop counter: runs left, first instruction, instruction after the last. -/
structure LoopCtr where
  left : Nat
  first : Nat
  past : Nat
  deriving DecidableEq, Repr

/-- A Tensor Tile behind its page. -/
structure Tile where
  /-- Homeroom and Part index of the activation on the tile. -/
  act : Option (Nat × Nat)
  pc : Nat
  progLen : Nat
  /-- Rank of the tile in its group. -/
  position : Nat
  /-- s1 to s15 (R221). -/
  sregs : List (Nat × Word)
  loops : List (Nat × LoopCtr)
  vregs : List (Nat × BitVec 2048)
  /-- Accumulator store: 32 × row + entry (R194). -/
  acc : List (Nat × BitVec 48)
  wActive : List Byte
  wLoaded : Option (List Byte)
  mode : Nat
  satBit : Bool
  outFmt : Nat
  actE5 : Bool
  wtE5 : Bool
  chanTable : Nat
  wait : TileWait
  /-- The instruction that waits to issue. -/
  held : Option Instr
  /-- A reduction vector offered to the Section network (R212). -/
  offered : Option (List Word)
  /-- Row and column of a pending INJECT_CK (R214). -/
  inject : Option (Nat × Nat)
  lastMismatch : Option Nat
  underBist : Bool
  choiceSeen : Bool
  lastYield : Nat
  /-- A QUIESCE or STOP of the page waits for the activation to leave the tile (Table 6-9). -/
  leaving : Bool
  /-- Metronome value at which the activation came onto the tile. -/
  since : Nat
  /-- Poison that follows data into vector registers, accumulator rows, weight buffers and scalar registers (R171). -/
  vPoison : List (Nat × Bool)
  accPoison : List (Nat × Bool)
  wPoison : Bool
  wLoadedPoison : Bool
  sPoison : List (Nat × Bool)
  offeredPoison : Bool
  /-- Units of an MV instruction already moved while it waits for a tag. -/
  progress : Nat
  /-- Absolute address of the tile's program (Table 7-2). -/
  prog : Nat
  /-- Ranges of the scratchpad that tile programs have written since the latest start of an activation (R222). -/
  touched : List (Nat × Nat)
  /-- Metronome value at which the wait in progress began, and its stall timeout in µs (R233). -/
  waitSince : Nat
  waitUs : Nat
  /-- The activation on the tile is a former one of its Part, which has been released again: it stops at its next stop point. -/
  ending : Bool
  deriving DecidableEq, Repr

/-- A note another unit sends the Proctor (Table 12-6): class, source code (Table 4-5), axis or unit, the axes it
concerns, further data. -/
structure Note where
  cls : Nat
  src : Nat
  unit : Nat
  axes : Nat
  info : Nat
  /-- Metronome value of the event (R334, R367). -/
  time : Nat
  /-- Part indices of a BASIS_CHANGE (R243), PART_ID of a late event (R71), page base and offset of an OWNER_VIOLATION (R82). -/
  data : List Nat
  deriving DecidableEq, Repr

/-- A memory write the device has sent to the host (R122, R171, R184). -/
structure HostWrite where
  addr : Nat
  pasid : Option Nat
  data : List Byte
  ep : Bool
  deriving DecidableEq, Repr

/-- What the block has sent out of itself, oldest first, and the answer of its latest read. -/
structure Outbox where
  /-- Data of the latest read answer. -/
  readData : List Byte
  readPoison : Bool
  /-- Answers of the BAR2 reads held in PIANISSIMO, in the order served: stream ID, address, data, poisoned (R191). -/
  served : List (Option (BitVec 20) × Nat × List Byte × Bool)
  /-- MSI-X messages sent, by table entry (R496). -/
  msix : List Nat
  hostWrites : List HostWrite
  /-- Frames sent on CAN_S, by identifier (Table 12-8). -/
  canS : List (Nat × List Byte)
  /-- Frames sent by the MACs and CAN ports, by port; gPTP messages by port, kind and Metronome value. -/
  eth : List (Nat × List Byte)
  can : List (Nat × List Byte)
  gptp : List (Nat × Nat × Nat)
  /-- The latest frame sent to the panel, in rows of pixels at panel depth (R513), and packets sent in escape mode. -/
  display : List (List (Nat × Nat × Nat))
  dcs : List (List Byte)
  /-- The latest configuration request was answered with Retry Status (R492). -/
  retry : Bool
  deriving DecidableEq, Repr

/-- The MSI-X side of the endpoint (R496). -/
structure Msix where
  linkUp : Bool
  enabled : Bool
  funcMask : Bool
  masked : BitVec 64
  pba : BitVec 64
  /-- PASID Enable (R495), the BARs as the host has set them, and when PCIE_PERST_N deasserted last (R492). -/
  pasidEn : Bool
  bars : List (Nat × Word)
  perstAt : Nat
  /-- Link Autonomous Bandwidth Status (R494). -/
  autoBw : Bool
  deriving DecidableEq, Repr


/-- What assembly and the fuses give one device (R450, R458, R462), with the ROM's key hashes (Table 13-5). -/
structure Fuses where
  svnS : Nat
  svnC : Nat
  /-- Revocation bits of the image keys. -/
  revoked : Nat
  /-- SHA-256 of the fleet key, once programmed. -/
  fleet : Option (List Byte)
  /-- Public Device Identity Key, x then y, and its certificate. -/
  pubKey : List Byte
  cert : List Byte
  romKeys : List (List Byte)
  deriving DecidableEq, Repr

/-- Boot, images and the Seat (chapter 13). -/
structure BootUnit where
  fuses : Fuses
  /-- The boot flash (Table 13-2) and its size in MiB. -/
  flash : List Host.Cell
  flashMib : Nat
  /-- Headers of the running images; empty: none. -/
  headS : List Byte
  headC : List Byte
  /-- The Seat record in force. -/
  seat : Option (List Byte)
  /-- SEAT_ACCEPT has posted DONE: SEATED at the next Beat boundary (Table 13-11). -/
  seatDue : Bool
  /-- Flash address, SRAM source and length of the pending IMAGE command; the record of the pending IDENTITY command. -/
  jobAddr : Nat
  jobSrc : Nat
  jobLen : Nat
  submit : List Byte
  deriving DecidableEq, Repr

/-- Dynamics beside its page (chapter 14). -/
structure DynUnit where
  /-- Metronome value at which the present state was entered or its time last credited; ns below a millisecond, by state. -/
  since : Nat
  resNs : List (Nat × Nat)
  /-- Target and floors as they were after the latest command. -/
  target : Nat
  floors : Nat
  /-- Service level, axis verdicts and SAFE_IN pairs as they were after the latest command. -/
  seen : List Word
  /-- From when the target has stayed deeper than the state (R474). -/
  dwellFrom : Option Nat
  /-- The dwell is over: the descent falls at the next Beat boundary. -/
  due : Bool
  /-- A wake in progress: source (Table 14-3), state it leaves, start. -/
  wake : Option (Nat × Nat × Nat)
  /-- A pending admission places a group in a gated Section (Table 14-2). -/
  sectionFloor : Bool
  /-- Thermal trip: tile clocks stand (R484). -/
  tripped : Bool
  /-- Metronome values of the latest throttle change and of the latest sample that was not below Tmax − O − 5 °C. -/
  throttleAt : Option Nat
  lastHot : Option Nat
  /-- A new fit waits for the Bar boundary (R483). -/
  fitDue : Bool
  deriving DecidableEq, Repr

/-- A gate control list: first cycle start, cycle time, entries (R503). -/
structure GateList where
  base : Nat
  cycle : Nat
  entries : List Word
  deriving DecidableEq, Repr

/-- An Ethernet MAC beside its page (section 15.3): operative and pending lists. -/
structure EthMac where
  oper : Option GateList
  pend : Option GateList
  deriving DecidableEq, Repr

/-- The Compositor beside its page (section 15.5). -/
structure CompUnit where
  /-- Layer registers and COMP_BG in force: 7 words for each layer, then the background. -/
  layers : List Word
  /-- When a pending COMMIT was accepted, and what it checked. -/
  commit : Option (Nat × List Word)
  /-- The frame in progress, in rows of 10-bit pixels. -/
  frame : List (List (Nat × Nat × Nat))
  /-- Its pixels that were composed from poisoned data (R171). -/
  bad : List (List Bool)
  /-- Frames started; a frame is in progress. -/
  started : Nat
  inFrame : Bool
  /-- Number of the frame that is being written back; the buffer it goes to. -/
  wb : Option Nat
  buf : Nat
  /-- QUIESCE or STOP waits for the end of the frame: 0 none, 1 QUIESCE, 2 STOP. -/
  ending : Nat
  /-- What the panel answers to the pending DCS_READ. -/
  answer : Option Dword
  deriving DecidableEq, Repr
/-- What stands behind the service level and the Roll Book. -/
structure LevelUnit where
  /-- Highest level a fault of the safety channels leaves (R404, R426). -/
  cap : Nat
  /-- A drop whose reaction starts at the next Beat boundary (R37). -/
  dropDue : Bool
  /-- Pages of axes still moving are locked when they lose torque (R94). -/
  lockDue : Bool
  /-- An axis that had torque lost its Loop Engine since the latest Beat boundary (R37). -/
  sick : Bool
  /-- Roll Book: published, as the minimal book of ROM recovery, GENERATION (R107, R109, R442). -/
  published : Bool
  minimal : Bool
  generation : Nat
  /-- Link of each I/O die or Locker stack is down (Table 3-10): I/O dies 0, 1, stacks 2 to 5. -/
  linkDown : List Nat
  /-- Log records written (PROC_LOG). -/
  logged : Nat
  deriving DecidableEq, Repr


/-- A sample of the memory source (R258): position, sample number, epoch, its augmentation record (8 words). -/
structure Sample where
  i : Nat
  j : Nat
  epoch : Nat
  aug : Option (List Word)
  deriving DecidableEq, Repr

/-- A frame of a camera, or a sample of the memory source, that the Pixel Front End has not committed. -/
structure CamFrame where
  fn : Nat
  fs : Nat
  fe : Option Nat
  /-- Payloads of the lines so far. -/
  lines : List (List Byte)
  /-- Lines the stream has delivered, those with an error too. -/
  got : Nat
  /-- A first error has been reported (R249). -/
  err : Bool
  /-- Discarded without a check (R252). -/
  discard : Bool
  sample : Option Sample
  /-- The Pixel Front End has started it: its header is zeroed, its mesh read. -/
  started : Bool
  mesh : List Word
  cfgCrc : Word
  /-- Output rows that have been written. -/
  rows : Nat
  poisoned : Bool
  deriving DecidableEq, Repr

/-- A camera port: receiver and Pixel Front End. -/
structure Cam where
  /-- The frame that is being received. -/
  frame : Option CamFrame
  /-- Frames received to their FE that are not committed yet, oldest first. -/
  waiting : List CamFrame
  /-- The sample of the memory source that is being processed (R258). -/
  sample : Option CamFrame
  /-- Latest non-zero frame number (R250). -/
  lastNum : Nat
  /-- SEQ of the latest commit; it skips 0 (Table 8-6). -/
  seq : Nat
  camQuiescing : Bool
  pfeQuiescing : Bool
  deriving DecidableEq, Repr

/-- A job the DPP has started: its homeroom, ring index, descriptor and queue count. -/
structure DppJob where
  hr : Nat
  index : Nat
  desc : List Byte
  /-- It is to end STOPPED (R268). -/
  stopped : Bool
  deriving DecidableEq, Repr

structure DppUnit where
  job : Option DppJob
  /-- Queue served last (R263). -/
  last : Nat
  /-- Jobs taken from each queue. -/
  seqs : List (Nat × Nat)
  /-- Queues whose EN was cleared; their pending jobs are kept (R269). -/
  kept : List Nat
  quiescing : Bool
  deriving DecidableEq, Repr

/-- A weight bank beside its registers (R272). -/
structure Bank where
  /-- Build bits that are set, by block. -/
  bits : List (Nat × Bool)
  epoch : Nat
  deriving DecidableEq, Repr

/-- A Codec job in progress (Table 9-9). -/
structure CodecJob where
  hr : Nat
  index : Nat
  /-- Grant offset of its descriptor. -/
  at' : Nat
  desc : List Byte
  /-- Destination of block 0 of the job's block numbers, and the bank's epoch at the start. -/
  dst : Nat
  epoch : Nat
  head : Option StreamHead
  /-- The stream header came poisoned; the index word of the latest block. -/
  headBad : Bool
  lastOff : Option Nat
  /-- The next block, the block after the last. -/
  next : Nat
  past : Nat
  /-- ENCODE: the blocks so far with their offsets. -/
  encoded : List (List Byte)
  /-- Bytes written and the running CRC register over them. -/
  bytes : Nat
  crc : Nat
  poisoned : Bool
  stopped : Bool
  deriving DecidableEq, Repr

/-- The Codec (section 9.4). -/
structure Codec where
  /-- Jobs in progress, at most one for each queue. -/
  jobs : List CodecJob
  /-- Queue served last (R296). -/
  last : Nat
  /-- Jobs ended of each queue. -/
  seqs : List (Nat × Nat)
  /-- Queues whose EN was cleared; their pending jobs are kept (R299). -/
  kept : List Nat
  deriving DecidableEq, Repr

/-- A swap-out that waits for its read-back (R307). -/
structure KvSwap where
  seq : Nat
  crc : Word
  deriving DecidableEq, Repr

/-- A KV request in progress (Table 9-13). -/
structure KvReq where
  index : Nat
  bytes : List Byte
  number : Nat
  /-- Host data its swap-ins read. -/
  host : List HostChunk
  /-- BATCH: the entry to treat next, results of the entries before it (result, first position, admitted), victims whose
  swap-out failed. -/
  entry : Nat
  results : List (Nat × Nat × Nat)
  failed : List Nat
  deriving DecidableEq, Repr

/-- The KV Pager (section 9.5). -/
structure Kv where
  req : Option KvReq
  swap : Option KvSwap
  /-- Pool pages in use, each with its sequence + 1. -/
  used : List (Nat × Nat)
  /-- Requests taken and batches run since ENABLE. -/
  requests : Nat
  batches : Nat
  quiescing : Bool
  /-- The request in progress was stopped and its STATUS is still to be written. -/
  halted : Bool
  deriving DecidableEq, Repr

/-- A duty write that waits for its update point (R356). -/
structure DutyWrite where
  ab : Word
  c : Word
  time : Nat
  deriving DecidableEq, Repr

/-- A Power Stage Port beside its page. -/
structure Port where
  pending : Option DutyWrite
  /-- Start of the open fault window (R363), its leg, the switches that stay on in it. -/
  window : Option Nat
  leg : Nat
  held : List Nat
  ascSince : Option Nat
  /-- The latest soft turn-off: switch, start, length of its ramp in ns (R358). -/
  soft : Option (Nat × Nat × Nat)
  /-- Held in ALL_OFF until reset after a link loss (R22). -/
  link : Bool
  deriving DecidableEq, Repr

/-- CALIBRATE in progress (R372). -/
structure Calib where
  mask : Nat
  count : Nat
  sums : List Nat
  deriving DecidableEq, Repr

/-- An Angle Tracker beside its page (section 11.4). Angles are counted over whole turns in units of 2^-32 turn. -/
structure Tracker where
  /-- Angle at the latest tooth, edge or JSL Pulse, and the one before. -/
  pos : Int
  prev : Int
  /-- Angle at the latest Pulse boundary. -/
  pulsePos : Int
  /-- Stamp of the latest tooth, edge or JSL Pulse; of the latest real tooth. -/
  last : Nat
  lastReal : Nat
  lastSynth : Bool
  /-- I1 (R378) and real intervals measured since the start or HALT (R384). -/
  interval : Nat
  intervals : Nat
  /-- No tooth since the start or HALT. -/
  fresh : Bool
  /-- Stamps of SEARCH, latest first (R382). -/
  history : List Nat
  /-- SYNC before HALT. -/
  before : Nat
  /-- Pulses since a gap mismatch in SYNC (R383). -/
  mismatch : Option Nat
  /-- Slots fired in this interval; events fired since the last confirmed gap; deferred slots. -/
  fired : List Nat
  firedCount : Nat
  deferred : List Nat
  /-- Event slots in force: 2e angle, 2e + 1 control. -/
  slots : List (Nat × Word)
  a : Bool
  b : Bool
  z : Bool
  edgeA : Nat
  edgeB : Nat
  count : Int
  /-- Illegal edges in this Pulse. -/
  illegal : Nat
  zLost : Bool
  /-- The latest two good JSL samples with their stamps. -/
  samples : List (Int × Nat)
  missed : Nat
  goods : Nat
  deriving DecidableEq, Repr

/-- A Joint Sensor Link port beside its page (section 11.6). -/
structure JslPort where
  /-- Index of the Pulse boundary that follows the latest transaction's Pulse. -/
  pulse : Nat
  /-- The request last sent. -/
  request : List Byte
  /-- Devices that have still to respond, the sample stamp of the transaction. -/
  left : List Nat
  stamp : Nat
  /-- ACYC waits for the next transaction; the transaction in progress is acyclic. -/
  acyc : Bool
  acycSent : Bool
  /-- Good responses that become available at the next Pulse boundary: device, payload, stamp. -/
  ready : List (Nat × List Byte × Nat)
  quiescing : Bool
  /-- STOP waits for the end of the frame in progress (R397). -/
  stopping : Bool
  deriving DecidableEq, Repr

/-- A response capture of a Loop Engine (section 10.9). -/
structure Capture where
  cfg : Word
  count : Nat
  /-- Grant offset of the header. -/
  offset : Nat
  /-- Pulses sampled since the start, records written, Metronome value of the first sample. -/
  ticks : Nat
  written : Nat
  first : Nat
  inj : Bool
  cut : Bool
  ended : Bool
  deriving DecidableEq, Repr

/-- Injection in progress (R346): phase, LFSR, Pulses since the start. -/
structure Inject where
  ph : Nat
  lfsr : Nat
  n : Nat
  deriving DecidableEq, Repr

/-- A Loop Engine beside its page (chapter 10). -/
structure LoopAxis where
  /-- Writes that wait for the next Pulse boundary, by offset (R324). -/
  staged : List (Nat × Word)
  /-- The safety limit word received for the next boundary: word, sequence bit, CRC valid (R325). -/
  recv : Option (Word × Bool × Bool)
  /-- Sequence bit of the latest Pulse; none before the first good word. -/
  seq : Option Bool
  /-- The latest word was bad (R326). -/
  bad : Bool
  /-- Observer (R328), α and β: measured current, voltage applied, back-EMF. -/
  iPrev : Int × Int
  vPrev : Int × Int
  emf : Int × Int
  wHat : Int
  thHat : Nat
  /-- Pulses in a row with conf below, and at or above, OBS_CONF_MIN (R329 to R331). -/
  low : Nat
  high : Nat
  openTh : Nat
  rideTh : Nat
  rideW : Int
  rideAt : Nat
  blendK : Nat
  obsPos : Int
  /-- Encoder position at the latest Pulse. -/
  encPrev : Option Int
  pTgt : Int
  vTgt : Int
  vFf : Int
  /-- A commit that waits for the next boundary, and the latest one taken (R341). -/
  commit : Option (Int × Int)
  last : Option (Int × Int)
  since : Nat
  stale : Bool
  clamped : Bool
  /-- STOP runs its stop profile (Table 10-9). -/
  stopping : Bool
  /-- Position held after standstill. -/
  hold : Option Int
  /-- Pulses in a row at standstill (R327). -/
  still : Nat
  /-- DIFFERENCE memories. -/
  diff : List Int
  /-- The previous Pulse was LIMITED or current-limited (R322, R357). -/
  blocked : Bool
  /-- Count of the pulse input at the latest Pulse (R343). -/
  count : Int
  /-- State sources of the latest computation, by code (Table 10-2). -/
  sig : List Int
  cap : Option Capture
  inj : Option Inject
  deriving DecidableEq, Repr

/-- What keeps a latched verdict from clearing at a reset event (R420). -/
inductive LatchCause where
  /-- Lasts until power-on reset. -/
  | por
  /-- An event that is over. -/
  | event
  /-- No Rubric is in force (Table 12-15). -/
  | noRubric
  /-- A request bit of the latest COMMAND (R431). -/
  | cans (bit : Nat)
  /-- Feedback of a brake (R405). -/
  | brake (k : Nat)
  /-- Another Body ID (R465). -/
  | seat
  /-- Thermal trip (R484). -/
  | thermal
  deriving DecidableEq, Repr

/-- A verdict latched outside the rules: its code (Table 12-4) and axes. -/
structure Latch where
  verdict : Nat
  axes : Nat
  cause : LatchCause
  deriving DecidableEq, Repr

/-- What a rule carries from one evaluation to the next (R413). -/
structure RuleRun where
  held : Nat
  /-- It violated at the latest evaluation. -/
  bad : Bool
  /-- Source value at the previous Beat evaluation (RATE). -/
  prev : Option Word
  /-- Values of COUNT with the Beats they belong to, latest first. -/
  hist : List (Nat × Nat)
  deriving DecidableEq, Repr

/-- Stop or limit monitoring of an axis (R419): verdict, its limit, start, speed at the start, position at standstill. -/
structure AxisMon where
  verdict : Nat
  limit : Option Nat
  since : Nat
  v0 : Int
  hold : Option Int
  deriving DecidableEq, Repr

/-- The Proctor beside its page (chapter 12). -/
structure ProctorUnit where
  /-- The cores hang without a lockstep mismatch (R401). -/
  hung : Bool
  /-- Sequence bit of the safety limit channel (R325). -/
  seq : Bool
  /-- Private copy of the Rubric in force, by offset (R410). -/
  rubric : Option (List (Nat × Word))
  /-- Line and running CRC of the copy check (R400). -/
  line : Nat
  lineCrc : Nat
  latches : List Latch
  /-- Events received since the latest Beat evaluation: class, axes, axis or unit; how many a FAST evaluation has seen. -/
  events : List (Nat × Nat × Nat)
  fastEvents : Nat
  /-- Entries of pairs into DEMAND or FAULT since the latest Beat evaluation; how many a FAST evaluation has seen. -/
  entries : List Nat
  fastEntries : Nat
  runs : List (Nat × RuleRun)
  /-- Beat evaluations made. -/
  beats : Nat
  mons : List (Nat × Option AxisMon)
  /-- Level whose reaction is in force (Table 1-8), and the stop it takes at SAFE-STOP. -/
  react : Nat
  reactStop : Nat
  /-- No axis of RUB_STO_AXES had torque at the latest Beat boundary (R418). -/
  stoIdle : Bool
  hmStop : Bool
  /-- A reset event waits for the Beat boundary (R420). -/
  resetDue : Bool
  /-- The flash Rubric whose identifiers and key STATUS uses in ROM recovery (R442). -/
  spare : Option (List (Nat × Word))
  /-- CAN_S (section 12.5): started, its start, STATUS COUNTER, latest accepted COMMAND and its time. -/
  cansOn : Bool
  cansStart : Nat
  counter : Nat
  command : Option (List Byte × Nat)
  /-- The next COMMAND resynchronises; COMMANDs accepted in a row since LOST. -/
  resync : Bool
  inRow : Nat
  stop0 : Bool
  stop1 : Bool
  /-- Body ID read, and that of the latest good BODY PDU (R460, R465). -/
  bodyId : Option (List Byte)
  bodyLast : Option (List Byte)
  deriving DecidableEq, Repr

/-- The Hall Monitor beside its page (section 12.4). -/
structure HallMon where
  /-- Challenge sequence (R422). -/
  chal : Nat
  /-- A challenge stands; answers to it so far; one of them fell into the window. -/
  issued : Bool
  answers : Nat
  counted : Bool
  deriving DecidableEq, Repr

/-- A SAFE_IN pair beside its register (section 12.2.1): effective levels of the channels and when they changed last. -/
structure SafePair where
  a : Bool
  b : Bool
  sinceA : Nat
  sinceB : Nat
  /-- In FAULT: both channels have shown DEMAND together. -/
  demandShown : Bool
  demandAt : Nat
  /-- OSSD: a low pulse shorter than FILTER was seen in this interval, and its start. -/
  pulseA : Bool
  pulseB : Bool
  deriving DecidableEq, Repr

structure SafeIn where
  pairs : List (Nat × SafePair)
  /-- Until when TP0 masks the A channels, and TP1 the B channels (R407). -/
  maskA : Nat
  maskB : Nat
  deriving DecidableEq, Repr
/-- The state of the block. -/
structure State where
  chip : Chip
  /-- The Metronome (R48). -/
  mtn : Dword
  /-- Commands that wait, oldest first. -/
  pending : List Instr
  /-- Free values drawn so far; the model's own field. -/
  freeCtr : Nat
  /-- Page headers, by page key. -/
  pages : List (Nat × Page)
  /-- Block registers, by page and offset. -/
  regs : List (Nat × Word)
  /-- On-package SRAM (section 5.2). -/
  mem : List Host.Cell
  sram : SramAux
  tempo : Tempo
  hrs : List (Nat × Hr)
  cues : CueUnit
  /-- Excused map (Table 3-9). -/
  excused : BitVec 256
  dma : List (Nat × DmaChan)
  tiles : List (Nat × Tile)
  notes : List Note
  out : Outbox
  msix : Msix
  lvl : LevelUnit
  cams : List (Nat × Cam)
  dpp : DppUnit
  banks : List (Nat × Bank)
  codec : Codec
  kv : Kv
  ports : List (Nat × Port)
  /-- CALIBRATE of each ADC block. -/
  calibs : List (Nat × Option Calib)
  trackers : List (Nat × Tracker)
  jsls : List (Nat × JslPort)
  loops : List (Nat × LoopAxis)
  proc : ProctorUnit
  hm : HallMon
  safein : SafeIn
  boot : BootUnit
  dyn : DynUnit
  macs : List (Nat × EthMac)
  comp : CompUnit
  deriving DecidableEq, Repr

/-- A page at power-on reset: OFF, owned by HR0 (R86, Table 3-3). -/
def Page.atReset : Page :=
  { owner := 0, lock := false, state := .off, prev := .off, substate := 0, result := 0, pending := none, quiesces := [], crcOk := true,
    status := 0, refusals := 0, syndrome := 0, pend := 0, en := 0, writes := 0, cfgCrc := 0, count := 0, mismatch := false,
    asleep := none }

def Hr.atReset : Hr :=
  { score := none, pendingScore := none, admitting := none, windowCount := 0, windowStart := 0, oldScores := [], noRelease := false, holdDue := false, resumeAtBar := false,
    engineUsed := 0, replaced := none, readmit := false, activations := 0 }

def DmaChan.atReset : DmaChan := { job := none, quiescing := false }

def Tile.atReset : Tile :=
  { act := none, pc := 0, progLen := 0, position := 0, sregs := [], loops := [], vregs := [], acc := [], wActive := [],
    wLoaded := none, mode := 0, satBit := false, outFmt := 0, actE5 := false, wtE5 := false, chanTable := 0, wait := .none,
    held := none, offered := none, inject := none, lastMismatch := none, underBist := false, choiceSeen := false,
    lastYield := 0, leaving := false, since := 0, vPoison := [], accPoison := [],
    wPoison := false, wLoadedPoison := false, sPoison := [], offeredPoison := false, progress := 0, prog := 0, touched := [], waitSince := 0, waitUs := 0, ending := false }

def Tempo.atReset : Tempo :=
  { nextK := 0, beatDone := false, ticks := false, oscOk := true, change := none, latched := [], fsync := [], fsyncBar := [],
    syncGood := 0, quiet := false, quietDue := false, stopping := false, resumeAfter := none }

def CueUnit.atReset : CueUnit := { counts := [], copies := [], stamps := [], waiters := [], results := [] }

def SramAux.atReset : SramAux := { poison := [], errs := [], stale := [], tags := [], lastUe := [], condemned := [], flits := [], heldHost := [] }

def Outbox.atReset : Outbox :=
  { readData := [], readPoison := false, served := [], msix := [], hostWrites := [], canS := [], eth := [], can := [],
    gptp := [], display := [], dcs := [], retry := false }

/-- The endpoint before the host has configured it: link down, MSI-X disabled, every entry masked as the PCI Express
specification resets it (PRESUMED, log entry 6). -/
def Msix.atReset : Msix :=
  { linkUp := false, enabled := false, funcMask := false, masked := BitVec.allOnes 64, pba := 0,
    pasidEn := false, bars := [], perstAt := 0, autoBw := false }


def Fuses.atReset : Fuses :=
  { svnS := 0, svnC := 0, revoked := 0, fleet := none, pubKey := List.replicate 64 0, cert := [], romKeys := [] }

def BootUnit.atReset : BootUnit :=
  { fuses := Fuses.atReset, flash := [], flashMib := 16, headS := [], headC := [], seat := none, seatDue := false,
    jobAddr := 0, jobSrc := 0, jobLen := 0, submit := [] }

def DynUnit.atReset : DynUnit :=
  { since := 0, resNs := [], target := 0, floors := 0, seen := [], dwellFrom := none, due := false, wake := none, sectionFloor := false,
    tripped := false, throttleAt := none, lastHot := none, fitDue := false }

def EthMac.atReset : EthMac := { oper := none, pend := none }

def CompUnit.atReset : CompUnit :=
  { layers := [], commit := none, frame := [], bad := [], started := 0, inFrame := false, wb := none, buf := 0, ending := 0, answer := none }
def LevelUnit.atReset : LevelUnit :=
  { cap := 4, dropDue := false, lockDue := false, sick := false, published := false, minimal := false, generation := 0, linkDown := [],
    logged := 0 }


def Cam.atReset : Cam := { frame := none, waiting := [], sample := none, lastNum := 0, seq := 0, camQuiescing := false, pfeQuiescing := false }

def DppUnit.atReset : DppUnit := { job := none, last := 7, seqs := [], kept := [], quiescing := false }

def Bank.atReset : Bank := { bits := [], epoch := 0 }

def Codec.atReset : Codec := { jobs := [], last := 7, seqs := [], kept := [] }

def Kv.atReset : Kv := { req := none, swap := none, used := [], requests := 0, batches := 0, quiescing := false, halted := false }

def Port.atReset : Port := { pending := none, window := none, leg := 0, held := [], ascSince := none, soft := none, link := false }

def Tracker.atReset : Tracker :=
  { pos := 0, prev := 0, pulsePos := 0, last := 0, lastReal := 0, lastSynth := false, interval := 0, intervals := 0, fresh := false,
    history := [], before := 0, mismatch := none, fired := [], firedCount := 0, deferred := [], slots := [], a := false, b := false,
    z := false, edgeA := 0, edgeB := 0, count := 0, illegal := 0, zLost := false, samples := [], missed := 0, goods := 0 }

def JslPort.atReset : JslPort :=
  { pulse := 0, request := [], left := [], stamp := 0, acyc := false, acycSent := false, ready := [], quiescing := false,
    stopping := false }

def LoopAxis.atReset : LoopAxis :=
  { staged := [], recv := none, seq := none, bad := false, iPrev := (0, 0), vPrev := (0, 0), emf := (0, 0), wHat := 0,
    thHat := 0, low := 0, high := 0, openTh := 0, rideTh := 0, rideW := 0, rideAt := 0, blendK := 0, obsPos := 0,
    encPrev := none, pTgt := 0, vTgt := 0, vFf := 0, commit := none, last := none, since := 0, stale := false,
    clamped := false, stopping := false, hold := none, still := 0, diff := [], blocked := false, count := 0, sig := [],
    cap := none, inj := none }

def RuleRun.atReset : RuleRun := { held := 0, bad := false, prev := none, hist := [] }

def ProctorUnit.atReset : ProctorUnit :=
  { hung := false, seq := false, rubric := none, line := 0, lineCrc := 0xFFFFFFFF, latches := [], events := [],
    fastEvents := 0, entries := [], fastEntries := 0, runs := [], beats := 0, mons := [], react := 4, reactStop := 4, stoIdle := true,
    hmStop := true, resetDue := false, spare := none, cansOn := false, cansStart := 0, counter := 0, command := none, resync := true, inRow := 0,
    stop0 := false, stop1 := false, bodyId := none, bodyLast := none }

/-- The challenge seed of R422. -/
def HallMon.atReset : HallMon := { chal := 0xACE1, issued := false, answers := 0, counted := false }

def SafePair.atReset : SafePair :=
  { a := false, b := false, sinceA := 0, sinceB := 0, demandShown := false, demandAt := 0, pulseA := false, pulseB := false }

def SafeIn.atReset : SafeIn := { pairs := [], maskA := 0, maskB := 0 }
/-- The block after PORST_N is released and before boot begins: every page OFF (Table 3-3) but TEMPO, in
IDLE (R55), PROCTOR, in ARMED (R438), and HALLMON and DYNAMICS, in RUNNING (section 12.9.4, R487), the Metronome at 0, every
register at the value of its Reset column, nothing listed in memory. The part is an S2X-E at stepping B0, the part of the
manual's examples (DESIGN CHOICE, log entry 1). -/
def State.reset : State :=
  { chip := { grade := .s2x, hot := true, stepping := 0x10 }, mtn := 0, pending := [], freeCtr := 0,
    pages := [(0x1, { Page.atReset with state := .idle }), (0x18, { Page.atReset with state := .armed }),
      (0x1A, { Page.atReset with state := .running }), (0x22, { Page.atReset with state := .running })], regs := [],
    mem := [], sram := SramAux.atReset, tempo := Tempo.atReset, hrs := [], cues := CueUnit.atReset, excused := 0, dma := [],
    tiles := [], notes := [], out := Outbox.atReset, msix := Msix.atReset, lvl := LevelUnit.atReset,
    cams := [], dpp := DppUnit.atReset, banks := [], codec := Codec.atReset, kv := Kv.atReset,
    ports := [], calibs := [], trackers := [], jsls := [], loops := [], proc := ProctorUnit.atReset, hm := HallMon.atReset,
    safein := SafeIn.atReset, boot := BootUnit.atReset, dyn := DynUnit.atReset, macs := [],
    comp := CompUnit.atReset }

end Sys2Proof.Machine
end

