-- ==== Sys2Proof/Machine/RegMap.lean ====
section
/-!
DEFINITION. The register map: what each grade contains, where each page stands, and every block register with its
writable, write-one-to-clear and read-to-clear bits and its reset value, from the register tables of the chapters.
-/

namespace Sys2Proof.Machine

open PageType

def Grade.stacks : Grade → Nat
  | .s1 => 1 | .s2 => 2 | .s2x => 2 | .s4x => 4

def Grade.ioDies : Grade → Nat
  | .s1 => 1 | .s2 => 1 | .s2x => 2 | .s4x => 2

def Grade.code : Grade → Nat
  | .s1 => 1 | .s2 => 2 | .s2x => 3 | .s4x => 4

def Grade.axes (g : Grade) : Nat := 8 * g.ioDies
def Grade.cameras (g : Grade) : Nat := 6 * g.ioDies

/-- Page type codes (Table 3-6). -/
def typeCode : PageType → Nat
  | .tempo => 0x01 | .homeroom => 0x02 | .cue => 0x03 | .tile => 0x04 | .sect => 0x05 | .locker => 0x06
  | .dma => 0x07 | .camera => 0x08 | .pfe => 0x09 | .dpp => 0x0A | .weight => 0x0B | .codec => 0x0C | .kv => 0x0D
  | .loop => 0x10 | .pstage => 0x11 | .angle => 0x12 | .jsl => 0x13 | .adc => 0x14 | .proctor => 0x18
  | .rubric => 0x19 | .hallmon => 0x1A | .image => 0x20 | .identity => 0x21 | .dynamics => 0x22 | .pcie => 0x28
  | .eth => 0x29 | .can => 0x2A | .compositor => 0x2B | .safeio => 0x2C

/-- Every page type, in ascending type code. -/
def allTypes : List PageType :=
  [.tempo, .homeroom, .cue, .tile, .sect, .locker, .dma, .camera, .pfe, .dpp, .weight, .codec, .kv, .loop, .pstage,
   .angle, .jsl, .adc, .proctor, .rubric, .hallmon, .image, .identity, .dynamics, .pcie, .eth, .can, .compositor,
   .safeio]

/-- Instances of a page type in a grade (Table 0-2, Table 3-13). -/
def instances (g : Grade) : PageType → Nat
  | .homeroom => 8 | .cue => 256 | .tile => 32 | .sect => 4 | .locker => g.stacks | .dma => 8
  | .camera => g.cameras | .pfe => g.cameras | .weight => 8
  | .loop => g.axes | .pstage => g.axes | .angle => g.axes | .jsl => 4 * g.ioDies | .adc => g.ioDies
  | .pcie => g.ioDies | .eth => 2 * g.ioDies | .can => 2 * g.ioDies
  | _ => 1

/-- First page base of a type (Table 3-13; DESIGN CHOICE for the other grades, log entry 4). -/
def typeBase : PageType → Nat
  | .tempo => 0x100000 | .homeroom => 0x108000 | .cue => 0x200000 | .tile => 0x300000 | .sect => 0x320000
  | .locker => 0x328000 | .dma => 0x330000 | .camera => 0x340000 | .pfe => 0x350000 | .dpp => 0x360000
  | .weight => 0x368000 | .codec => 0x370000 | .kv => 0x378000 | .loop => 0x400000 | .pstage => 0x410000
  | .angle => 0x420000 | .jsl => 0x430000 | .adc => 0x440000 | .proctor => 0x500000 | .rubric => 0x504000
  | .hallmon => 0x508000 | .safeio => 0x509000 | .image => 0x600000 | .identity => 0x601000 | .dynamics => 0x602000
  | .pcie => 0x700000 | .eth => 0x704000 | .can => 0x708000 | .compositor => 0x70C000

def span : PageType → Nat
  | .rubric => 4
  | _ => 1

def pageBase (p : PageRef) : Nat := typeBase p.ty + 0x1000 * p.inst

/-- The page is in the grade (R7). -/
def present (g : Grade) (p : PageRef) : Bool := decide (p.inst < instances g p.ty)

/-- Every page span of a grade. -/
def allPages (g : Grade) : List PageRef :=
  allTypes.flatMap fun t => (List.range (instances g t)).map fun i => ⟨t, i⟩

/-- The page span and the offset in it that a register-space address names (R76, R77). -/
def pageAt (g : Grade) (addr : Nat) : Option (PageRef × Nat) :=
  (allTypes.find? fun t => decide (typeBase t ≤ addr) && decide (addr < typeBase t + 0x1000 * span t * instances g t)).map
    fun t =>
      let size := 0x1000 * span t
      (⟨t, (addr - typeBase t) / size⟩, (addr - typeBase t) % size)

def pageKey (p : PageRef) : Nat := typeCode p.ty + 64 * p.inst

def regKey (p : PageRef) (off : Nat) : Nat := pageKey p * 0x10000 + off

/-- PAGE_CAPS of each page type (section 3.2). -/
def caps : PageType → Word
  | .tempo => 0x00050000 | .homeroom => 0x20050000 | .cue => 0x20030000 | .tile => 0x300A0000 | .sect => 0x00050000
  | .locker => 0x00050000 | .dma => 0x20040000
  | .camera => 0x70070000 | .pfe => 0x70080000 | .dpp => 0x10050000 | .weight => 0x60050000 | .codec => 0x10050000
  | .kv => 0x10050000 | .loop => 0xF0070000 | .pstage => 0xF0070000 | .angle => 0xF0070000 | .jsl => 0x70070000
  | .adc => 0x50050000 | .proctor => 0x00070000 | .rubric => 0xC0070000 | .hallmon => 0x00040000
  | .image => 0x00050000 | .identity => 0x00050000 | .dynamics => 0x00050000 | .pcie => 0x10050000
  | .eth => 0x30050000 | .can => 0x30050000 | .compositor => 0x30050000 | .safeio => 0xC0070000

def capSafety (t : PageType) : Bool := bit (caps t) 31
def capCrc (t : PageType) : Bool := bit (caps t) 30
def refusalBit (t : PageType) : Nat := fld (caps t) 20 16

/-- PAGE_ID. Every page type has layout version 1 (the examples of chapter 3; log entry 5). -/
def pageId (p : PageRef) : Word := BitVec.ofNat 32 (typeCode p.ty * 0x10000 + p.inst * 0x100 + 1)

/-- A block register or a row of equal ones: the bits software writes, clears by writing 1 and clears by reading. -/
structure RegDef where
  name : String
  off : Nat
  cnt : Nat
  stride : Nat
  rw : Nat
  w1c : Nat
  rc : Nat
  reset : Nat
  deriving DecidableEq, Repr

def ro (name : String) (off reset : Nat) : RegDef := ⟨name, off, 1, 4, 0, 0, 0, reset⟩
def ros (name : String) (off cnt stride reset : Nat) : RegDef := ⟨name, off, cnt, stride, 0, 0, 0, reset⟩
def rw (name : String) (off mask reset : Nat) : RegDef := ⟨name, off, 1, 4, mask, 0, 0, reset⟩
def rws (name : String) (off cnt stride mask reset : Nat) : RegDef := ⟨name, off, cnt, stride, mask, 0, 0, reset⟩
def rc (name : String) (off mask reset : Nat) : RegDef := ⟨name, off, 1, 4, 0, 0, mask, reset⟩
def rcs (name : String) (off cnt stride mask reset : Nat) : RegDef := ⟨name, off, cnt, stride, 0, 0, mask, reset⟩
def w1c (name : String) (off mask reset : Nat) : RegDef := ⟨name, off, 1, 4, 0, mask, 0, reset⟩

def F32 : Nat := 0xFFFFFFFF

/-- Chapter 2. -/
def tempoRegs : List RegDef :=
  [rw "TEMPO_PULSE_NS" 0x040 F32 0xC350, rw "TEMPO_BEAT_PULSES" 0x044 0xFF 0x14, rw "TEMPO_BAR_BEATS" 0x048 0x1FF 0x20,
   rw "TEMPO_REFLEX_LIMIT_NS" 0x04C F32 0x7A1200, ro "TEMPO_ACT_PULSE_NS" 0x050 0xC350, ro "TEMPO_ACT_BEAT_PULSES" 0x054 0x14,
   ro "TEMPO_ACT_BAR_BEATS" 0x058 0x20, ro "TEMPO_REFLEX_NS" 0x05C 0, ros "TEMPO_MTN" 0x060 2 4 0,
   ros "TEMPO_EPOCH" 0x068 2 4 0, ro "TEMPO_EPOCH_BAR" 0x070 0, ro "TEMPO_BAR_COUNT" 0x074 0, ro "TEMPO_POS" 0x078 0,
   rw "TEMPO_SLEW_PPB" 0x07C F32 0, rw "TEMPO_SYNC" 0x080 0xF00 0, rws "TEMPO_STEP" 0x084 2 4 F32 0,
   rws "TEMPO_FSYNC" 0x100 12 4 0xFFFFFFF3 0]

/-- Chapter 4, Tables 4-4 and 4-7. -/
def homeroomRegs : List RegDef :=
  [ro "HR_TILES" 0x040 0, ro "HR_SHARE" 0x044 0, ro "HR_STREAM" 0x048 0, rw "HR_WAKE_TOL" 0x04C 0xFFFFFF 0,
   ros "HR_COMMONS" 0x050 8 4 0, ros "HR_LOCKER" 0x070 8 4 0, ros "HR_CHOICE_COUNT" 0x090 2 4 0,
   rc "HR_VIOL_COUNT" 0x098 0xFFFF 0, ro "HR_VIOL_LIMIT" 0x09C 0, ros "HR_VIOL_REC" 0x0A0 4 4 0,
   rws "HR_VECSEL" 0x0B0 6 4 0xFFFFFF 0, ro "HR_WAITERS" 0x0C8 0, rw "HR_CUE_TIMEOUT_US" 0x0CC 0xFFFFFF 0x3E8,
   ro "HR_SCORE" 0x0D0 0, ro "HR_PAGES" 0x0D4 0, ros "HR_HWCUE_LISTEN" 0x0E0 8 4 0,
   rw "HRS_TILES" 0x100 F32 0, rw "HRS_SHARE" 0x104 0x7F 0, rw "HRS_STREAM" 0x108 0x800FFFFF 0,
   rw "HRS_VIOL_LIMIT" 0x10C 0xFF 0, rw "HRS_WAITER_QUOTA" 0x110 0xFFFF 0, rws "HRS_COMMONS" 0x120 8 4 F32 0,
   rws "HRS_LOCKER" 0x140 8 4 F32 0, rws "HRS_LISTEN" 0x160 8 4 F32 0,
   ros "HR_HWCUE_STAMP" 0x400 256 4 0, ros "HR_HWCUE_COUNT" 0x800 256 4 0, rcs "HR_HWCUE_TAKE" 0xC00 256 4 F32 0]

/-- Chapter 4, Table 4-13. Counts and waiters are held in the Cue unit. -/
def cueRegs : List RegDef :=
  [ro "CUE_BLOCK" 0x040 0, ro "CUE_WAITERS" 0x044 0, rc "CUE_EVENTS" 0x048 F32 0, ro "CUE_LAST" 0x04C 0,
   rws "CUE_CFG" 0x100 128 4 0xCFFFCFFF 0, ⟨"CUE_NOTIFY_PEND", 0x300, 8, 4, 0, F32, 0, 0⟩, ros "CUE_HAS_WAITERS" 0x320 8 4 0,
   rws "CUE_COUNT" 0x400 256 4 F32 0, rws "CUE_SIGNAL" 0x800 256 4 F32 0, rcs "CUE_TAKE" 0xC00 256 4 F32 0]

/-- Chapters 5 to 7: Table 6-6, Table 7-10, section 5.3.5. -/
def tileRegs : List RegDef :=
  [ro "TILE_INFO" 0x040 0, ro "TILE_GROUP" 0x044 0, ro "TILE_PART" 0x048 0, ros "TILE_BUSY" 0x04C 2 4 0,
   rc "TILE_MXE_BUSY" 0x054 F32 0, rc "TILE_CK_STAT" 0x058 F32 0, ro "TILE_CK_LAST" 0x05C 0, ros "TILE_CK_TIME" 0x060 2 4 0,
   rc "TILE_SAT_COUNT" 0x068 F32 0, ro "TILE_BIST" 0x06C 0x10000000, ro "TILE_PC" 0x070 0, ro "TILE_SEQ_STATE" 0x074 0,
   rw "TILE_STALL_TIMEOUT_US" 0x078 0xFFFFFF 0x3E8, ro "TILE_STALL_INFO" 0x07C 0, ro "TILE_WAIT_LAST" 0x080 0,
   ro "TILE_FAULT_INFO" 0x084 0, ros "TILE_CHOICE" 0x088 2 4 0, ros "TILE_IMAGE" 0x090 2 4 0, rc "TILE_GAP_MAX" 0x098 F32 0,
   rc "TILE_ACT_DONE" 0x09C F32 0, rw "TILE_BANKMAP" 0x0C0 F32 0, ro "TILE_MEMERR" 0x0C4 0, rc "TILE_MEMCNT" 0x0C8 F32 0,
   rw "TILE_TAGRANGE" 0x0CC 0x3FFF1FFF 0]

/-- Chapter 6, Table 6-10. -/
def sectionRegs : List RegDef :=
  [ro "SEC_INFO" 0x040 0, ro "SEC_HEALTH" 0x044 0x1FF, ro "SEC_POWER" 0x048 0, ro "SEC_BIST_RESULT" 0x04C 0xFF00,
   rc "SEC_CK_MISMATCH" 0x050 0xFFFF 0, ro "SEC_LAST_EXCUSE" 0x054 0, ros "SEC_EXCUSE_TIME" 0x058 2 4 0]

/-- Chapter 5, Table 5-7. -/
def lockerRegs : List RegDef :=
  [ro "LOCKER_INFO" 0x040 0x400800, ro "LOCKER_HEALTH" 0x044 0, rc "LOCKER_CRC_RETRY" 0x048 F32 0,
   rcs "LOCKER_CE" 0x050 4 4 F32 0, rc "LOCKER_UE" 0x060 F32 0, ros "LOCKER_ERR_ADDR" 0x064 2 4 0,
   ro "LOCKER_ERR_INFO" 0x06C 0, ro "LOCKER_SCRUB" 0x070 0]

/-- Chapter 5, Table 5-12. -/
def dmaRegs : List RegDef :=
  [rw "DMA_RING" 0x040 0x0FFFFFFF 0x4000000, rw "DMA_TAIL" 0x044 0xFFFF 0, ro "DMA_HEAD" 0x048 0,
   rw "DMA_TAG_TIMEOUT_US" 0x04C 0xFFFFFF 0x3E8, ro "DMA_STATUS" 0x050 0, ro "DMA_DONE_COUNT" 0x054 0]

/-- Chapter 8. -/
def cameraRegs : List RegDef :=
  [⟨"CAM_CFG", 0x040, 1, 4, 0xFFFF3FFF, 0, 0x0, 0x5DC2B02⟩,
   ⟨"CAM_SIZE", 0x044, 1, 4, 0x1FFF1FFF, 0, 0x0, 0x3000500⟩,
   ⟨"CAM_TIMEOUT_US", 0x048, 1, 4, 0xFFFFFF, 0, 0x0, 0x9C40⟩,
   ⟨"CAM_STAMP_ADJ_NS", 0x04C, 1, 4, 0xFFFF, 0, 0x0, 0x0⟩,
   ⟨"CAM_FS_STAMP", 0x050, 2, 4, 0x0, 0, 0x0, 0x0⟩,
   ⟨"CAM_FE_STAMP", 0x058, 2, 4, 0x0, 0, 0x0, 0x0⟩,
   ⟨"CAM_FRAMES", 0x060, 1, 4, 0x0, 0, 0x0, 0x0⟩,
   ⟨"CAM_FRAME_NUM", 0x064, 1, 4, 0x0, 0, 0x0, 0x0⟩,
   ⟨"CAM_ERRS", 0x068, 1, 4, 0x0, 0, 0xFFFFFFFF, 0x0⟩,
   ⟨"CAM_ERR_LAST", 0x06C, 1, 4, 0x0, 0, 0x0, 0x0⟩,
   ⟨"CAM_ECC_CORR", 0x070, 1, 4, 0x0, 0, 0xFFFF, 0x0⟩,
   ⟨"CAM_IGNORED", 0x074, 1, 4, 0x0, 0, 0xFFFF, 0x0⟩]

/-- Chapter 8. -/
def pfeRegs : List RegDef :=
  [⟨"PFE_SRC", 0x040, 1, 4, 0xFF07, 0, 0x0, 0x2B00⟩,
   ⟨"PFE_BLACK", 0x044, 1, 4, 0xFFFF, 0, 0x0, 0x0⟩,
   ⟨"PFE_CCM", 0x048, 5, 4, 0xFFFFFFFF, 0, 0x0, 0x0⟩,
   ⟨"PFE_COFF", 0x05C, 2, 4, 0xFFFFFFFF, 0, 0x0, 0x0⟩,
   ⟨"PFE_OUT", 0x064, 1, 4, 0x1FFF1FFF, 0, 0x0, 0x1800280⟩,
   ⟨"PFE_FMT", 0x068, 1, 4, 0xFF03, 0, 0x0, 0x0⟩,
   ⟨"PFE_MEAN", 0x06C, 3, 4, 0xFFFF, 0, 0x0, 0x0⟩,
   ⟨"PFE_SCALE", 0x078, 3, 4, 0xFFFFFFFF, 0, 0x0, 0x3F800000⟩,
   ⟨"PFE_MESH_OFF", 0x084, 1, 4, 0xFFFFFFF, 0, 0x0, 0x4000000⟩,
   ⟨"PFE_MESH_CRC", 0x088, 1, 4, 0xFFFFFFFF, 0, 0x0, 0x0⟩,
   ⟨"PFE_FILL", 0x08C, 1, 4, 0xFFFF, 0, 0x0, 0x0⟩,
   ⟨"PFE_DEST", 0x090, 1, 4, 0xF0FFFFFF, 0, 0x0, 0x0⟩,
   ⟨"PFE_PITCH", 0x094, 1, 4, 0xFFFFFF, 0, 0x0, 0x780⟩,
   ⟨"PFE_MSRC", 0x098, 2, 4, 0xFFFFFFFF, 0, 0x0, 0x0⟩,
   ⟨"PFE_MSRC_STRIDE", 0x0A0, 1, 4, 0xFFFFFFFF, 0, 0x0, 0x0⟩,
   ⟨"PFE_MSRC_SIZE", 0x0A4, 1, 4, 0x1FFF1FFF, 0, 0x0, 0x0⟩,
   ⟨"PFE_SUBMIT_CUE", 0x0A8, 1, 4, 0x8000FFFF, 0, 0x0, 0x0⟩,
   ⟨"PFE_AUG_RING", 0x0AC, 1, 4, 0xFFFFFFF, 0, 0x0, 0x0⟩,
   ⟨"PFE_SHUF_N", 0x0B0, 1, 4, 0x1FFFFFF, 0, 0x0, 0x1⟩,
   ⟨"PFE_SEED", 0x0B4, 2, 4, 0xFFFFFFFF, 0, 0x0, 0x0⟩,
   ⟨"PFE_EPOCH", 0x0BC, 1, 4, 0xFFFFFFFF, 0, 0x0, 0x0⟩,
   ⟨"PFE_INDEX", 0x0C0, 1, 4, 0x1FFFFFF, 0, 0x0, 0x0⟩,
   ⟨"PFE_COMMITS", 0x0C4, 1, 4, 0x0, 0, 0x0, 0x0⟩,
   ⟨"PFE_LAST", 0x0C8, 1, 4, 0x0, 0, 0x0, 0x0⟩,
   ⟨"PFE_TAIL", 0x0CC, 1, 4, 0x0, 0, 0x0, 0x0⟩]

/-- Chapter 8. -/
def dppRegs : List RegDef :=
  [⟨"DPP_INFO", 0x040, 1, 4, 0x0, 0, 0x0, 0x8⟩,
   ⟨"DPP_QRING", 0x060, 8, 8, 0xFFFFFFF, 0, 0x0, 0x4000000⟩,
   ⟨"DPP_QCUE", 0x064, 8, 8, 0x8000FFFF, 0, 0x0, 0x0⟩,
   ⟨"DPP_QHEAD", 0x0A0, 8, 4, 0x0, 0, 0x0, 0x0⟩,
   ⟨"DPP_JOBS", 0x0C0, 1, 4, 0x0, 0, 0x0, 0x0⟩,
   ⟨"DPP_BUSY_NS", 0x0C4, 1, 4, 0x0, 0, 0xFFFFFFFF, 0x0⟩,
   ⟨"DPP_LAST", 0x0C8, 1, 4, 0x0, 0, 0x0, 0x0⟩]

/-- Chapter 9. -/
def weightRegs : List RegDef :=
  [⟨"WEIGHT_COPY_A", 0x040, 2, 4, 0xFFFFFFFF, 0, 0x0, 0x0⟩,
   ⟨"WEIGHT_COPY_B", 0x048, 2, 4, 0xFFFFFFFF, 0, 0x0, 0x0⟩,
   ⟨"WEIGHT_BLOCKS", 0x050, 1, 4, 0x7FFF, 0, 0x0, 0x0⟩,
   ⟨"WEIGHT_REC", 0x054, 1, 4, 0xFFFFFF, 0, 0x0, 0x0⟩,
   ⟨"WEIGHT_READER", 0x058, 4, 4, 0x800003FF, 0, 0x0, 0x0⟩,
   ⟨"WEIGHT_LIMIT", 0x068, 1, 4, 0xFF, 0, 0x0, 0x8⟩,
   ⟨"WEIGHT_STATUS", 0x06C, 1, 4, 0x0, 0, 0x0, 0x0⟩,
   ⟨"WEIGHT_BUILD", 0x070, 1, 4, 0x0, 0, 0x0, 0x0⟩,
   ⟨"WEIGHT_DEFER", 0x074, 1, 4, 0x0, 0, 0x0, 0x0⟩,
   ⟨"WEIGHT_SWITCH", 0x078, 2, 4, 0x0, 0, 0x0, 0x0⟩]

/-- Chapter 9. -/
def codecRegs : List RegDef :=
  [⟨"CODEC_INFO", 0x040, 1, 4, 0x0, 0, 0x0, 0x8⟩,
   ⟨"CODEC_QRING", 0x060, 8, 8, 0xFFFFFFF, 0, 0x0, 0x4000000⟩,
   ⟨"CODEC_QCUE", 0x064, 8, 8, 0x8000FFFF, 0, 0x0, 0x0⟩,
   ⟨"CODEC_QHEAD", 0x0A0, 8, 4, 0x0, 0, 0x0, 0x0⟩,
   ⟨"CODEC_JOBS", 0x0C0, 1, 4, 0x0, 0, 0x0, 0x0⟩,
   ⟨"CODEC_BUSY_NS", 0x0C4, 1, 4, 0x0, 0, 0xFFFFFFFF, 0x0⟩,
   ⟨"CODEC_LAST", 0x0C8, 1, 4, 0x0, 0, 0x0, 0x0⟩,
   ⟨"CODEC_BLOCKS", 0x0CC, 1, 4, 0x0, 0, 0x0, 0x0⟩]

/-- Chapter 9. -/
def kvRegs : List RegDef :=
  [⟨"KV_CLIENT", 0x040, 1, 4, 0x7, 0, 0x0, 0x0⟩,
   ⟨"KV_TOKEN_BYTES", 0x044, 1, 4, 0x1FFFF, 0, 0x0, 0x40⟩,
   ⟨"KV_POOL", 0x048, 2, 4, 0xFFFFFFFF, 0, 0x0, 0x0⟩,
   ⟨"KV_POOL_PAGES", 0x050, 1, 4, 0xFFFF, 0, 0x0, 0x0⟩,
   ⟨"KV_MAX_PAGES", 0x054, 1, 4, 0x7FF, 0, 0x0, 0x1⟩,
   ⟨"KV_SEQ_TABLE", 0x058, 1, 4, 0xFFFFFF, 0, 0x0, 0x0⟩,
   ⟨"KV_RING", 0x05C, 1, 4, 0xFFFFFFF, 0, 0x0, 0x4000000⟩,
   ⟨"KV_SUBMIT", 0x060, 1, 4, 0x8000FFFF, 0, 0x0, 0x0⟩,
   ⟨"KV_HOST", 0x064, 2, 4, 0xFFFFFFFF, 0, 0x0, 0x0⟩,
   ⟨"KV_HOST_SLOT", 0x06C, 1, 4, 0xFFFFFFFF, 0, 0x0, 0x0⟩,
   ⟨"KV_APKV", 0x070, 1, 4, 0x3FF, 0, 0x0, 0x1⟩,
   ⟨"KV_FREE", 0x080, 1, 4, 0x0, 0, 0x0, 0x0⟩,
   ⟨"KV_HEAD", 0x084, 1, 4, 0x0, 0, 0x0, 0x0⟩,
   ⟨"KV_PREEMPT", 0x088, 1, 4, 0x0, 0, 0xFFFFFFFF, 0x0⟩,
   ⟨"KV_SWAPS", 0x08C, 1, 4, 0x0, 0, 0xFFFFFFFF, 0x0⟩,
   ⟨"KV_LAST", 0x090, 1, 4, 0x0, 0, 0x0, 0x0⟩,
   ⟨"KV_HOST_ERR", 0x094, 1, 4, 0x0, 0, 0xFFFF, 0x0⟩]

/-- Chapter 10. -/
def loopRegs : List RegDef :=
  [⟨"LOOP_CFG", 0x040, 1, 4, 0x77FF1F, 0, 0x0, 0x100⟩,
   ⟨"LOOP_SEL", 0x044, 3, 4, 0xFFFFFFFF, 0, 0x0, 0x0⟩,
   ⟨"LOOP_K_D", 0x050, 12, 4, 0xFFFFFFFF, 0, 0x0, 0x0⟩,
   ⟨"LOOP_K_Q", 0x080, 12, 4, 0xFFFFFFFF, 0, 0x0, 0x0⟩,
   ⟨"LOOP_SH_D", 0x0B0, 3, 4, 0x1F1F1F1F, 0, 0x0, 0x0⟩,
   ⟨"LOOP_SH_Q", 0x0BC, 3, 4, 0x1F1F1F1F, 0, 0x0, 0x0⟩,
   ⟨"LOOP_I_RATED_MA", 0x0C8, 1, 4, 0xFFFFFF, 0, 0x0, 0x0⟩,
   ⟨"LOOP_I_MAX", 0x0CC, 1, 4, 0xFFFFFFFF, 0, 0x0, 0x1000000⟩,
   ⟨"LOOP_V_BASE_MV", 0x0D0, 1, 4, 0xFFFFFF, 0, 0x0, 0x0⟩,
   ⟨"LOOP_VMOD_MAX", 0x0D4, 1, 4, 0xFFFFFFFF, 0, 0x0, 0x1279A74⟩,
   ⟨"LOOP_ID_REF", 0x0D8, 1, 4, 0xFFFFFFFF, 0, 0x0, 0x0⟩,
   ⟨"LOOP_K_ILIM", 0x0DC, 1, 4, 0xFFFFFFFF, 0, 0x0, 0x0⟩,
   ⟨"LOOP_MISC_SH", 0x0E0, 1, 4, 0x1F1F1F1F, 0, 0x0, 0x0⟩,
   ⟨"LOOP_ENC_OFFSET", 0x0E4, 1, 4, 0xFFFFFFFF, 0, 0x0, 0x0⟩,
   ⟨"LOOP_VBUS", 0x0E8, 1, 4, 0xFFFF000F, 0, 0x0, 0x0⟩,
   ⟨"OBS_R", 0x0EC, 1, 4, 0xFFFFFFFF, 0, 0x0, 0x0⟩,
   ⟨"OBS_GL", 0x0F0, 1, 4, 0xFFFFFFFF, 0, 0x0, 0x0⟩,
   ⟨"OBS_GE", 0x0F4, 1, 4, 0xFFFFFFFF, 0, 0x0, 0x0⟩,
   ⟨"OBS_PLL_KP", 0x0F8, 2, 4, 0xFFFFFFFF, 0, 0x0, 0x0⟩,
   ⟨"OBS_CONF_MIN", 0x100, 1, 4, 0xFFFF, 0, 0x0, 0x8000⟩,
   ⟨"OBS_E_MIN", 0x104, 1, 4, 0xFFFFFFFF, 0, 0x0, 0x10000⟩,
   ⟨"OBS_RIDE_ILIM", 0x108, 1, 4, 0xFFFFFFFF, 0, 0x0, 0x4CCCCD⟩,
   ⟨"OBS_RIDE_TIME_US", 0x10C, 1, 4, 0xFFFF, 0, 0x0, 0x7D0⟩,
   ⟨"OBS_START", 0x110, 1, 4, 0xFFFFFFFF, 0, 0x0, 0x400000⟩,
   ⟨"OBS_HANDOVER", 0x114, 1, 4, 0xFFFFFFFF, 0, 0x0, 0x200000⟩,
   ⟨"OBS_BLEND", 0x118, 1, 4, 0xFFFF, 0, 0x0, 0x40⟩,
   ⟨"LOOP_V_MAX", 0x11C, 1, 4, 0xFFFFFFFF, 0, 0x0, 0x0⟩,
   ⟨"LOOP_A_MAX", 0x120, 2, 4, 0xFFFFFFFF, 0, 0x0, 0x0⟩,
   ⟨"LOOP_A_STOP", 0x128, 2, 4, 0xFFFFFFFF, 0, 0x0, 0x0⟩,
   ⟨"LOOP_FOLLOW_WIN", 0x130, 1, 4, 0xFFFFFFFF, 0, 0x0, 0x0⟩,
   ⟨"LOOP_SP_TIMEOUT", 0x134, 1, 4, 0xFFFF, 0, 0x0, 0x14⟩,
   ⟨"LOOP_PULSE_SCALE", 0x138, 1, 4, 0xFFFFFFFF, 0, 0x0, 0x0⟩,
   ⟨"LOOP_AN_GAIN", 0x13C, 1, 4, 0xFFFFFFFF, 0, 0x0, 0x0⟩,
   ⟨"LOOP_AN_ZERO", 0x140, 1, 4, 0xFFFFFFFF, 0, 0x0, 0x0⟩,
   ⟨"OST_CFG", 0x144, 1, 4, 0x3FFF03FF, 0, 0x0, 0x4000100⟩,
   ⟨"OST_GAIN", 0x148, 1, 4, 0xFFFFFFFF, 0, 0x0, 0x0⟩,
   ⟨"OST_FORGET", 0x14C, 1, 4, 0xFFFF, 0, 0x0, 0x0⟩,
   ⟨"OST_LIM", 0x150, 1, 4, 0xFFFFFFFF, 0, 0x0, 0x0⟩,
   ⟨"OST_SPEED_MIN", 0x154, 2, 4, 0xFFFFFFFF, 0, 0x0, 0x0⟩,
   ⟨"OST_ACC_MAX", 0x15C, 1, 4, 0xFFFFFFFF, 0, 0x0, 0x0⟩,
   ⟨"INJ_LIM", 0x160, 1, 4, 0xFFFFFFFF, 0, 0x0, 0x0⟩,
   ⟨"LOOP_V_ZERO", 0x164, 1, 4, 0xFFFFFFFF, 0, 0x0, 0x1000⟩,
   ⟨"OBS_K_COAST", 0x168, 1, 4, 0xFFFFFFFF, 0, 0x0, 0x0⟩,
   ⟨"LOOP_TGT_POS", 0x180, 2, 4, 0xFFFFFFFF, 0, 0x0, 0x0⟩,
   ⟨"LOOP_TGT_VEL", 0x188, 1, 4, 0xFFFFFFFF, 0, 0x0, 0x0⟩,
   ⟨"LOOP_TGT_COMMIT", 0x18C, 1, 4, 0xFFFF, 0, 0x0, 0x0⟩,
   ⟨"OST_CTRL", 0x190, 1, 4, 0x3, 0, 0x0, 0x0⟩,
   ⟨"INJ_CFG", 0x194, 1, 4, 0x7FFF00FF, 0, 0x0, 0x10000⟩,
   ⟨"INJ_AMP", 0x198, 1, 4, 0xFFFFFFFF, 0, 0x0, 0x0⟩,
   ⟨"INJ_FREQ", 0x19C, 2, 4, 0xFFFFFFFF, 0, 0x0, 0x0⟩,
   ⟨"CAP_CFG", 0x1A4, 1, 4, 0xFF3F3F, 0, 0x0, 0x0⟩,
   ⟨"CAP_COUNT", 0x1A8, 1, 4, 0xFFFF, 0, 0x0, 0x0⟩,
   ⟨"CAP_OFFSET", 0x1AC, 1, 4, 0xFFFFFF, 0, 0x0, 0x0⟩,
   ⟨"LOOP_LAW_STATE", 0x1C0, 1, 4, 0x0, 0, 0x0, 0x0⟩,
   ⟨"LOOP_FLAGS", 0x1C4, 1, 4, 0x0, 0, 0x0, 0x0⟩,
   ⟨"LOOP_EVENTS", 0x1C8, 1, 4, 0x0, 0, 0xFFFFFFFF, 0x0⟩,
   ⟨"LOOP_LIMIT_WORD", 0x1CC, 1, 4, 0x0, 0, 0x0, 0x0⟩,
   ⟨"LOOP_LIMIT_ERR", 0x1D0, 1, 4, 0x0, 0, 0xFFFF, 0x0⟩,
   ⟨"LOOP_ID", 0x1D4, 4, 4, 0x0, 0, 0x0, 0x0⟩,
   ⟨"LOOP_THETA_E", 0x1E4, 1, 4, 0x0, 0, 0x0, 0x0⟩,
   ⟨"LOOP_SPEED", 0x1E8, 1, 4, 0x0, 0, 0x0, 0x0⟩,
   ⟨"LOOP_POS", 0x1EC, 2, 4, 0x0, 0, 0x0, 0x0⟩,
   ⟨"OBS_CONF", 0x1F4, 1, 4, 0x0, 0, 0x0, 0x0⟩,
   ⟨"LOOP_SH_VEL", 0x1F8, 2, 4, 0x0, 0, 0x0, 0x0⟩,
   ⟨"LOOP_SH_POS", 0x200, 2, 4, 0x0, 0, 0x0, 0x0⟩,
   ⟨"LOOP_FOLLOW", 0x208, 1, 4, 0x0, 0, 0x0, 0x0⟩,
   ⟨"LOOP_PULSE_EXCESS", 0x20C, 1, 4, 0x0, 0, 0x0, 0x0⟩,
   ⟨"LOOP_X", 0x210, 12, 4, 0x0, 0, 0x0, 0x0⟩,
   ⟨"OST_TABLE", 0x800, 512, 4, 0xFFFFFFFF, 0, 0x0, 0x0⟩]

/-- Chapter 11. -/
def pstageRegs : List RegDef :=
  [⟨"PSTAGE_CFG", 0x040, 1, 4, 0x33, 0, 0x0, 0x0⟩,
   ⟨"PSTAGE_DEADTIME", 0x044, 1, 4, 0x1FFF, 0, 0x0, 0x190⟩,
   ⟨"PSTAGE_MIN_PULSE", 0x048, 1, 4, 0x1FFF, 0, 0x0, 0xC8⟩,
   ⟨"PSTAGE_BLANK", 0x04C, 1, 4, 0x1FFF, 0, 0x0, 0x3E8⟩,
   ⟨"PSTAGE_OC_LEVEL", 0x050, 1, 4, 0x3FFF3FFF, 0, 0x0, 0x3FFF0000⟩,
   ⟨"PSTAGE_SOFT_NS", 0x054, 1, 4, 0x7FF, 0, 0x0, 0x190⟩,
   ⟨"PSTAGE_ASC_MS", 0x058, 1, 4, 0xFFFF, 0, 0x0, 0x64⟩,
   ⟨"PSTAGE_DUTY_AB", 0x080, 1, 4, 0x0, 0, 0x0, 0x0⟩,
   ⟨"PSTAGE_DUTY_C", 0x084, 1, 4, 0x0, 0, 0x0, 0x0⟩,
   ⟨"PSTAGE_MODE", 0x088, 1, 4, 0x0, 0, 0x0, 0x0⟩,
   ⟨"PSTAGE_FAULT", 0x08C, 1, 4, 0x0, 0, 0x0, 0x0⟩,
   ⟨"PSTAGE_FAULT_TIME", 0x090, 2, 4, 0x0, 0, 0x0, 0x0⟩,
   ⟨"PSTAGE_FAULT_GAP_NS", 0x098, 1, 4, 0x0, 0, 0x0, 0x0⟩,
   ⟨"PSTAGE_RAW", 0x09C, 1, 4, 0x0, 0, 0x0, 0x0⟩,
   ⟨"PSTAGE_COUNTS", 0x0A0, 1, 4, 0x0, 0, 0xFFFFFFFF, 0x0⟩]

/-- Chapter 11. -/
def adcRegs : List RegDef :=
  [⟨"ADC_SUM_LIM", 0x040, 1, 4, 0xFFFFFFFF, 0, 0x0, 0x19999A⟩,
   ⟨"ADC_OFF", 0x080, 24, 4, 0x3FFF, 0, 0x0, 0x2000⟩,
   ⟨"ADC_GAIN", 0x0E0, 24, 4, 0xFFFFFFFF, 0, 0x0, 0x0⟩,
   ⟨"ADC_CUR", 0x200, 24, 4, 0x0, 0, 0x0, 0x0⟩,
   ⟨"ADC_AN", 0x280, 8, 4, 0x0, 0, 0x0, 0x0⟩,
   ⟨"ADC_STAMP", 0x2A0, 2, 4, 0x0, 0, 0x0, 0x0⟩,
   ⟨"ADC_SAT", 0x2A8, 1, 4, 0x0, 0, 0xFFFFFF, 0x0⟩,
   ⟨"ADC_CHECK", 0x2AC, 1, 4, 0x0, 0, 0x0, 0x0⟩]

/-- Chapter 11. -/
def angleRegs : List RegDef :=
  [⟨"ANG_CFG", 0x040, 1, 4, 0xF0033, 0, 0x0, 0x0⟩,
   ⟨"ANG_COUNTS", 0x044, 1, 4, 0xFFFFFF, 0, 0x0, 0x1000⟩,
   ⟨"ANG_OFFSET", 0x048, 1, 4, 0xFFFFFFFF, 0, 0x0, 0x0⟩,
   ⟨"ANG_FILT_NS", 0x04C, 1, 4, 0x3FF, 0, 0x0, 0x64⟩,
   ⟨"ANG_P_MAX_US", 0x050, 1, 4, 0xFFFFFF, 0, 0x0, 0x4E20⟩,
   ⟨"ANG_JSL_MAP", 0x054, 1, 4, 0x3F1F, 0, 0x0, 0x1800⟩,
   ⟨"ANG_EVT_ANGLE", 0x060, 16, 8, 0xFFFFFFFF, 0, 0x0, 0x0⟩,
   ⟨"ANG_EVT_CTL", 0x064, 16, 8, 0xE000FFFF, 0, 0x0, 0x0⟩,
   ⟨"ANG_STATE", 0x0E0, 1, 4, 0x0, 0, 0x0, 0x0⟩,
   ⟨"ANG_ANGLE", 0x0E4, 1, 4, 0x0, 0, 0x0, 0x0⟩,
   ⟨"ANG_TOOTH_TIME", 0x0E8, 2, 4, 0x0, 0, 0x0, 0x0⟩,
   ⟨"ANG_PRED_NS", 0x0F0, 1, 4, 0x0, 0, 0x0, 0x0⟩,
   ⟨"ANG_ERRS", 0x0F4, 1, 4, 0x0, 0, 0xFFFFFFFF, 0x0⟩,
   ⟨"ANG_CORR", 0x0F8, 1, 4, 0x0, 0, 0x0, 0x0⟩,
   ⟨"ANG_LOSS", 0x0FC, 1, 4, 0x0, 0, 0xFFFF0000, 0x0⟩,
   ⟨"ANG_LOG", 0x100, 32, 4, 0x0, 0, 0x0, 0x0⟩,
   ⟨"ANG_LOG_HEAD", 0x180, 1, 4, 0x0, 0, 0x0, 0x0⟩,
   ⟨"ANG_COUNT", 0x184, 1, 4, 0x0, 0, 0x0, 0x0⟩]

/-- Chapter 11. -/
def jslRegs : List RegDef :=
  [⟨"JSL_CFG", 0x040, 1, 4, 0xF10F0F, 0, 0x0, 0x300000⟩,
   ⟨"JSL_RESP_LEN", 0x044, 1, 4, 0x1F1F1F1F, 0, 0x0, 0x0⟩,
   ⟨"JSL_ACYC", 0x050, 1, 4, 0xFFFF03FF, 0, 0x0, 0x0⟩,
   ⟨"JSL_ACYC_DATA", 0x054, 1, 4, 0xFFFFFFFF, 0, 0x0, 0x0⟩,
   ⟨"JSL_ACYC_RESULT", 0x058, 1, 4, 0x0, 0, 0x0, 0x0⟩,
   ⟨"JSL_DATA", 0x080, 4, 32, 0x0, 0, 0x0, 0x0⟩,
   ⟨"JSL_STAT", 0x090, 4, 32, 0x0, 0, 0x0, 0x0⟩,
   ⟨"JSL_ERRS", 0x094, 4, 32, 0x0, 0, 0xFFFF, 0x0⟩,
   ⟨"JSL_STAMP", 0x098, 4, 32, 0x0, 0, 0x0, 0x0⟩,
   ⟨"JSL_TXN_NS", 0x100, 1, 4, 0x0, 0, 0x0, 0x0⟩]

/-- Chapter 12. -/
def rubricRegs : List RegDef :=
  [⟨"RUB_COUNT", 0x040, 1, 4, 0x1FF, 0, 0x0, 0x0⟩,
   ⟨"RUB_LIMP_AXES", 0x044, 1, 4, 0xFFFF, 0, 0x0, 0x0⟩,
   ⟨"RUB_STO_AXES", 0x048, 1, 4, 0xFFFF, 0, 0x0, 0xFFFF⟩,
   ⟨"RUB_BRK_AXES", 0x04C, 1, 4, 0xFFFFFFFF, 0, 0x0, 0x0⟩,
   ⟨"RUB_LIMP_LIMIT", 0x050, 1, 4, 0x3FFFFFF, 0, 0x0, 0x6400FA⟩,
   ⟨"RUB_PROB_LIMIT", 0x054, 1, 4, 0x3FFFFFF, 0, 0x0, 0x6400FA⟩,
   ⟨"RUB_RESET", 0x058, 1, 4, 0x1F, 0, 0x0, 0x0⟩,
   ⟨"RUB_CANS_ID", 0x05C, 1, 4, 0x7FF07FF, 0, 0x0, 0x0⟩,
   ⟨"RUB_CANS_TIMING", 0x060, 1, 4, 0xFFFFFFFF, 0, 0x0, 0x1⟩,
   ⟨"RUB_CONN_ID", 0x064, 1, 4, 0xFFFFFFFF, 0, 0x0, 0x0⟩,
   ⟨"RUB_JUDGE_MAX", 0x068, 1, 4, 0xFFFFFF, 0, 0x0, 0x3E8⟩,
   ⟨"RUB_VERSION", 0x06C, 1, 4, 0xFFFFFFFF, 0, 0x0, 0x0⟩,
   ⟨"RUB_IMAGE_CRC", 0x070, 1, 4, 0xFFFFFFFF, 0, 0x0, 0x0⟩,
   ⟨"RUB_STATUS", 0x078, 1, 4, 0x0, 0, 0x0, 0x0⟩,
   ⟨"RUB_COST", 0x07C, 1, 4, 0x0, 0, 0x0, 0x0⟩,
   ⟨"RUB_AXIS_KIND", 0x400, 16, 32, 0x3, 0, 0x0, 0x0⟩,
   ⟨"RUB_AXIS_SCALE", 0x404, 16, 32, 0xFFFFFFFF, 0, 0x0, 0x0⟩,
   ⟨"RUB_AXIS_ZERO", 0x408, 16, 32, 0xFFFFFFFF, 0, 0x0, 0x0⟩,
   ⟨"RUB_AXIS_STOP", 0x40C, 16, 32, 0xFFFF, 0, 0x0, 0x0⟩,
   ⟨"RUB_AXIS_HOLD", 0x410, 16, 32, 0xFFFFFFFF, 0, 0x0, 0x0⟩,
   ⟨"RUB_SOURCE_KIND", 0x800, 64, 16, 0xFFFF, 0, 0x0, 0x0⟩,
   ⟨"RUB_SOURCE_ADDR", 0x804, 64, 16, 0xFFFFFFFF, 0, 0x0, 0x0⟩,
   ⟨"RUB_SOURCE_ADDR_HI", 0x808, 64, 16, 0xFFFFFFFF, 0, 0x0, 0x0⟩,
   ⟨"RUB_SOURCE_HR", 0x80C, 64, 16, 0xFFFF0007, 0, 0x0, 0x0⟩,
   ⟨"RUB_RULE", 0x2000, 2048, 4, 0xFFFFFFFF, 0, 0x0, 0x0⟩]

/-- Chapter 12. -/
def safeioRegs : List RegDef :=
  [⟨"SAFEIO_PAIR", 0x040, 8, 4, 0xFFFFFF37, 0, 0x0, 0x321400⟩,
   ⟨"SAFEIO_BRK", 0x060, 1, 4, 0xFF, 0, 0x0, 0x32⟩,
   ⟨"SAFEIO_RAW", 0x080, 1, 4, 0x0, 0, 0x0, 0x0⟩,
   ⟨"SAFEIO_PAIR_STATE", 0x084, 1, 4, 0x0, 0, 0x0, 0xFFFF⟩,
   ⟨"SAFEIO_OUT", 0x088, 1, 4, 0x0, 0, 0x0, 0x0⟩,
   ⟨"SAFEIO_FAULT", 0x08C, 1, 4, 0x0, 0, 0x0, 0x0⟩,
   ⟨"SAFEIO_DEMANDS", 0x090, 1, 4, 0x0, 0, 0xFFFF, 0x0⟩]

/-- Chapter 12. -/
def proctorRegs : List RegDef :=
  [⟨"PROC_STATE", 0x040, 1, 4, 0x0, 0, 0x0, 0x0⟩,
   ⟨"PROC_VERDICT0", 0x044, 2, 4, 0x0, 0, 0x0, 0x0⟩,
   ⟨"PROC_RULES", 0x050, 8, 4, 0x0, 0, 0x0, 0x0⟩,
   ⟨"PROC_LATCH", 0x070, 8, 4, 0x0, 0, 0x0, 0x0⟩,
   ⟨"PROC_BEATS", 0x090, 1, 4, 0x0, 0, 0x0, 0x0⟩,
   ⟨"PROC_EVAL_NS", 0x094, 1, 4, 0x0, 0, 0xFFFFFFFF, 0x0⟩,
   ⟨"PROC_RUBRIC_CRC", 0x098, 1, 4, 0x0, 0, 0x0, 0x0⟩,
   ⟨"PROC_CANS", 0x09C, 1, 4, 0x0, 0, 0x0, 0x0⟩,
   ⟨"PROC_REQ", 0x0A0, 1, 4, 0x0, 0, 0x0, 0x0⟩,
   ⟨"PROC_LOG", 0x0A4, 1, 4, 0x0, 0, 0x0, 0x0⟩,
   ⟨"PROC_WORD", 0x100, 16, 4, 0x0, 0, 0x0, 0x0⟩,
   ⟨"PROC_LOG", 0x400, 256, 4, 0x0, 0, 0x0, 0x0⟩]

/-- Chapter 12. -/
def hallmonRegs : List RegDef :=
  [⟨"HM_STATUS", 0x040, 1, 4, 0x0, 0, 0x0, 0x0⟩,
   ⟨"HM_CHALLENGES", 0x044, 1, 4, 0x0, 0, 0x0, 0x0⟩,
   ⟨"HM_LAST", 0x048, 1, 4, 0x0, 0, 0x0, 0x0⟩,
   ⟨"HM_CLOCK", 0x04C, 1, 4, 0x0, 0, 0x0, 0x0⟩,
   ⟨"HM_ANSWER_US", 0x050, 1, 4, 0x0, 0, 0x0, 0x0⟩]

/-- Chapter 13. -/
def imageRegs : List RegDef :=
  [⟨"IMG_BOOT", 0x040, 1, 4, 0x0, 0, 0x0, 0x0⟩,
   ⟨"IMG_RESET_CAUSE", 0x044, 1, 4, 0x0, 0, 0x0, 0x1⟩,
   ⟨"IMG_BOOT_COUNT", 0x048, 1, 4, 0x0, 0, 0x0, 0x0⟩,
   ⟨"IMG_CTRL", 0x04C, 1, 4, 0x0, 0, 0x0, 0x0⟩,
   ⟨"IMG_SAHARD_ID", 0x050, 2, 4, 0x0, 0, 0x0, 0x0⟩,
   ⟨"IMG_COND_ID", 0x058, 2, 4, 0x0, 0, 0x0, 0x0⟩,
   ⟨"IMG_SAHARD_HASH", 0x060, 8, 4, 0x0, 0, 0x0, 0x0⟩,
   ⟨"IMG_COND_HASH", 0x080, 8, 4, 0x0, 0, 0x0, 0x0⟩,
   ⟨"IMG_FUSES", 0x0A0, 1, 4, 0x0, 0, 0x0, 0x0⟩,
   ⟨"IMG_VERIFY", 0x0A4, 1, 4, 0x0, 0, 0x0, 0x0⟩,
   ⟨"IMG_FLASH_ADDR", 0x0A8, 1, 4, 0xFFFFFFFF, 0, 0x0, 0x0⟩,
   ⟨"IMG_SRC", 0x0AC, 2, 4, 0xFFFFFFFF, 0, 0x0, 0x0⟩,
   ⟨"IMG_LEN", 0x0B4, 1, 4, 0xFFFFFFFF, 0, 0x0, 0x0⟩,
   ⟨"IMG_FLASH_INFO", 0x0B8, 1, 4, 0x0, 0, 0x0, 0x0⟩]

/-- Chapter 13. -/
def identityRegs : List RegDef :=
  [⟨"ID_DEVICE", 0x040, 4, 4, 0x0, 0, 0x0, 0x0⟩,
   ⟨"ID_STEPPING", 0x050, 1, 4, 0x0, 0, 0x0, 0x0⟩,
   ⟨"ID_SEAT", 0x054, 1, 4, 0x0, 0, 0x0, 0x0⟩,
   ⟨"ID_SEAT_SEQ", 0x058, 1, 4, 0x0, 0, 0x0, 0x0⟩,
   ⟨"ID_BODY", 0x060, 4, 4, 0x0, 0, 0x0, 0x0⟩,
   ⟨"ID_SEAT_BODY", 0x070, 4, 4, 0x0, 0, 0x0, 0x0⟩,
   ⟨"ID_NONCE", 0x080, 8, 4, 0xFFFFFFFF, 0, 0x0, 0x0⟩,
   ⟨"ID_CERT_LEN", 0x0A0, 1, 4, 0x0, 0, 0x0, 0x0⟩,
   ⟨"ID_CERT", 0x400, 256, 4, 0x0, 0, 0x0, 0x0⟩,
   ⟨"ID_QUOTE", 0x800, 64, 4, 0x0, 0, 0x0, 0x0⟩,
   ⟨"ID_SUBMIT", 0xC00, 64, 4, 0xFFFFFFFF, 0, 0x0, 0x0⟩]

/-- Chapter 14. -/
def dynRegs : List RegDef :=
  [⟨"DYN_STATE", 0x040, 1, 4, 0x0, 0, 0x0, 0x100⟩,
   ⟨"DYN_FLOORS", 0x044, 1, 4, 0x0, 0, 0x0, 0x0⟩,
   ⟨"DYN_TOL", 0x048, 1, 4, 0x0, 0, 0x0, 0x0⟩,
   ⟨"DYN_DWELL_US", 0x04C, 1, 4, 0xFFFFFF, 0, 0x0, 0x2710⟩,
   ⟨"DYN_ALARM", 0x050, 2, 4, 0xFFFFFFFF, 0, 0x0, 0x0⟩,
   ⟨"DYN_WAKE_LAST", 0x058, 1, 4, 0x0, 0, 0x0, 0x0⟩,
   ⟨"DYN_WAKE_NS", 0x05C, 1, 4, 0x0, 0, 0x0, 0x0⟩,
   ⟨"DYN_RES", 0x060, 5, 4, 0x0, 0, 0xFFFFFFFF, 0x0⟩,
   ⟨"DYN_TEMP_SEC", 0x074, 1, 4, 0x0, 0, 0x0, 0x0⟩,
   ⟨"DYN_TEMP_DIE", 0x078, 1, 4, 0x0, 0, 0x0, 0x0⟩,
   ⟨"DYN_THROTTLE", 0x07C, 1, 4, 0x0, 0, 0x0, 0x3E8⟩,
   ⟨"DYN_THERM_CFG", 0x080, 1, 4, 0xFF, 0, 0x0, 0x5⟩,
   ⟨"DYN_BROWNOUT", 0x084, 1, 4, 0x13, 0, 0x0, 0x12⟩,
   ⟨"DYN_LOOP_PIN", 0x088, 1, 4, 0x0, 0, 0x0, 0x0⟩]

/-- Chapter 15. -/
def pcieRegs : List RegDef :=
  [⟨"PCIE_LINK", 0x040, 1, 4, 0x0, 0, 0x0, 0x0⟩,
   ⟨"PCIE_CFG", 0x044, 1, 4, 0x7, 0, 0x0, 0x4⟩,
   ⟨"PCIE_UNMAPPED", 0x048, 1, 4, 0x0, 0, 0xFFFF, 0x0⟩,
   ⟨"PCIE_UNMAPPED_LAST", 0x04C, 1, 4, 0x0, 0, 0x0, 0x0⟩,
   ⟨"PCIE_ERRS", 0x050, 1, 4, 0x0, 0, 0xFFFFFFFF, 0x0⟩,
   ⟨"PCIE_DOWNS", 0x054, 1, 4, 0x0, 0, 0xFFFF, 0x0⟩,
   ⟨"PCIE_CPL_TIMEOUTS", 0x058, 1, 4, 0x0, 0, 0xFFFF, 0x0⟩]

/-- Chapter 15. -/
def ethRegs : List RegDef :=
  [⟨"ETH_CFG", 0x040, 1, 4, 0x3F, 0, 0x0, 0x0⟩,
   ⟨"ETH_MAC_LO", 0x044, 1, 4, 0xFFFFFFFF, 0, 0x0, 0x0⟩,
   ⟨"ETH_MAC_HI", 0x048, 1, 4, 0xFFFF, 0, 0x0, 0x0⟩,
   ⟨"ETH_TS_ADJ", 0x04C, 1, 4, 0xFFFF, 0, 0x0, 0x0⟩,
   ⟨"ETH_GPTP", 0x050, 1, 4, 0xFFFF, 0, 0x0, 0xFD⟩,
   ⟨"ETH_TXRING", 0x060, 8, 8, 0xFFFFFFF, 0, 0x0, 0x4000000⟩,
   ⟨"ETH_TXTAIL", 0x064, 8, 8, 0xFFFF, 0, 0x0, 0x0⟩,
   ⟨"ETH_RXRING", 0x0A0, 1, 4, 0xFFFFFFF, 0, 0x0, 0x4000000⟩,
   ⟨"ETH_RXTAIL", 0x0A4, 1, 4, 0xFFFF, 0, 0x0, 0x0⟩,
   ⟨"ETH_LINK", 0x0A8, 1, 4, 0x0, 0, 0x0, 0x0⟩,
   ⟨"ETH_GPTP_OFFSET", 0x0AC, 1, 4, 0x0, 0, 0x0, 0x0⟩,
   ⟨"ETH_PDELAY", 0x0B0, 1, 4, 0x0, 0, 0x0, 0x0⟩,
   ⟨"ETH_COUNTS", 0x0B4, 1, 4, 0x0, 0, 0xFFFFFFFF, 0x0⟩,
   ⟨"QBV_STATE", 0x100, 1, 4, 0x0, 0, 0x0, 0x0⟩,
   ⟨"QBV_CYCLE_NS", 0x104, 1, 4, 0x3FFFFFFF, 0, 0x0, 0xF4240⟩,
   ⟨"QBV_BASE", 0x108, 2, 4, 0xFFFFFFFF, 0, 0x0, 0x0⟩,
   ⟨"QBV_LEN", 0x110, 1, 4, 0x7F, 0, 0x0, 0x1⟩,
   ⟨"QBV_ADMIN", 0x400, 64, 4, 0xFFFFFFFF, 0, 0x0, 0xFF000001⟩,
   ⟨"QBV_OPER", 0x600, 64, 4, 0x0, 0, 0x0, 0x0⟩]

/-- Chapter 15. -/
def canRegs : List RegDef :=
  [⟨"CAN_CFG", 0x040, 1, 4, 0xF, 0, 0x0, 0x0⟩,
   ⟨"CAN_NOMINAL", 0x044, 1, 4, 0xFFFF03FF, 0, 0x0, 0x1F40320⟩,
   ⟨"CAN_DATA", 0x048, 1, 4, 0xFFFF03FF, 0, 0x0, 0x7D002EE⟩,
   ⟨"CAN_TXRING", 0x04C, 2, 4, 0xFFFFFFF, 0, 0x0, 0x4000000⟩,
   ⟨"CAN_TXTAIL", 0x054, 2, 4, 0xFFFF, 0, 0x0, 0x0⟩,
   ⟨"CAN_ERR", 0x05C, 1, 4, 0x0, 0, 0x0, 0x0⟩,
   ⟨"CAN_FILT_ID", 0x080, 32, 8, 0xBFFFFFFF, 0, 0x0, 0x0⟩,
   ⟨"CAN_FILT_MASK", 0x084, 32, 8, 0x1FFFFFFF, 0, 0x0, 0x0⟩]

/-- Chapter 15. -/
def compRegs : List RegDef :=
  [⟨"COMP_CFG", 0x040, 1, 4, 0xF, 0, 0x0, 0x0⟩,
   ⟨"COMP_SIZE", 0x044, 1, 4, 0x1FFF1FFF, 0, 0x0, 0x0⟩,
   ⟨"COMP_BG", 0x048, 1, 4, 0xFFFFFF, 0, 0x0, 0x0⟩,
   ⟨"COMP_WB", 0x04C, 1, 4, 0xFFFFFFFF, 0, 0x0, 0x0⟩,
   ⟨"COMP_WB_PITCH", 0x050, 1, 4, 0xFFFFFF, 0, 0x0, 0x0⟩,
   ⟨"COMP_WB_LAST", 0x054, 1, 4, 0x0, 0, 0x0, 0x0⟩,
   ⟨"COMP_FRAMES", 0x058, 1, 4, 0x0, 0, 0x0, 0x0⟩,
   ⟨"COMP_UNDERRUN", 0x05C, 1, 4, 0x0, 0, 0xFFFF, 0x0⟩,
   ⟨"COMP_CSC", 0x060, 5, 4, 0xFFFFFFFF, 0, 0x0, 0x0⟩,
   ⟨"COMP_CSC_OFF", 0x074, 1, 4, 0xFFFF, 0, 0x0, 0x8010⟩,
   ⟨"DSI_CFG", 0x080, 1, 4, 0xFFFF0033, 0, 0x0, 0x1F40000⟩,
   ⟨"DSI_HBLANK", 0x084, 1, 4, 0x3FFFFFFF, 0, 0x0, 0x0⟩,
   ⟨"DSI_VBLANK", 0x088, 1, 4, 0xFFFFFF, 0, 0x0, 0x0⟩,
   ⟨"DSI_PCLK_KHZ", 0x08C, 1, 4, 0xFFFFF, 0, 0x0, 0x0⟩,
   ⟨"DSI_PKT", 0x090, 1, 4, 0xFFFF3F, 0, 0x0, 0x0⟩,
   ⟨"DSI_PAYLOAD", 0x0A0, 16, 4, 0xFFFFFFFF, 0, 0x0, 0x0⟩,
   ⟨"DSI_READ0", 0x0E0, 2, 4, 0x0, 0, 0x0, 0x0⟩,
   ⟨"LAYER_CTL", 0x100, 8, 32, 0xFF1F, 0, 0x0, 0x0⟩,
   ⟨"LAYER_ADDR", 0x104, 8, 32, 0xFFFFFF, 0, 0x0, 0x0⟩,
   ⟨"LAYER_ADDR2", 0x108, 8, 32, 0xFFFFFF, 0, 0x0, 0x0⟩,
   ⟨"LAYER_PITCH", 0x10C, 8, 32, 0xFFFFFF, 0, 0x0, 0x0⟩,
   ⟨"LAYER_SRC", 0x110, 8, 32, 0x1FFF1FFF, 0, 0x0, 0x0⟩,
   ⟨"LAYER_POS", 0x114, 8, 32, 0x1FFF1FFF, 0, 0x0, 0x0⟩,
   ⟨"LAYER_DST", 0x118, 8, 32, 0x1FFF1FFF, 0, 0x0, 0x0⟩]
/-- Reset of COMP_CSC0–4: ITU-R BT.709 limited range (R511). -/
def cscReset : Nat → Nat
  | 0 => 4769
  | 1 => 7343 + 4769 * 0x10000
  | 2 => (0x10000 - 873) + (0x10000 - 2183) * 0x10000
  | 3 => 4769 + 8652 * 0x10000
  | _ => 0

/-- The block registers of a page type. -/
def blockRegs : PageType → List RegDef
  | .tempo => tempoRegs | .homeroom => homeroomRegs | .cue => cueRegs | .tile => tileRegs | .sect => sectionRegs
  | .locker => lockerRegs | .dma => dmaRegs | .camera => cameraRegs | .pfe => pfeRegs | .dpp => dppRegs
  | .weight => weightRegs | .codec => codecRegs | .kv => kvRegs | .loop => loopRegs | .pstage => pstageRegs
  | .angle => angleRegs | .jsl => jslRegs | .adc => adcRegs | .proctor => proctorRegs | .rubric => rubricRegs
  | .hallmon => hallmonRegs | .image => imageRegs | .identity => identityRegs | .dynamics => dynRegs
  | .pcie => pcieRegs | .eth => ethRegs | .can => canRegs | .compositor => compRegs | .safeio => safeioRegs

/-- The register that stands at an offset. -/
def regFind (t : PageType) (off : Nat) : Option RegDef :=
  (blockRegs t).find? fun d =>
    decide (d.off ≤ off) && decide ((off - d.off) % d.stride = 0) && decide ((off - d.off) / d.stride < d.cnt)

/-- Locker granule words of HR0 at reset: the granules the grade contains (Table 4-4). -/
def lockerPresentWord (g : Grade) (k : Nat) : Nat := if 32 * k < 64 * g.stacks then F32 else 0

/-- Reset value of a block register (the Reset columns), with the values that depend on the instance or the grade. -/
def regReset (c : Chip) (p : PageRef) (off : Nat) : Word :=
  let dflt := match regFind p.ty off with
    | some d => d.reset
    | none => 0
  let n : Nat := match p.ty with
    | .homeroom =>
      if off = 0x0E0 then 0xFE
      else if p.inst = 0 then
        (if off = 0x040 then F32 else if off = 0x044 then 64 else if off = 0x048 then 0x80000000
         else if 0x050 ≤ off ∧ off < 0x070 then F32
         else if 0x070 ≤ off ∧ off < 0x090 then lockerPresentWord c.grade ((off - 0x070) / 4)
         else if off = 0x0C8 then 1024 * 0x10000 else dflt)
      else dflt
    | .cue => if off = 0x040 then 256 * p.inst * 0x10000 + p.inst else dflt
    | .tile => if off = 0x040 then (p.inst / 8) * 256 + p.inst else dflt
    | .sect => if off = 0x040 then 8 * p.inst * 256 + p.inst else dflt
    | .locker => if off = 0x040 then 0x400800 + p.inst else dflt
    | .pfe => if off = 0x048 then 0x1000 else if off = 0x050 then 0x1000 else if off = 0x058 then 0x1000 else dflt
    | .pcie => if off = 0x040 then (if c.grade.ioDies = 2 then 0x1000 else 0) else dflt
    | .identity => if off = 0x050 then c.stepping else dflt
    | .compositor => if 0x060 ≤ off ∧ off ≤ 0x070 then cscReset ((off - 0x060) / 4) else dflt
    | _ => dflt
  BitVec.ofNat 32 n

/-- The CRC set of a page type: first offset and count of each range (Table 3-11). -/
def crcRanges : PageType → List (Nat × Nat)
  | .camera => [(0x040, 4)] | .pfe => [(0x040, 22)] | .weight => [(0x040, 11)] | .loop => [(0x040, 34), (0x0C8, 41)]
  | .pstage => [(0x040, 7)] | .adc => [(0x040, 1), (0x080, 48)] | .angle => [(0x040, 6)] | .jsl => [(0x040, 2)]
  | .rubric => [(0x040, 13)] | .safeio => [(0x040, 9)]
  | _ => []

/-- Block registers whose writes outside IDLE are refused with STATE_WRITE (R106). -/
def idleOnly (t : PageType) (off : Nat) : Bool :=
  match t with
  | .dma => off = 0x040
  | .tile => off = 0x0C0
  | .jsl => off = 0x040 || off = 0x044
  | .camera => 0x040 ≤ off && off ≤ 0x04C
  | .pfe => true
  | .weight => 0x040 ≤ off && off ≤ 0x054
  | .kv => 0x040 ≤ off && off ≤ 0x070
  | .loop => (0x040 ≤ off && off < 0x050) || (0x0C8 ≤ off && off ≤ 0x168)
  | .pstage => 0x040 ≤ off && off ≤ 0x058
  | .angle => 0x040 ≤ off && off ≤ 0x054
  | .rubric => true
  | .safeio => 0x040 ≤ off && off ≤ 0x060
  | .eth => (0x040 ≤ off && off ≤ 0x050) || (0x060 ≤ off && off ≤ 0x0A0 && off % 8 = 0)
  | .can => 0x040 ≤ off && off ≤ 0x050
  | .compositor => 0x040 ≤ off && off ≤ 0x08C
  | _ => false

end Sys2Proof.Machine
end

