-- ==== Sys2Proof/Machine/Ops.lean ====
section
/-!
DEFINITION. The named operations on pages, registers, interrupts, notes and SRAM that every meaning shares.
-/

namespace Sys2Proof.Machine

/-! ## Rubric images (R410) -/

/-- A Rubric image: words by offset, words of 0 not listed. -/
abbrev Image := List (Nat × Word)

def imgWord (img : Image) (off : Nat) : Word := tabGet 0 img off

def imgF (img : Image) (off hi lo : Nat) : Nat := fld (imgWord img off) hi lo

/-! ## Time -/

def now (s : State) : Nat := s.mtn.toNat

/-- The Metronome moves on to a value; it never decreases (R48). -/
def advanceTo (t : Nat) (s : State) : State :=
  if s.mtn.toNat < t then { s with mtn := BitVec.ofNat 64 t } else s

/-! ## Pages and registers -/

def State.page (s : State) (p : PageRef) : Page := tabGet Page.atReset s.pages (pageKey p)

def State.setPage (s : State) (p : PageRef) (v : Page) : State :=
  { s with pages := tabSet Page.atReset s.pages (pageKey p) v }

def State.modPage (s : State) (p : PageRef) (f : Page → Page) : State := s.setPage p (f (s.page p))

/-- A stored block register. -/
def State.reg (s : State) (p : PageRef) (off : Nat) : Word := tabGet (regReset s.chip p off) s.regs (regKey p off)

def State.setReg (s : State) (p : PageRef) (off : Nat) (v : Word) : State :=
  { s with regs := tabSet (regReset s.chip p off) s.regs (regKey p off) v }

def State.regN (s : State) (p : PageRef) (off : Nat) : Nat := (s.reg p off).toNat

/-- Field [hi:lo] of a block register. -/
def State.regF (s : State) (p : PageRef) (off hi lo : Nat) : Nat := fld (s.reg p off) hi lo

def State.setRegN (s : State) (p : PageRef) (off n : Nat) : State := s.setReg p off (word n)

def State.setRegF (s : State) (p : PageRef) (off hi lo n : Nat) : State := s.setReg p off (setFld (s.reg p off) hi lo n)

/-- A 64-bit quantity in two registers, low word first (R14). -/
def State.reg64 (s : State) (p : PageRef) (off : Nat) : Nat := s.regN p off + 0x100000000 * s.regN p (off + 4)

def State.setReg64 (s : State) (p : PageRef) (off n : Nat) : State :=
  (s.setRegN p off n).setRegN p (off + 4) (n / 0x100000000)

/-- Adds to a counter field that saturates. -/
def State.bumpF (s : State) (p : PageRef) (off hi lo k : Nat) : State :=
  s.setRegF p off hi lo (min (s.regF p off hi lo + k) (2 ^ (hi + 1 - lo) - 1))

/-- Adds to a 32-bit counter that wraps. -/
def State.incReg (s : State) (p : PageRef) (off : Nat) : State := s.setRegN p off (s.regN p off + 1)

/-- Puts a register back to its reset value. -/
def State.resetReg (s : State) (p : PageRef) (off : Nat) : State := s.setReg p off (regReset s.chip p off)

/-- The stored registers of a page from offset lo to hi go back to their reset values. -/
def State.resetRegs (s : State) (p : PageRef) (lo hi : Nat) : State :=
  { s with regs := s.regs.filter fun e => !(decide (regKey p lo ≤ e.1) && decide (e.1 ≤ regKey p hi)) }

def hrP (h : Nat) : PageRef := ⟨.homeroom, h⟩
def tempoP : PageRef := ⟨.tempo, 0⟩
def tileP (t : Nat) : PageRef := ⟨.tile, t⟩
def sectP (q : Nat) : PageRef := ⟨.sect, q⟩
def cueP (b : Nat) : PageRef := ⟨.cue, b⟩
def dmaP (c : Nat) : PageRef := ⟨.dma, c⟩
def lockerP (k : Nat) : PageRef := ⟨.locker, k⟩
def loopP (n : Nat) : PageRef := ⟨.loop, n⟩
def pstageP (n : Nat) : PageRef := ⟨.pstage, n⟩
def angleP (n : Nat) : PageRef := ⟨.angle, n⟩
def procP : PageRef := ⟨.proctor, 0⟩
def rubricP : PageRef := ⟨.rubric, 0⟩
def safeioP : PageRef := ⟨.safeio, 0⟩
def hallP : PageRef := ⟨.hallmon, 0⟩
def imageP : PageRef := ⟨.image, 0⟩
def identP : PageRef := ⟨.identity, 0⟩
def dynP : PageRef := ⟨.dynamics, 0⟩
def pcieP (d : Nat) : PageRef := ⟨.pcie, d⟩

def State.hr (s : State) (h : Nat) : Hr := tabGet Hr.atReset s.hrs h
def State.setHr (s : State) (h : Nat) (v : Hr) : State := { s with hrs := tabSet Hr.atReset s.hrs h v }
def State.modHr (s : State) (h : Nat) (f : Hr → Hr) : State := s.setHr h (f (s.hr h))

def State.tile (s : State) (t : Nat) : Tile := tabGet Tile.atReset s.tiles t
def State.setTile (s : State) (t : Nat) (v : Tile) : State := { s with tiles := tabSet Tile.atReset s.tiles t v }
def State.modTile (s : State) (t : Nat) (f : Tile → Tile) : State := s.setTile t (f (s.tile t))

def State.chan (s : State) (c : Nat) : DmaChan := tabGet DmaChan.atReset s.dma c
def State.setChan (s : State) (c : Nat) (v : DmaChan) : State := { s with dma := tabSet DmaChan.atReset s.dma c v }

/-- Draws a fresh index for a free value. -/
def State.drawFree (s : State) : State := { s with freeCtr := s.freeCtr + 1 }

def stateCode : PageState → Nat
  | .off => 0 | .idle => 1 | .armed => 2 | .running => 3 | .hold => 4 | .fault => 5 | .excused => 6 | .locked => 7

/-- A page makes a transition (R91). -/
def State.toState (s : State) (p : PageRef) (st : PageState) : State :=
  s.modPage p fun g => { g with prev := g.state, state := st }

def State.pageState (s : State) (p : PageRef) : PageState := (s.page p).state

def State.inState (s : State) (p : PageRef) (l : List PageState) : Bool := l.contains (s.pageState p)

/-- ARMED, RUNNING or HOLD. -/
def activeStates : List PageState := [.armed, .running, .hold]

/-- An axis is torque-enabled while its LOOP page is in RUNNING or HOLD (R314). -/
def State.torque (s : State) (n : Nat) : Bool := s.inState (loopP n) [.running, .hold]

def State.anyTorque (s : State) : Bool := (List.range 16).any s.torque

/-- Ticks run: the TEMPO page is in RUNNING or HOLD. -/
def State.ticking (s : State) : Bool := s.inState tempoP [.running, .hold]

/-! ## Tempo in force (R42, R43) -/

def State.tPulse (s : State) : Nat := s.regN tempoP 0x050
def State.nBeat (s : State) : Nat := s.regN tempoP 0x054
def State.mBar (s : State) : Nat := s.regN tempoP 0x058
def State.tBeat (s : State) : Nat := s.nBeat * s.tPulse
def State.tBar (s : State) : Nat := s.mBar * s.tBeat
def State.epoch (s : State) : Nat := s.reg64 tempoP 0x068

/-! ## Requesters (R121) -/

/-- The homeroom whose tile mask holds a tile; HR0 holds what no other homeroom owns (R117). -/
def State.tileHr (s : State) (t : Nat) : Nat :=
  ((List.range 8).drop 1).foldl (fun h k => if bit (s.reg (hrP k) 0x040) t then k else h) 0

def State.pasidHr (s : State) (pasid : Nat) : Option Nat :=
  (List.range 8).find? fun k => bit (s.reg (hrP k) 0x048) 31 && decide (s.regF (hrP k) 0x048 19 0 = pasid)

/-- The homeroom a requester acts as; none: the stream ID maps to no homeroom (R79).
Without PASID Enable every host request acts as HR0 (R495). -/
def State.requesterHr (s : State) : Requester → Option Nat
  | .host none => some 0
  | .host (some p) => if s.msix.pasidEn then s.pasidHr p.toNat else some 0
  | .core _ => some 0
  | .tile t => some (s.tileHr t.val)
  | .dma c => some (s.page (dmaP c.val)).owner

/-- Source codes of Table 4-5. -/
def sourceCode : Requester → Nat
  | .tile t => t.val
  | .host _ => 0x40
  | .core c => 0x48 + c.val
  | .dma c => 0x50 + c.val

/-! ## Interrupts -/

/-- The host link is up: the endpoint is there and trained (R494, R497). -/
def State.hostUp (s : State) : Bool := s.msix.linkUp && !s.excused.getLsbD 146 && !s.excused.getLsbD 80

/-- A posted write to host memory; while the link is down it is discarded (R497). -/
def State.sendHost (s : State) (w : HostWrite) : State :=
  if s.hostUp then { s with out := { s.out with hostWrites := s.out.hostWrites ++ [w] } } else s

/-- Sends an MSI-X message, or sets its PBA bit while it cannot be sent (R496, R497). -/
def State.sendMsix (s : State) (e : Nat) : State :=
  let m := s.msix
  if s.hostUp && m.enabled && !m.funcMask && !m.masked.getLsbD e then { s with out := { s.out with msix := s.out.msix ++ [e] } }
  else { s with msix := { m with pba := m.pba ||| (1#64 <<< e) } }

/-- The vector a homeroom selects for a page type (R132). -/
def State.vector (s : State) (h : Nat) (t : PageType) : Nat :=
  let c := typeCode t
  fld (s.reg (hrP h) (0x0B0 + 4 * (c / 8))) (3 * (c % 8) + 2) (3 * (c % 8))

/-- A page sends an interrupt message to its owner (R88, R118, R125). -/
def State.irqMessage (s : State) (p : PageRef) : State :=
  let h := (s.page p).owner
  s.sendMsix (8 * h + s.vector h p.ty)

/-- An event sets bit i of PAGE_IRQ_PEND (R87, R88). -/
def State.raise (s : State) (p : PageRef) (i : Nat) : State :=
  let g := s.page p
  let pend := g.pend ||| (1#32 <<< i)
  let s1 := s.setPage p { g with pend := pend }
  if g.pend &&& g.en = 0 && pend &&& g.en ≠ 0 then s1.irqMessage p else s1

/-- Counts a refusal and raises the refusal interrupt (R81, R97). -/
def State.countRefusal (s : State) (p : PageRef) : State :=
  (s.modPage p fun g => { g with refusals := satInc 0xFF g.refusals }).raise p (refusalBit p.ty)

/-- Records a syndrome: code in [23:16], detail in [15:0]. -/
def State.syndrome (s : State) (p : PageRef) (code detail : Nat) : State :=
  s.modPage p fun g => { g with syndrome := (code % 256) * 0x10000 + detail % 0x10000 }

/-- Sends the Proctor a note (Table 12-6). -/
def State.note (s : State) (cls src unit axes info : Nat) : State := { s with notes := s.notes ++ [⟨cls, src, unit, axes, info, now s, []⟩] }

/-- A note that carries the Metronome value of what it tells. -/
def State.noteAt (s : State) (t cls src unit axes info : Nat) : State := { s with notes := s.notes ++ [⟨cls, src, unit, axes, info, t, []⟩] }

/-- A note that carries more than one word. -/
def State.noteData (s : State) (cls src unit axes info : Nat) (data : List Nat) : State :=
  { s with notes := s.notes ++ [⟨cls, src, unit, axes, info, now s, data⟩] }

/-! ## Page states with what follows from them -/

/-- Posts a result in PAGE_CMD_RESULT (section 3.2). -/
def State.postResult (s : State) (p : PageRef) (res : Nat) (at' : PageState) (code : Nat) (seq : BitVec 16) : State :=
  s.modPage p fun g =>
    { g with result := word (res * 0x10000000 + stateCode at' * 0x1000000 + (code % 256) * 0x10000 + seq.toNat) }

/-- The final result of a command (R99). REFUSED_STATE and REFUSED_ARG count as refusals (R97). -/
def State.postFinal (s : State) (p : PageRef) (res : Nat) (syn : Option (Nat × Nat)) (c : PendCmd) : State :=
  let s1 := s.postResult p res c.stateAt c.code c.seq
  let s2 := match syn with
    | some (a, b) => s1.syndrome p a b
    | none => s1
  if res = 3 || res = 5 then s2.countRefusal p else s2

/-- The pending command finishes. -/
def State.finishPending (s : State) (p : PageRef) (res : Nat) (syn : Option (Nat × Nat)) : State :=
  match (s.page p).pending with
  | none => s
  | some c => (s.modPage p fun g => { g with pending := none }).postFinal p res syn c

/-- The accepted QUIESCE commands finish. -/
def State.finishQuiesce (s : State) (p : PageRef) (res : Nat) (syn : Option (Nat × Nat)) : State :=
  (s.page p).quiesces.foldl (fun s c => s.postFinal p res syn c) (s.modPage p fun g => { g with quiesces := [] })

def State.finishAll (s : State) (p : PageRef) (res : Nat) (syn : Option (Nat × Nat)) : State :=
  (s.finishPending p res syn).finishQuiesce p res syn

/-- A page that a QUIESCE holds goes from RUNNING to HOLD once its frame is over. -/
def State.frameHold (s : State) (p : PageRef) (quiescing : Bool) : State :=
  if quiescing && decide (s.pageState p = .running) then (s.toState p .hold).finishQuiesce p 2 none else s

/-- A camera frame in progress: neither discarded nor dropped. -/
def CamFrame.live (f : CamFrame) : Bool := !f.discard && !f.err

/-- The frames in progress of a camera end without a commit. With `counted` they are discarded, and the rest of the frame that is
being received too (R252); else the unit is gone. -/
def State.abortCam (s : State) (n : Nat) (counted : Bool) : State :=
  let c := tabGet Cam.atReset s.cams n
  let k := ((c.frame.toList ++ c.waiting).filter CamFrame.live).length
  let s1 := { s with cams := tabSet Cam.atReset s.cams n { c with
    frame := if counted then c.frame.map fun f => { f with discard := true } else none
    waiting := [], sample := none, camQuiescing := false, pfeQuiescing := false } }
  if counted then
    (((if k = 0 then s1 else s1.bumpF ⟨.camera, n⟩ 0x068 15 0 k).frameHold ⟨.camera, n⟩ c.camQuiescing).frameHold ⟨.pfe, n⟩ c.pfeQuiescing)
  else s1

/-- Injection ends before its capture, which runs on (R345). -/
def LoopAxis.injCut (a : LoopAxis) : LoopAxis :=
  if a.inj.isSome then { a with inj := none, cap := a.cap.map fun c => { c with cut := true } } else a

/-- What a unit has in progress when its page leaves ARMED, RUNNING and HOLD otherwise than by a command: FAULT, EXCUSED or OFF. -/
def State.abortWork (s : State) (p : PageRef) (counted : Bool) : State :=
  match p.ty with
  | .camera | .pfe => s.abortCam p.inst counted
  | .dpp => { s with dpp := { s.dpp with job := none, quiescing := false } }
  | .codec => { s with codec := { s.codec with jobs := [] } }
  | .kv => { s with kv := { s.kv with req := none, swap := none, quiescing := false, halted := false } }
  | .adc => { s with calibs := tabSet none s.calibs p.inst none }
  | .jsl => { s with jsls := tabSet JslPort.atReset s.jsls p.inst JslPort.atReset }
  | .loop =>
    let a := (tabGet LoopAxis.atReset s.loops p.inst).injCut
    { s with loops := tabSet LoopAxis.atReset s.loops p.inst { a with stopping := false, still := 0, vPrev := (0, 0) } }
  | _ => s

/-- A page becomes EXCUSED or LOCKED; a pending command posts REFUSED_STATE with UNIT_LOST (R101). -/
def State.losePage (s : State) (p : PageRef) (st : PageState) : State :=
  ((s.toState p st).finishAll p 3 (some (0xFF, 6))).abortWork p false

/-- The axes an event of a page concerns: the page's axis, or every axis (Table 12-6). -/
def pageAxes (p : PageRef) : Nat :=
  match p.ty with
  | .loop | .pstage | .angle => 2 ^ p.inst
  | _ => 0xFFFF

/-! ## Violations (R124) -/

/-- Writes a violation record into the requester's HOMEROOM page (Table 4-5) and counts it. The limit of R126 is judged by
`violationFault`. -/
def State.violation (s : State) (h : Nat) (res kind cmd src : Nat) (where' detail : Nat) : State :=
  let p := hrP h
  let s1 := s.setRegN p 0x0A0 (res + kind * 0x10 + (cmd % 256) * 0x100 + src * 0x10000)
  let s2 := ((s1.setRegN p 0x0A4 where').setRegN p 0x0A8 detail).setRegN p 0x0AC (now s)
  let s3 := (s2.bumpF p 0x098 15 0 1).raise p 1
  s3.modHr h fun r => { r with windowCount := r.windowCount + 1 }

/-- A host access whose stream ID maps to no homeroom is recorded by the PCIE page (R79). -/
def State.unmapped (s : State) (pasid : Nat) (write : Bool) : State :=
  let p : PageRef := ⟨.pcie, 0⟩
  ((s.bumpF p 0x048 15 0 1).setRegN p 0x04C ((if write then 0x80000000 else 0) + pasid)).raise p 1

def State.unmappedBy (s : State) (r : Requester) (write : Bool) : State :=
  match r with
  | .host (some p) => s.unmapped p.toNat write
  | _ => s

/-! ## SRAM (sections 5.2 to 5.4) -/

/-- The SRAM levels of Table 5-2. -/
inductive Level where
  | tile (t off : Nat)
  | commons (g : Nat)
  | locker (g : Nat)
  | none
  deriving DecidableEq, Repr

def Grade.lockerGranules (g : Grade) : Nat := 64 * g.stacks

def levelAt (g : Grade) (a : Nat) : Level :=
  if a < 0x2000000 then .tile (a / 0x100000) (a % 0x100000)
  else if a < 0x3000000 then .commons ((a - 0x2000000) / 0x10000)
  else if 0x4000000 ≤ a ∧ a < 0x4000000 + 0x100000 * g.lockerGranules then .locker ((a - 0x4000000) / 0x100000)
  else .none

/-- Excused bit of the Commons block or Locker channel an address lies in (Table 3-9). -/
def memUnit (g : Grade) (a : Nat) : Option Nat :=
  match levelAt g a with
  | .commons k => some (32 + k / 32)
  | .locker k => some (48 + 8 * (k / 64) + (k % 64) / 8)
  | _ => .none

def State.isExcused (s : State) (b : Nat) : Bool := s.excused.getLsbD b

def State.commonsGranted (s : State) (h g : Nat) : Bool := bit (s.reg (hrP h) (0x050 + 4 * (g / 32))) (g % 32)

def State.lockerGranted (s : State) (h g : Nat) : Bool := bit (s.reg (hrP h) (0x070 + 4 * (g / 32))) (g % 32)

/-- The unit is not Excused: a granule in an Excused Commons block or Locker channel cannot be accessed (R120). -/
def State.memOpen (s : State) (a : Nat) : Bool :=
  match memUnit s.chip.grade a with
  | some b => !s.isExcused b
  | none => true

/-- A homeroom reaches an SRAM byte only within its grants (R123), outside Excused memory (R120). -/
def State.reaches (s : State) (h a : Nat) : Bool :=
  (match levelAt s.chip.grade a with
   | .tile t _ => decide (s.tileHr t = h) && !s.isExcused t
   | .commons g => s.commonsGranted h g
   | .locker g => s.lockerGranted h g
   | .none => false) && s.memOpen a

def State.reachesAll (s : State) (h a n : Nat) : Bool := n = 0 || (s.reaches h a && s.reaches h (a + n - 1) &&
  ((List.range (n / 64)).all fun i => s.reaches h (a + 64 * i)))

/-- A byte nothing has written reads as 0: boot leaves every scratchpad word 0 (R169); DESIGN CHOICE for Commons and
Locker (log entry 2). -/
def memReset : Byte := 0

/-- The key of the range of unspecified contents an address lies in; 0: none. -/
def staleKey (l : List (Nat × Nat × Nat)) (a : Nat) : Nat :=
  match l.find? fun e => decide (e.1 ≤ a) && decide (a < e.2.1) with
  | some e => e.2.2
  | none => 0

/-- The ranges without n bytes from an address. -/
def cutStale (l : List (Nat × Nat × Nat)) (a n : Nat) : List (Nat × Nat × Nat) :=
  (l.flatMap fun e => [(e.1, min e.2.1 a, e.2.2), (max e.1 (a + n), e.2.1, e.2.2)]).filter fun e => decide (e.1 < e.2.1)

def State.readByte (s : State) (a : Nat) : Byte :=
  let k := staleKey s.sram.stale a
  if k = 0 then tabGet memReset s.mem a else Config.staleByte k a

/-- The contents of a range become unspecified (R222, R225). -/
def State.forgetRange (s : State) (a n key : Nat) : State :=
  { s with mem := s.mem.filter fun c => decide (c.1 < a) || decide (a + n ≤ c.1),
           sram := { s.sram with stale := (a, a + n, key) :: cutStale s.sram.stale a n } }

/-- Tile programs have written a range; where it lies in a scratchpad it does not outlast the activation (R222). -/
def State.touch (s : State) (a n : Nat) : State :=
  if a < 0x2000000 then s.modTile (a / 0x100000) fun u => { u with touched := (a, n) :: u.touched.filter fun e => e ≠ (a, n) } else s

def State.readBytes (s : State) (a n : Nat) : List Byte := (List.range n).map fun i => s.readByte (a + i)

def State.isPoison (s : State) (a : Nat) : Bool := tabGet false s.sram.poison (a / 8)

def State.errAt (s : State) (a : Nat) : Nat := tabGet 0 s.sram.errs (a / 8)

/-- Some word of a range is stored poisoned or holds an uncorrectable error. -/
def State.rangePoison (s : State) (a n : Nat) : Bool :=
  let inside := fun (w : Nat) => decide (a / 8 ≤ w) && decide (8 * w < a + n)
  (s.sram.poison.any fun e => inside e.1 && e.2) || (s.sram.errs.any fun e => inside e.1 && decide (e.2 = 2))

/-- The words of a range, by address / 8. -/
def rangeWords (a n : Nat) : List Nat := (List.range ((a % 8 + n + 7) / 8)).map fun i => a / 8 + i

/-- Writes bytes. Poisoned data stores the poison pattern in every word it writes; unpoisoned data clears it (R171), except
where a partial word is read, modified and written over an uncorrectable error (R174). -/
def State.writeBytes (s : State) (a : Nat) (bs : List Byte) (poisoned : Bool) : State :=
  let ws := rangeWords a bs.length
  let full := fun w => decide (a ≤ 8 * w) && decide (8 * w + 8 ≤ a + bs.length)
  let po := ws.foldl (fun m w =>
    tabSet false m w (poisoned || (!full w && (tabGet false m w || tabGet 0 s.sram.errs w = 2)))) s.sram.poison
  let er := ws.foldl (fun m w => tabSet 0 m w 0) s.sram.errs
  { s with mem := tabSetList memReset s.mem a bs,
           sram := { s.sram with poison := po, errs := er, stale := cutStale s.sram.stale a bs.length } }

def State.readWord (s : State) (a : Nat) : Word := BitVec.ofNat 32 (leNat (s.readBytes a 4))
def State.readNat (s : State) (a n : Nat) : Nat := leNat (s.readBytes a n)
def State.writeWord (s : State) (a : Nat) (v : Word) : State := s.writeBytes a (leBytes 4 v.toNat) false

/-- Source code of an engine in violation and error records; Table 4-5 gives none (free value, log entry 11). -/
def engineSrc : Nat := Config.engineSource % 256

/-! ## Errors met by an access (R155, R170, R177) -/

/-- TILE_MEMERR for an event at an offset. -/
def memErrWord (kind off cls : Nat) : Nat := kind * 0x10000000 + (off / 0x10000 % 16) * 0x1000000 + cls * 0x100000 + off / 128 % 8192

/-- Notes the time of an uncorrectable error of a unit; the unit is to be Excused when its previous one is at most 1 s old. -/
def State.countUe (s : State) (unit : Nat) : State :=
  let last := tabGet 0 s.sram.lastUe unit
  let again := decide (last ≠ 0) && decide (now s + 1 ≤ last + 1000000000)
  { s with sram := { s.sram with
      lastUe := tabSet 0 s.sram.lastUe unit (now s + 1)
      condemned := if again && !s.sram.condemned.contains unit then s.sram.condemned ++ [unit] else s.sram.condemned } }

/-- An uncorrectable scratchpad error (R170). -/
def State.tileUe (s : State) (t off cls : Nat) : State :=
  let s1 := ((s.setRegN (tileP t) 0x0C4 (memErrWord 2 off cls)).bumpF (tileP t) 0x0C8 15 8 1).raise (tileP t) 9
  (s1.note 6 t t 0xFFFF (t * 0x100000 + off)).countUe t

/-- A Commons or Locker error: 1 corrected, 2 uncorrectable on a read, 3 uncorrectable found by scrub. Its record goes to the
Proctor (R177) and to the LOCKER page (Table 5-7). -/
def State.memRecord (s : State) (a src kind : Nat) : State :=
  let s1 := s.note 6 src 0 0xFFFF (kind * 0x100000000 + a)
  match memUnit s.chip.grade a with
  | none => s1
  | some b =>
    let s2 := if b < 48 then s1
      else
        let p := lockerP ((b - 48) / 8)
        let c := (b - 48) % 8
        if kind = 1 then (s1.bumpF p (0x050 + 4 * (c / 2)) (16 * (c % 2) + 15) (16 * (c % 2)) 1).raise p 0
        else (((s1.bumpF p 0x060 (4 * c + 3) (4 * c) 1).setReg64 p 0x064 a).setRegN p 0x06C (src * 0x100 + kind * 0x10 + c)).raise p 1
    if kind = 1 then s2 else s2.countUe b

def State.setErr (s : State) (a e : Nat) : State := { s with sram := { s.sram with errs := tabSet 0 s.sram.errs (a / 8) e } }

def State.setPoison (s : State) (a : Nat) (b : Bool) : State :=
  { s with sram := { s.sram with poison := tabSet false s.sram.poison (a / 8) b } }

/-- An access meets the error that stands in one word: corrected and counted, or reported. -/
def State.meetError (s : State) (src cls : Nat) (e : Nat × Nat) : State :=
  match levelAt s.chip.grade (8 * e.1) with
  | .tile t off => if e.2 = 1 then (s.setErr (8 * e.1) 0).bumpF (tileP t) 0x0C8 31 16 1 else s.tileUe t off cls
  | .none => s
  | _ => if e.2 = 1 then (s.setErr (8 * e.1) 0).memRecord (8 * e.1) src 1 else s.memRecord (8 * e.1) src 2

/-- An access to n bytes meets the errors that stand in their words, the uncorrectable ones last. A unit whose second uncorrectable
error this is becomes Excused with `takeCondemned`. -/
def State.meetErrors (s : State) (a n src cls : Nat) : State :=
  let hit := s.sram.errs.filter fun e => decide (a / 8 ≤ e.1) && decide (8 * e.1 < a + n)
  (hit.filter fun e => decide (e.2 = 2)).foldl (fun s e => s.meetError src cls e)
    ((hit.filter fun e => decide (e.2 = 1)).foldl (fun s e => s.meetError src cls e) s)

/-- A write by a source: the words it writes in part are read first, and their errors are met (R174, R177). -/
def State.storeBytes (s : State) (a : Nat) (bs : List Byte) (poisoned : Bool) (src cls : Nat) : State :=
  let n := bs.length
  let s1 := if a % 8 = 0 ∨ n = 0 then s else s.meetErrors a (min n (8 - a % 8)) src cls
  let s2 := if (a + n) % 8 = 0 ∨ (a + n) / 8 * 8 < a then s1 else s1.meetErrors ((a + n) / 8 * 8) ((a + n) % 8) src cls
  s2.writeBytes a bs poisoned

/-! ## Weight copies (R271) -/

def weightP (k : Nat) : PageRef := ⟨.weight, k⟩

/-- Base of copy A or B of a weight bank. -/
def State.weightBase (s : State) (k : Nat) (b : Bool) : Nat := s.reg64 (weightP k) (if b then 0x048 else 0x040)

def State.weightBytes (s : State) (k : Nat) : Nat := 4096 * s.regF (weightP k) 0x050 14 0

/-- A SEGUE of the bank is pending. -/
def State.seguePending (s : State) (k : Nat) : Bool := bit (s.reg (weightP k) 0x06C) 29

/-- The inactive copy is B: copy A is active. Before the first switch copy A is the inactive one. -/
def State.inactiveB (s : State) (k : Nat) : Bool :=
  let w := s.reg (weightP k) 0x06C
  bit w 31 && !bit w 30

def overlaps (a n b m : Nat) : Bool := decide (0 < n) && decide (0 < m) && decide (a < b + m) && decide (b < a + n)

/-- A write of n bytes meets the Conductor image (R440) or a copy that R271 guards: the active one, or the inactive one while a
SEGUE is pending. -/
def State.weightGuarded (s : State) (a n : Nat) : Bool :=
  (!s.boot.headC.isEmpty && overlaps a n 0x2000000 0x180000) ||
  (List.range 8).any fun k =>
    (s.inState (weightP k) [.running, .hold] && overlaps a n (s.weightBase k (!s.inactiveB k)) (s.weightBytes k)) ||
    (s.seguePending k && overlaps a n (s.weightBase k (s.inactiveB k)) (s.weightBytes k))

/-! ## Grant space (R119) -/

/-- The Commons granules of a homeroom in ascending number. -/
def State.commonsGranules (s : State) (h : Nat) : List Nat := (List.range 256).filter (s.commonsGranted h)

def State.lockerGranules (s : State) (h : Nat) : List Nat := (List.range 256).filter (s.lockerGranted h)

/-- SRAM address of a byte offset in a homeroom's Commons grant. -/
def State.grantAddr (s : State) (h off : Nat) : Option Nat :=
  ((s.commonsGranules h)[off / 0x10000]?).map fun g => 0x2000000 + g * 0x10000 + off % 0x10000

/-- A range of n bytes lies wholly in the grant. -/
def State.inGrant (s : State) (h off n : Nat) : Bool := decide (off + n ≤ 0x10000 * (s.commonsGranules h).length)

/-- SRAM address of a byte offset in the grant that can be accessed (R120). -/
def State.grantOpen (s : State) (h off : Nat) : Option Nat := (s.grantAddr h off).filter s.memOpen

def State.readGrant (s : State) (h off n : Nat) : List Byte :=
  (List.range n).map fun i => match s.grantOpen h (off + i) with
    | some a => s.readByte a
    | none => 0

/-- Bytes in runs that end at the multiples of 64 above their grant offset. -/
def grantRuns (off : Nat) (bs : List Byte) : List (Nat × List Byte) :=
  (List.range (if bs.isEmpty then 0 else (off % 64 + bs.length + 63) / 64)).map fun i =>
    let lo := 64 * i - off % 64
    (off + lo, (bs.drop lo).take (64 * (i + 1) - off % 64 - lo))

/-- A device read of bytes in the grant meets the errors that stand in them (R177, R178). -/
def State.meetGrant (s : State) (h off n : Nat) : State :=
  (grantRuns off (List.replicate n 0)).foldl (fun s e => match s.grantOpen h e.1 with
    | some a => s.meetErrors a e.2.length engineSrc 0
    | none => s) s

/-- A word of the grant is poisoned, or cannot be read. -/
def State.badGrant (s : State) (h off : Nat) : Bool := match s.grantOpen h off with
  | some a => s.isPoison a || decide (s.errAt a = 2)
  | none => true

def State.grantPoison (s : State) (h off n : Nat) : Bool := (List.range ((n + 7) / 8)).any fun i => s.badGrant h (off + 8 * i)

/-- A device write in a homeroom's grant. The limit of R126 is judged by `writeGrant`. -/
def State.putGrant (s : State) (h off : Nat) (bs : List Byte) (poisoned : Bool := false) : State :=
  (grantRuns off bs).foldl (fun s e => match s.grantOpen h e.1 with
    | some a =>
      if s.weightGuarded a e.2.length then s.violation h 4 2 0 engineSrc (a % 0x100000000) 0
      else s.storeBytes a e.2 poisoned engineSrc 0
    | none => s) s

/-! ## Answers -/

/-- The answer of a read goes to its requester. -/
def State.answer (s : State) (bs : List Byte) (poisoned : Bool) : State :=
  { s with out := { s.out with readData := bs, readPoison := poisoned } }

def State.answerWord (s : State) (v : Word) : State := s.answer (leBytes 4 v.toNat) false

/-! ## Dynamics (section 14.1) -/

/-- The Dynamics state: 0 FORTE to 4 TACET. -/
def State.dynState (s : State) : Nat := s.regF dynP 0x040 2 0

def State.modDyn (s : State) (f : DynUnit → DynUnit) : State := { s with dyn := f s.dyn }

/-- A wake source in PIANISSIMO or TACET starts a wake (R476). -/
def State.wakeBy (s : State) (src : Nat) : State :=
  if s.dynState < 3 ∨ s.dyn.wake.isSome then s else s.modDyn fun d => { d with wake := some (src, s.dynState, now s), due := false }

/-- A host request through BAR0 is a wake source. -/
def State.hostWake (s : State) (r : Requester) : State :=
  match r with
  | .host _ => s.wakeBy 1
  | _ => s

/-- Credits the time since the latest credit to the present state (DYN_RES). -/
def State.creditRes (s : State) : State :=
  let k := s.dynState
  let ns := tabGet 0 s.dyn.resNs k + (now s - s.dyn.since)
  (s.setRegN dynP (0x060 + 4 * k) (min (s.regN dynP (0x060 + 4 * k) + ns / 1000000) F32)).modDyn fun d =>
    { d with since := now s, resNs := tabSet 0 d.resNs k (ns % 1000000) }

end Sys2Proof.Machine
end

