-- ==== Sys2Proof/Machine/Release.lean ====
section
/-!
DEFINITION. Scores at run time: releases, late outcomes and records (sections 2.5 and 2.7), the end of an activation on a
tile, Part image faults and homeroom faults (R126, R235).
-/

namespace Sys2Proof.Machine

/-! ## Parts -/

def State.score (s : State) (h : Nat) : Option Score := (s.hr h).score

/-- Part index oldBase × k + i names Part i of the k-th latest replaced Score, whose activations finish (R67). -/
def oldBase : Nat := 2000

/-- The Score a Part index lies in. -/
def State.scoreOf (s : State) (h i : Nat) : Option Score := if i < oldBase then (s.hr h).score else (s.hr h).oldScores[i / oldBase - 1]?

def State.part? (s : State) (h i : Nat) : Option Part :=
  match s.scoreOf h i with
  | some c => c.parts[i % oldBase]?
  | none => none

def State.setPart (s : State) (h i : Nat) (p : Part) : State :=
  let put := fun (c : Score) => { c with parts := listSet c.parts (i % oldBase) p }
  if i < oldBase then s.modHr h fun r => { r with score := r.score.map put }
  else s.modHr h fun r => { r with oldScores := r.oldScores.modify (i / oldBase - 1) put }

def State.setAct (s : State) (h i : Nat) (a : Option Activation) : State :=
  match s.part? h i with
  | some p => s.setPart h i { p with act := a }
  | none => s

def State.modAct (s : State) (h i : Nat) (f : Activation → Activation) : State :=
  match s.part? h i with
  | some p => s.setPart h i { p with act := p.act.map f }
  | none => s

/-- Every Part of every Score in force, as homeroom and index. -/
def State.allParts (s : State) : List (Nat × Nat) :=
  (List.range 8).flatMap fun h => match s.score h with
    | some c => (List.range c.parts.length).map fun i => (h, i)
    | none => []

/-- T_level of a LEVEL code (R59). -/
def levelPeriod (pulse beats bars lvl : Nat) : Nat :=
  if lvl = 0 then pulse else if lvl = 1 then beats * pulse else bars * beats * pulse

/-- Every activation's Part, those of the replaced Scores too. -/
def State.allActs (s : State) : List (Nat × Nat) :=
  s.allParts ++ (List.range 8).flatMap fun h =>
    ((s.hr h).oldScores.zipIdx 1).flatMap fun e => (List.range e.1.parts.length).map fun i => (h, oldBase * e.2 + i)

/-- The period P of a Part (R59). -/
def State.period (s : State) (p : Part) : Nat := p.every * levelPeriod s.tPulse s.nBeat s.mBar p.level

/-- The relative deadline D; 0 means P (Table 2-7). -/
def State.relDeadline (s : State) (p : Part) : Nat := if p.deadline = 0 then s.period p else p.deadline

/-! ## Activations that stop -/

/-- Tiles that hold the activation of a Part now. -/
def State.tilesOf (s : State) (h i : Nat) : List Nat :=
  (List.range 32).filter fun t => (s.tile t).act = some (h, i) && !(s.tile t).ending

/-- An activation is to stop at its next stop point; one that is on no tile stops at once (R226). -/
def State.stopAct (s : State) (h i : Nat) : State :=
  if (s.tilesOf h i).isEmpty then s.setAct h i none else s.modAct h i fun a => { a with stopping := true }

def State.stopAllActs (s : State) (h : Nat) : State :=
  (s.allActs.filter fun e => e.1 = h).foldl (fun s e => s.stopAct e.1 e.2) s

/-! ## Cue counts -/

/-- The count a trigger reads: the homeroom's copy of a hardware-event Cue, or the Cue's count (R61, R148). -/
def State.cueCount (s : State) (h cue : Nat) : Nat :=
  if cue < 256 then (tabGet 0 s.cues.copies (256 * h + cue)).toNat else (tabGet 0 s.cues.counts cue).toNat

def State.setCueCount (s : State) (h cue n : Nat) : State :=
  if cue < 256 then { s with cues := { s.cues with copies := tabSet 0 s.cues.copies (256 * h + cue) (word n) } }
  else { s with cues := { s.cues with counts := tabSet 0 s.cues.counts cue (word n) } }

/-! ## DMA channels that are stopped -/

def State.ringSize (s : State) (p : PageRef) (off : Nat) : Nat := 2 ^ s.regF p off 27 24

/-- A descriptor ends: DMA_STATUS and HEAD (R185, Table 5-14). -/
def State.dmaEndRegs (s : State) (c status : Nat) : State :=
  match (s.chan c).job with
  | none => s
  | some j =>
    let s1 := s.setRegN (dmaP c) 0x050 (j.index * 0x10000 + status)
    let s2 := s1.setRegN (dmaP c) 0x048 ((j.index + 1) % s.ringSize (dmaP c) 0x040)
    s2.setChan c { s.chan c with job := none }

/-- STOP of a channel: the descriptor in progress ends STOPPED and the page goes to IDLE (Table 5-14). -/
def State.dmaStop (s : State) (c : Nat) : State :=
  if s.inState (dmaP c) [.running, .hold] then
    let s1 := ((s.dmaEndRegs c 1).toState (dmaP c) .idle).finishAll (dmaP c) 3 none
    s1.setChan c { s1.chan c with quiescing := false }
  else s

/-! ## Job queues of the DPP and the Codec (R262, R294) -/

def dppP : PageRef := ⟨.dpp, 0⟩
def codecP : PageRef := ⟨.codec, 0⟩
def kvP : PageRef := ⟨.kv, 0⟩

def State.qEn (s : State) (p : PageRef) (h : Nat) : Bool := bit (s.reg p (0x064 + 8 * h)) 31
def State.qCue (s : State) (p : PageRef) (h : Nat) : Nat := s.regF p (0x064 + 8 * h) 15 0
def State.qLog2 (s : State) (p : PageRef) (h : Nat) : Nat := s.regF p (0x060 + 8 * h) 27 24
def State.qOffset (s : State) (p : PageRef) (h : Nat) : Nat := 64 * s.regF p (0x060 + 8 * h) 23 0
def State.qHead (s : State) (p : PageRef) (h : Nat) : Nat := s.regF p (0x0A0 + 4 * h) 15 0

/-- Queues of a page whose EN was cleared. -/
def State.qKept (s : State) (p : PageRef) : List Nat := if p.ty = .dpp then s.dpp.kept else s.codec.kept

def State.setKept (s : State) (p : PageRef) (l : List Nat) : State :=
  if p.ty = .dpp then { s with dpp := { s.dpp with kept := l } } else { s with codec := { s.codec with kept := l } }

/-- The queue holds jobs: it is enabled, or its EN was cleared and its pending jobs are kept (R269, R299). -/
def State.qHolds (s : State) (p : PageRef) (h : Nat) : Bool := s.qEn p h || (s.qKept p).contains h

/-- Jobs submitted and not yet taken: the count of the queue's SUBMIT_CUE. -/
def State.qPending (s : State) (p : PageRef) (h : Nat) : Nat := if s.qHolds p h then s.cueCount h (s.qCue p h) else 0

/-- Pending jobs of a queue are discarded. -/
def State.qDrop (s : State) (p : PageRef) (h : Nat) : State := if s.qHolds p h then s.setCueCount h (s.qCue p h) 0 else s

/-- A queue's EN clears; its SUBMIT_CUE stays (log entry 156). -/
def State.qDisable (s : State) (p : PageRef) (h : Nat) : State :=
  (s.setReg p (0x064 + 8 * h) (setBit (s.reg p (0x064 + 8 * h)) 31 false)).setKept p (h :: (s.qKept p).filter (· ≠ h))

/-- The owner's shared-engine time in this Beat is used up (R65). -/
def State.shareSpent (s : State) (h : Nat) : Bool := decide (s.regF (hrP h) 0x044 6 0 * s.tBeat ≤ 64 * (s.hr h).engineUsed)

/-! ## Sequence records of the KV Pager (R302) -/

def State.kvClient (s : State) : Nat := s.regF kvP 0x040 2 0

/-- Requests of the KV ring that wait. -/
def State.kvPending (s : State) : Nat := if bit (s.reg kvP 0x060) 31 then s.cueCount s.kvClient (s.regF kvP 0x060 15 0) else 0

def State.seqOff (s : State) (q : Nat) : Nat := 64 * s.regF kvP 0x058 23 0 + 16 * q

def State.seqWord (s : State) (q i : Nat) : Word := wordAt (s.readGrant s.kvClient (s.seqOff q + 4 * i) 4) 0

def State.seqState (s : State) (q : Nat) : Nat := fld (s.seqWord q 0) 2 0

/-- A sequence's STATE is written raw; one that becomes LOST gives up its pages. -/
def State.haltSeq (s : State) (q : Nat) : State :=
  let put := fun (s : State) (w : Word) => s.putGrant s.kvClient (s.seqOff q) (leBytes 4 w.toNat)
  if s.seqState q = 2 then put s (setFld (s.seqWord q 0) 2 0 1)
  else if s.seqState q = 4 then
    let s1 := put s (setFld (setFld (s.seqWord q 0) 2 0 5) 31 16 0)
    { s1 with kv := { s1.kv with used := s1.kv.used.filter fun e => decide (e.2 ≠ q + 1) } }
  else s

/-- Every sequence's STATE is put right for a page that stops. -/
def State.haltSeqs (s : State) : State := (List.range 256).foldl (fun s q => s.haltSeq q) s

/-- The KV page stops: to IDLE, pending requests discarded, SWAPPING_OUT back to RESIDENT, SWAPPING_IN to LOST; the request in
progress is to end STOPPED (Table 9-16). -/
def State.kvHalt (s : State) : State :=
  if !s.inState kvP [.running, .hold] then s
  else
    let s1 := if bit (s.reg kvP 0x060) 31 then s.setCueCount s.kvClient (s.regF kvP 0x060 15 0) 0 else s
    let s2 := s1.haltSeqs
    (({ s2 with kv := { s2.kv with swap := none, quiescing := false, halted := s2.kv.req.isSome } }).toState kvP .idle).finishAll kvP 3 none

/-- Jobs of a homeroom that stops, faults or is released: those in progress are to end STOPPED, pending ones are discarded
(R268, R298, Table 9-16). -/
def State.dropJobs (s : State) (h : Nat) : State :=
  let s1 := (s.qDrop dppP h).qDrop codecP h
  let s2 := { s1 with dpp := { s1.dpp with job := s1.dpp.job.map fun (j : DppJob) => if j.hr = h then { j with stopped := true } else j } }
  let s3 := { s2 with codec := { s2.codec with jobs := s2.codec.jobs.map fun (j : CodecJob) => if j.hr = h then { j with stopped := true } else j } }
  if s3.kvClient = h then s3.kvHalt else s3

/-! ## Homeroom faults -/

/-- A homeroom that leaves RUNNING or HOLD otherwise than by QUIESCE: nothing holds releases back any more, an ADMIT is
abandoned. -/
def Hr.unheld (r : Hr) : Hr := { r with noRelease := false, holdDue := false, resumeAtBar := false, admitting := none }

/-- A homeroom of HR1–HR7 enters FAULT: its activations stop, its DMA channels stop, the Proctor is told (R126). -/
def State.homeroomFault (s : State) (h code detail : Nat) : State :=
  let p := hrP h
  if h = 0 || !s.inState p activeStates then s
  else
    let s1 := (((s.toState p .fault).finishAll p 3 none).syndrome p code detail).raise p 2
    let s2 := (s1.modHr h Hr.unheld).stopAllActs h
    let s3 := (List.range 8).foldl (fun s c => if (s.page (dmaP c)).owner = h then s.dmaStop c else s) s2
    (s3.dropJobs h).note 5 0 h 0xFFFF code

/-- The violation limit of R126 is judged after each violation. -/
def State.violationFault (s : State) (h : Nat) : State :=
  let lim := s.regF (hrP h) 0x09C 7 0
  if lim ≠ 0 ∧ lim ≤ (s.hr h).windowCount then s.homeroomFault h 0x41 0 else s

/-- A violation by a source, with its record, its count and its limit (R124, R126). -/
def State.violateBy (s : State) (h : Nat) (res kind cmd src : Nat) (where' detail : Nat) : State :=
  (s.violation h res kind cmd src where' detail).violationFault h

/-- A violation by a requester. -/
def State.violate (s : State) (h : Nat) (res kind cmd : Nat) (r : Requester) (where' detail : Nat) : State :=
  s.violateBy h res kind cmd (sourceCode r) where' detail

/-- A write in a homeroom's grant, with the limit of R126 judged where it violates. -/
def State.writeGrant (s : State) (h off : Nat) (bs : List Byte) (poisoned : Bool := false) : State :=
  let t := s.putGrant h off bs poisoned
  if (t.hr h).windowCount = (s.hr h).windowCount then t else t.violationFault h

def State.setSeqWord (s : State) (q i : Nat) (v : Word) : State := s.writeGrant s.kvClient (s.seqOff q + 4 * i) (leBytes 4 v.toNat)

def State.setSeqState (s : State) (q v : Nat) : State := s.setSeqWord q 0 (setFld (s.seqWord q 0) 2 0 v)

/-! ## Late outcomes (R71) -/

/-- Writes a late record into the ring and raises LATE_VEC. -/
def State.lateRecord (s : State) (h i outcome cause : Nat) : State :=
  match s.scoreOf h i, s.part? h i with
  | some c, some p =>
    let hdr := 64 * c.offset
    let written := leNat (s.readGrant h (hdr + 0x10) 4)
    let at' := 64 * c.lateRing + 16 * (written % 2 ^ c.lateLog2)
    let rec16 := leBytes 4 (i % oldBase + outcome * 0x10000 + cause * 0x100000) ++ leBytes 4 p.partId ++ leBytes 8 (now s)
    let s1 := ((s.meetGrant h (hdr + 0x10) 4).writeGrant h at' rec16).writeGrant h (hdr + 0x10) (leBytes 4 (written + 1))
    s1.sendMsix (8 * h + c.lateVec)
  | _, _ => s

/-- The note of a late event: homeroom and Part index, PART_ID (R71). -/
def State.lateNote (s : State) (h i : Nat) (p : Part) : State := s.noteData 16 0 i 0xFFFF (h * 0x10000 + i % oldBase) [p.partId]

/-- The late outcome of an activation (Table 2-10), with its record and its note. -/
def State.takeLate (s : State) (h i cause : Nat) : State :=
  match s.part? h i with
  | none => s
  | some p =>
    let s1 := s.lateRecord h i p.late cause
    let s2 := if p.safety || p.late = 2 || p.late = 3 then s1.lateNote h i p else s1
    match p.late with
    | 1 =>
      if cause = 3 then s2
      else match s2.part? h i with
        | some q => s2.setPart h i { q with skipNext := true, act := q.act.map fun a => { a with skipping := true } }
        | none => s2
    | 3 =>
      let s3 := s2.stopAct h i
      match s3.part? h i with
      | some q => s3.setPart h i { q with withdrawn := true }
      | none => s3
    | _ => s2.stopAct h i

/-! ## Releases (R60, R61) -/

/-- The group of a Part holds an Excused tile (R243). -/
def State.groupLost (s : State) (p : Part) : Bool := p.group.any fun t => s.isExcused t

/-- Releases of a homeroom take place: its page is RUNNING and nothing suspends them. -/
def State.releasing (s : State) (h : Nat) : Bool :=
  decide (s.pageState (hrP h) = .running) && !(s.hr h).noRelease && !s.tempo.quiet && !s.tempo.stopping

/-- A release of a Part with a given anchor for its deadline. Where the former activation is still on its tiles it goes on there to
its next stop point (R71, R226). A release that SKIP skips only consumes; an unfit Part takes
its late outcome with cause UNFIT (R69). -/
def State.releasePart (s : State) (h i anchor : Nat) : State :=
  match s.part? h i with
  | none => s
  | some p =>
    if !s.releasing h || p.withdrawn then s
    else
      let s0 := s.setPart h i { p with lastRelease := some (now s), idleSince := now s, held := false }
      if p.skipNext then s0.setPart h i { p with skipNext := false, lastRelease := some (now s), idleSince := now s, held := false }
      else if p.unfit || p.throttled || s.groupLost p || (decide (s.proc.react = 2) && decide (p.tiles ≠ 0)) then s0.takeLate h i 3
      else
        let n := (s.hr h).activations + 1
        let s1 := (s.tilesOf h i).foldl (fun s t => s.modTile t fun u => { u with ending := true }) s0
        (s1.modHr h fun r => { r with activations := n }).setAct h i
          (some { release := now s, deadline := anchor + s.relDeadline p, skipping := false, stopping := false, onTiles := false,
                  saved := none, ended := [], number := n, faultAt := none })

/-- Serves a trigger: a met trigger releases its Part, or is held until P/2 after the previous release; a count that still meets
the trigger after the release is held in turn (R61). -/
def State.tryTrigger (s : State) (h i : Nat) (fromHold : Bool) : State :=
  match s.part? h i with
  | none => s
  | some p =>
    if !p.trigEn || p.withdrawn || !s.releasing h || s.cueCount h p.trigCue < p.trigCount then s
    else
      let early := match p.lastRelease with
        | some t => decide (2 * now s < 2 * t + s.period p)
        | none => false
      if early then s.setPart h i { p with held := true }
      else
        let s1 := s.setCueCount h p.trigCue (s.cueCount h p.trigCue - p.trigCount)
        let anchor := if p.trigCue < 256 && !fromHold then (tabGet 0 s.cues.stamps p.trigCue).toNat else now s
        let s2 := s1.releasePart h i anchor
        match s2.part? h i with
        | some q => if p.trigCount ≤ s2.cueCount h p.trigCue ∧ 0 < s2.period q then s2.setPart h i { q with held := true } else s2
        | none => s2

/-- Serves every trigger of a homeroom on a Cue. -/
def State.tryTriggers (s : State) (h cue : Nat) : State :=
  (s.allParts.filter fun e => e.1 = h).foldl (fun s e => match s.part? e.1 e.2 with
    | some p => if p.trigEn && decide (p.trigCue = cue) then s.tryTrigger e.1 e.2 false else s
    | none => s) s

/-- Triggers that were met while nothing was released are served when releases resume; their releases were held back, so the
anchor is the release (R61, log entry 144). -/
def State.retryTriggers (s : State) : State :=
  s.allParts.foldl (fun s e => match s.part? e.1 e.2 with
    | some p => if p.trigEn && !p.held then s.tryTrigger e.1 e.2 true else s
    | none => s) s

/-- A tick of a level falls: every EVERY-th tick is an activation tick (R59, R60). -/
def State.tickLevel (s : State) (lvl : Nat) : State :=
  s.allParts.foldl (fun s e => match s.part? e.1 e.2 with
    | some p =>
      if p.level = lvl ∧ !p.trigEn then
        s.setPart e.1 e.2 { p with
          due := if p.phase = 0 then p.due ++ [now s + p.offset * s.tPulse] else p.due
          phase := (p.phase + 1) % p.every }
      else s
    | none => s) s

/-- Releases that are due take place, in order of homeroom and Part index. -/
def State.releaseDue (s : State) : State :=
  s.allParts.foldl (fun s e => match s.part? e.1 e.2 with
    | some p =>
      if p.due.any fun t => decide (t ≤ now s) then
        (s.setPart e.1 e.2 { p with due := p.due.filter fun t => decide (now s < t) }).releasePart e.1 e.2 (now s)
      else s
    | none => s) s

/-! ## Leaving a tile -/

/-- The activation leaves a tile. When it is on no tile any more it is over. -/
def State.vacateTile (s : State) (t : Nat) : State :=
  let u := s.tile t
  let s1 := s.setTile t { u with act := none, wait := .none, held := none, offered := none, leaving := false, progress := 0, ending := false }
  let busy := if u.act.isSome then now s - u.since else 0
  let s2 := (s1.setRegF (tileP t) 0x048 31 31 0).setReg64 (tileP t) 0x04C (s1.reg64 (tileP t) 0x04C + busy)
  match u.act with
  | some (h, i) => if !u.ending && (s2.tilesOf h i).isEmpty then s2.setAct h i none else s2
  | none => s2

/-- A TILE page that a QUIESCE or a STOP holds goes to HOLD (Table 6-9). -/
def State.holdTile (s : State) (t : Nat) : State :=
  if s.pageState (tileP t) = .running then (s.toState (tileP t) .hold).finishAll (tileP t) 2 none else s

/-- The Score in force of the homeroom a tile belongs to places it. -/
def State.tilePlaced (s : State) (t : Nat) : Bool := match s.score (s.tileHr t) with
  | some c => c.parts.any fun p => p.group.contains t
  | none => false

/-- A TILE page follows the groups of the Score in force and its owner's HOMEROOM page, once no activation is on the tile (Table
6-9). -/
def State.settleTile (s : State) (t : Nat) : State :=
  let p := hrP (s.tileHr t)
  if s.tilePlaced t && s.inState p activeStates && decide (s.pageState (tileP t) = .idle) && !(s.tile t).underBist then
    s.toState (tileP t) .running
  else if (!s.tilePlaced t || decide (s.pageState p = .idle)) && s.inState (tileP t) [.running, .hold] && (s.tile t).act.isNone then
    s.toState (tileP t) .idle
  else s

/-- The activation leaves a tile, and the TILE page takes the transition that waited for it. -/
def State.leaveTile (s : State) (t : Nat) : State :=
  let s1 := s.vacateTile t
  (if (s.tile t).leaving then s1.holdTile t else s1).settleTile t

/-- Removes a tile's waiters without a status (R226). -/
def State.dropWaiters (s : State) (t : Nat) : State :=
  { s with cues := { s.cues with waiters := s.cues.waiters.filter fun w => match w.who with
      | .tile u => decide (u.val ≠ t)
      | _ => true } }

/-! ## Part image faults -/

/-- A Part image fault of a tile (R235): the activation stops on it at once, the TILE page enters FAULT, the homeroom too. -/
def State.partFault (s : State) (t code : Nat) : State :=
  match (s.tile t).act with
  | none => s
  | some (h, i) =>
    let p := tileP t
    let s1 := if s.inState p [.running, .hold] then ((s.toState p .fault).raise p 3).finishAll p 3 none else s
    let s2 := (s1.syndrome p code (i % oldBase)).setRegN p 0x084 (code * 0x1000000 + (s.tile t).pc % 0x100000)
    let s3 := ((s2.dropWaiters t).modAct h i fun a => { a with stopping := true, faultAt := some (now s) }).leaveTile t
    s3.homeroomFault h 0x42 (i % oldBase)

end Sys2Proof.Machine
end

