-- ==== Sys2Proof/Machine/Choice.lean ====
section
/-!
DEFINITION. The choice of the Dynamics state (section 14.2), and how every command ends: with the state it made and a look at
what that means for Dynamics.
-/

namespace Sys2Proof.Machine

/-- Wake latency bound of a state, in µs (Table 14-1). -/
def wakeBound (st : Nat) : Nat := if st = 0 then 0 else if st = 1 then 2 else if st = 2 then 150 else if st = 3 then 2000 else 40000

/-- The deepest state whose wake latency bound a tolerance covers (R473). -/
def deepestFor (us : Nat) : Nat := if us < 2 then 0 else if us < 150 then 1 else if us < 2000 then 2 else if us < 40000 then 3 else 4

/-- A homeroom counts toward the choice (R470). -/
def State.counts (s : State) (h : Nat) : Bool := decide (h = 0) || s.inState (hrP h) activeStates

def State.tolerance (s : State) (h : Nat) : Nat := s.regF (hrP h) 0x04C 23 0

/-- The smallest counting tolerance and its homeroom. -/
def State.minTolerance (s : State) : Nat × Nat :=
  ((List.range 8).filter s.counts).foldl (fun m h => if s.tolerance h < m.1 then (s.tolerance h, h) else m) (s.tolerance 0, 0)

/-- The floors of Table 14-2 in force. -/
def State.floors (s : State) : Nat :=
  let b := fun (i : Nat) (x : Bool) => if x then 2 ^ i else 0
  b 0 ((List.range 8).any fun h => s.inState (hrP h) [.armed, .running] && (s.score h).isSome) +
  b 1 ((List.range 8).any fun c => decide (s.pageState (dmaP c) = .running) && decide (s.regN (dmaP c) 0x044 ≠ s.regN (dmaP c) 0x048)) +
  b 2 ((List.range 12).any fun n => s.inState ⟨.camera, n⟩ activeStates || decide (s.pageState ⟨.pfe, n⟩ = .running)) +
  b 3 (s.dpp.job.isSome || (List.range 8).any fun h => decide (0 < s.qPending dppP h)) +
  b 4 (!s.codec.jobs.isEmpty || (List.range 8).any fun h => decide (0 < s.qPending codecP h)) +
  b 5 (s.kv.req.isSome || decide (0 < s.kvPending)) +
  b 6 ((List.range 8).any s.seguePending) +
  b 7 ((List.range 16).any fun n => s.inState (loopP n) activeStates) +
  b 8 s.dyn.sectionFloor

/-- Deepest state a set of floors allows. -/
def floorBound (f : Nat) : Nat := if f % 128 ≠ 0 ∨ f.testBit 8 then 2 else if f.testBit 7 then 3 else 4

/-- The target state (R473). -/
def State.dynTarget (s : State) : Nat := min (deepestFor s.minTolerance.1) (floorBound s.floors)

/-- LIMITER of DYN_STATE: the lowest code of what bounds the target. -/
def State.limiter (s : State) : Nat :=
  let t := s.dynTarget
  let f := s.floors
  if t = 4 then 0
  else if deepestFor s.minTolerance.1 = t then 1
  else if t = 3 then 5
  else if f.testBit 0 then 2
  else if f &&& 0x7A ≠ 0 then 3
  else if f.testBit 2 then 4
  else 6

/-- DYN_STATE as it reads. -/
def State.dynStateWord (s : State) : Word :=
  let l := s.limiter
  word (s.dynState + 0x10 * s.dynTarget + 0x100 * l + (if l = 1 then 0x1000 * s.minTolerance.2 else 0) +
    (if s.dyn.dwellFrom.isSome then 0x8000 else 0))

/-- LOOP domains pinned (R472). -/
def State.loopPins (s : State) : Nat :=
  (List.range 2).foldl (fun n d => if (List.range 8).any fun k => s.inState (loopP (8 * d + k)) activeStates then n + 2 ^ d else n) 0

/-- What the Proctor and SAFE_IN show of themselves as wake sources. -/
def State.watched (s : State) : List Word :=
  [word (s.regF procP 0x040 3 0), s.reg procP 0x044, s.reg procP 0x048, s.reg safeioP 0x084]

/-- After a command: a floor, a tolerance, the Proctor or SAFE_IN may wake the device, and the dwell starts, goes on or ends
(R474, R476). Nothing but the Dynamics unit changes. -/
def State.settle (s : State) : State :=
  let d := s.dyn
  let st := s.dynState
  let t := s.dynTarget
  let f := s.floors
  let w := s.watched
  let newFloor := decide (f &&& (0x1FF ^^^ d.floors) ≠ 0)
  let src :=
    if d.wake.isSome then 0
    else if newFloor && (decide (floorBound f < st) || decide (3 ≤ st)) then 6
    else if t < st then 7
    else if st < 3 then 0
    else if w.take 3 ≠ d.seen.take 3 then 5
    else if w ≠ d.seen then 4
    else 0
  let wake := if src = 0 then d.wake else some (src, st, now s)
  let dwell := if wake.isSome ∨ t ≤ st then none
    else if t < d.target then some (now s)
    else some (d.dwellFrom.getD (now s))
  { s with dyn := { d with target := t, floors := f, seen := w, wake := wake, dwellFrom := dwell, due := d.due && dwell.isSome && decide (d.target ≤ t) } }

/-- A command's outcome is the next state. -/
def done (s : State) : Host.Outcome State Fault Refusal := .next s.settle

end Sys2Proof.Machine
end

