-- ==== Sys2Proof/Machine/Cues.lean ====
section
/-!
DEFINITION. The Cue unit (section 4.5) and the CUE page's effects (section 4.6).
-/

namespace Sys2Proof.Machine

/-! ## Configuration (Table 4-14) -/

/-- The configuration half-word of a Cue of blocks 1 to 255. -/
def State.cueCfg (s : State) (cue : Nat) : Nat :=
  let i := cue % 256
  s.regF (cueP (cue / 256)) (0x100 + 4 * (i / 2)) (16 * (i % 2) + 15) (16 * (i % 2))

def isBarrier (cfg : Nat) : Bool := decide (0x8000 ≤ cfg)
def cfgNotify (cfg : Nat) : Bool := cfg.testBit 14
def cfgArg (cfg : Nat) : Nat := cfg % 0x1000

/-- The homeroom listens to a hardware-event Cue (R148). -/
def State.listens (s : State) (h cue : Nat) : Bool := bit (s.reg (hrP h) (0x0E0 + 4 * (cue / 32))) (cue % 32)

/-- The Cue is one the homeroom may use for an operation (R149). Operations 2 WAIT, 4 TEST and 6 TAKE act on a
hardware-event Cue it listens to. -/
def State.mayCue (s : State) (h cue op : Nat) : Bool :=
  if cue < 256 then [2, 4, 6].contains op && s.listens h cue
  else decide ((s.page (cueP (cue / 256))).owner = h)

def State.cueFaulted (s : State) (cue : Nat) : Bool := decide (s.pageState (cueP (cue / 256)) = .fault)

/-! ## Waiters -/

/-- A waiter of a homeroom on a Cue: the copies of a hardware-event Cue have lists of their own (R148). -/
def onList (h cue : Nat) (w : Waiter) : Bool := decide (w.cue = cue) && (decide (256 ≤ cue) || decide (w.hr = h))

def State.cueList (s : State) (h cue : Nat) : List Waiter := s.cues.waiters.filter (onList h cue)

def State.poolUsed (s : State) (h : Nat) : Nat := (s.cues.waiters.filter fun w => decide (w.hr = h)).length

/-- A requester that goes on after WAITANY leaves its other lists. -/
def State.removeWaiter (s : State) (w : Waiter) : State :=
  { s with cues := { s.cues with waiters := s.cues.waiters.filter fun v => !(v.who == w.who) } }

def statusCode : WaitStatus → Nat
  | .ok => 0 | .timeout => 1 | .full => 2 | .denied => 3 | .cancelled => 4

/-- Sets a scalar register; s0 always reads 0. -/
def Tile.setS (u : Tile) (r : Nat) (v : Word) : Tile := if r = 0 then u else { u with sregs := tabSet 0 u.sregs r v, sPoison := tabSet false u.sPoison r false }

def Tile.getS (u : Tile) (r : Nat) : Word := if r = 0 then 0 else tabGet 0 u.sregs r

/-- The loop counters whose body ends just before instruction i, innermost first. -/
def Tile.loopsAt (u : Tile) (i : Nat) : List (Nat × LoopCtr) :=
  let l := u.loops.filter fun e => decide (e.2.past = i)
  (List.range 4).foldl (fun acc k => match l.find? fun e => decide (e.1 = k) with
    | some e => (acc.filter fun x => decide (e.2.first ≤ x.2.first)) ++ [e] ++ (acc.filter fun x => decide (x.2.first < e.2.first))
    | none => acc) []

def LoopCtr.zero : LoopCtr := ⟨0, 0, 0⟩

/-- The sequencer goes on to the next instruction; a hardware loop whose body ends here runs again while runs are left
(CT.LOOP). -/
def Tile.advance (u : Tile) : Tile :=
  let l := u.loopsAt (u.pc + 1)
  match l.find? fun e => decide (1 < e.2.left) with
  | some e =>
    let inner := l.takeWhile fun y => !(y.1 == e.1)
    let rest := u.loops.filter fun x => !inner.any fun y => y.1 == x.1
    let again : LoopCtr := { e.2 with left := e.2.left - 1 }
    { u with pc := e.2.first, loops := tabSet LoopCtr.zero rest e.1 again }
  | none => { u with pc := u.pc + 1, loops := u.loops.filter fun x => !decide (x.2.past = u.pc + 1) }

def State.nextInstr (s : State) (t : Nat) : State :=
  if (s.tile t).act.isSome then s.modTile t fun u => { u.advance with held := none, progress := 0 } else s

/-- What a tile does when its waiter ends (Table 7-8). -/
def State.tileWaitEnd (s : State) (t cue slot : Nat) (st : WaitStatus) : State :=
  match (s.tile t).wait with
  | .cue stBit sreg any =>
    let s0 := if st = .ok then s else s.setRegN (tileP t) 0x080 (statusCode st * 0x20000000 + cue)
    let goOn := fun (v : Nat) (s : State) =>
      (s.modTile t fun u => ({ u with wait := TileWait.none }).setS sreg (word v)).nextInstr t
    match st with
    | .ok =>
      if any then goOn slot s0
      else if stBit then goOn 0 s0
      else (s0.modTile t fun u => { u with wait := .none }).nextInstr t
    | .cancelled => s0.leaveTile t
    | .denied => s0.partFault t 0x65
    | _ => if stBit then (goOn (statusCode st) s0).raise (tileP t) 5 else s0.partFault t 0x65
  | _ => s

/-- A waiter ends with a status (R146). -/
def State.endWaiter (s : State) (w : Waiter) (st : WaitStatus) : State :=
  let s1 := s.removeWaiter w
  match w.who with
  | .tile t => s1.tileWaitEnd t.val w.cue w.slot st
  | r => { s1 with cues := { s1.cues with
      results := (r, w.cue, st) :: s1.cues.results.filter fun e => !(e.1 == r) } }

/-- Serves a COUNTER Cue's list strictly from the head; each served waiter consumes its n (R141). -/
def State.serve (s : State) (h cue : Nat) : Nat → State
  | 0 => s
  | k + 1 =>
    match s.cueList h cue with
    | [] => s
    | w :: _ =>
      if w.n ≤ s.cueCount h cue then
        ((s.setCueCount h cue (s.cueCount h cue - w.n)).endWaiter w .ok).serve h cue k
      else s

def State.serveAll (s : State) (h cue : Nat) : State := s.serve h cue s.cues.waiters.length

/-- Sets the notify bit of a Cue (R150). -/
def State.notify (s : State) (cue : Nat) : State :=
  let p := cueP (cue / 256)
  let i := cue % 256
  (s.setReg p (0x300 + 4 * (i / 32)) (s.reg p (0x300 + 4 * (i / 32)) ||| (1#32 <<< (i % 32)))).raise p 0

def State.cueEvent (s : State) (cue kind : Nat) : State :=
  s.setRegN (cueP (cue / 256)) 0x04C (kind * 0x10000 + cue % 256)

/-- A release of a barrier: the count becomes 0 and every waiter goes on (R140). -/
def State.barrierRelease (s : State) (cue : Nat) : State :=
  let ws := s.cueList 0 cue
  let s1 := ws.foldl (fun s w => s.endWaiter w .ok) (s.setCueCount 0 cue 0)
  if cfgNotify (s.cueCfg cue) then s1.notify cue else s1

/-- Arrivals at a BARRIER Cue. Arrivals beyond a release count toward the next (R140). -/
def State.arrive (s : State) (cue : Nat) (v : Nat) : State :=
  let parties := cfgArg (s.cueCfg cue)
  let c := s.cueCount 0 cue + v
  if parties = 0 then s.setCueCount 0 cue (min c 0xFFFFFFFF)
  else if parties ≤ c then (s.barrierRelease cue).setCueCount 0 cue (c % parties)
  else s.setCueCount 0 cue c

/-- The list is served and the notify bit and the triggers follow a change of a COUNTER Cue's count (R141, R150, R61). -/
def State.afterCount (s : State) (cue before : Nat) : State :=
  let h := (s.page (cueP (cue / 256))).owner
  let s1 := s.serveAll h cue
  let cfg := s.cueCfg cue
  let s2 := if cfgNotify cfg && decide (before < cfgArg cfg) && decide (cfgArg cfg ≤ s1.cueCount h cue) then s1.notify cue else s1
  (List.range 8).foldl (fun s h => s.tryTriggers h cue) s2

/-- SIGNAL v (Table 4-11) on a Cue of blocks 1 to 255. -/
def State.signalCue (s : State) (cue v : Nat) : State :=
  if v = 0 || s.cueFaulted cue then s
  else if isBarrier (s.cueCfg cue) then s.arrive cue v
  else
    let c := s.cueCount 0 cue
    let s1 := s.setCueCount 0 cue (min (c + v) 0xFFFFFFFF)
    let s2 := if c + v ≤ 0xFFFFFFFF then s1
      else ((s1.bumpF (cueP (cue / 256)) 0x048 15 0 1).cueEvent cue 2).raise (cueP (cue / 256)) 2
    s2.afterCount cue c

/-- SET v (Table 4-11). -/
def State.setCue (s : State) (cue v : Nat) : State :=
  if s.cueFaulted cue then s
  else if isBarrier (s.cueCfg cue) then
    (if cfgArg (s.cueCfg cue) ≤ v then s.barrierRelease cue else s.setCueCount 0 cue v)
  else (s.setCueCount 0 cue v).afterCount cue (s.cueCount 0 cue)

/-- A hardware event signals its Cue: 1 to every listening copy, with its stamp (R147, R148). -/
def State.hwSignal (s : State) (cue stamp : Nat) : State :=
  if s.cueFaulted cue then s else
  let s0 := { s with cues := { s.cues with stamps := tabSet 0 s.cues.stamps cue (BitVec.ofNat 64 stamp) } }
  (List.range 8).foldl (fun s h =>
    if s.listens h cue then
      let c := s.cueCount h cue
      let s1 := if c = 0xFFFFFFFF then s.raise (hrP h) 3 else s.setCueCount h cue (c + 1)
      (s1.serveAll h cue).tryTriggers h cue
    else s) s0

/-- The default timeout of a homeroom (R145). -/
def State.waitUs (s : State) (h timeout : Nat) : Nat := if timeout = 0 then s.regF (hrP h) 0x0CC 23 0 else timeout

/-- A waiter joins a list, or ends FULL at its homeroom's quota (R144). -/
def State.joinList (s : State) (r : Requester) (h cue n timeout slot : Nat) : State :=
  let w : Waiter := { cue := cue, hr := h, who := r, n := n, expiry := now s + 1000 * s.waitUs h timeout, slot := slot }
  if s.poolUsed h < s.regF (hrP h) 0x0C8 31 16 ∧ s.cues.waiters.length < 8192 then
    { s with cues := { s.cues with waiters := s.cues.waiters ++ [w] } }
  else s.endWaiter w .full

/-- A Cue operation the homeroom may not use: a violation of kind Cue (Table 4-2). -/
def State.cueViolation (s : State) (r : Requester) (h cue op : Nat) : State := s.violate h 4 3 0 r (op * 0x10000 + cue) 0

/-- WAIT n with a timeout (Table 4-11). -/
def State.opWait (s : State) (r : Requester) (h cue n timeout slot : Nat) : State :=
  let w : Waiter := { cue := cue, hr := h, who := r, n := n, expiry := 0, slot := slot }
  if !s.mayCue h cue 2 then (s.cueViolation r h cue 2).endWaiter w .denied
  else if s.cueFaulted cue then s.endWaiter w .denied
  else if decide (256 ≤ cue) && isBarrier (s.cueCfg cue) then s.joinList r h cue n timeout slot
  else if (s.cueList h cue).isEmpty && decide (n ≤ s.cueCount h cue) then
    (s.setCueCount h cue (s.cueCount h cue - n)).endWaiter w .ok
  else s.joinList r h cue n timeout slot

/-- A barred ARRIVE has no effect: a tile goes on (Table 4-2, Table 4-16). -/
def State.noArrive (s : State) (r : Requester) (w : Waiter) : State :=
  match r with
  | .tile _ => s.endWaiter w .ok
  | _ => s

/-- ARRIVE with a timeout: an arrival is counted even where the pool is full (R144). -/
def State.opArrive (s : State) (r : Requester) (h cue timeout : Nat) : State :=
  let w : Waiter := { cue := cue, hr := h, who := r, n := 0, expiry := 0, slot := 0 }
  if !s.mayCue h cue 3 then (s.cueViolation r h cue 3).noArrive r w
  else if s.cueFaulted cue then s.noArrive r w
  else if isBarrier (s.cueCfg cue) then
    (if cfgArg (s.cueCfg cue) ≤ s.cueCount 0 cue + 1 then (s.arrive cue 1).endWaiter w .ok
     else (s.arrive cue 1).joinList r h cue 0 timeout 0)
  else (s.signalCue cue 1).endWaiter w .ok

/-- SIGNAL 1 for a homeroom on a Cue; 0: none. -/
def State.signalFor (s : State) (h cue : Nat) : State :=
  if cue = 0 then s
  else if s.mayCue h cue 1 then s.signalCue cue 1
  else s.violateBy h 4 3 0 engineSrc (0x10000 + cue) 0

/-- SIGNAL by a requester. -/
def State.opSignal (s : State) (r : Requester) (h cue v : Nat) : State :=
  if s.mayCue h cue 1 then s.signalCue cue v else s.cueViolation r h cue 1

/-- SET by a requester. -/
def State.opSet (s : State) (r : Requester) (h cue v : Nat) : State :=
  if s.mayCue h cue 5 then s.setCue cue v else s.cueViolation r h cue 5

/-- TEST: the count, 0 where it is not permitted or the block is in FAULT. -/
def State.opTest (s : State) (r : Requester) (h cue : Nat) : Nat × State :=
  if !s.mayCue h cue 4 then (0, s.cueViolation r h cue 4)
  else if s.cueFaulted cue then (0, s)
  else (s.cueCount h cue, s)

/-- TAKE: the count, cleared, when the list is empty; 0 with no effect otherwise and in BARRIER mode. -/
def State.opTake (s : State) (r : Requester) (h cue : Nat) : Nat × State :=
  if !s.mayCue h cue 6 then (0, s.cueViolation r h cue 6)
  else if s.cueFaulted cue then (0, s)
  else if decide (256 ≤ cue) && isBarrier (s.cueCfg cue) then (0, s)
  else if (s.cueList h cue).isEmpty then (s.cueCount h cue, s.setCueCount h cue 0)
  else (0, s)

/-- Cancels the waiters a predicate picks (R146). -/
def State.cancelWaiters (s : State) (f : Waiter → Bool) : State :=
  (s.cues.waiters.filter f).foldl (fun s w => (s.cueEvent w.cue 3).endWaiter w .cancelled) s

/-! ## The commands -/

def withHr (r : Requester) (s : State) (write : Bool) (f : Nat → State) : State :=
  match s.requesterHr r with
  | some h => f h
  | none => s.unmappedBy r write

/-- CUE_SIGNAL (R139). -/
def execCueSignal (r : Requester) (cue : BitVec 16) (v : Word) (s : State) : Host.Outcome State Fault Refusal :=
  done (withHr r s true fun h => s.opSignal r h cue.toNat v.toNat)

/-- CUE_WAIT (R139). -/
def execCueWait (r : Requester) (cue n : BitVec 16) (timeout : BitVec 24) (s : State) : Host.Outcome State Fault Refusal :=
  done (withHr r s true fun h => s.opWait r h cue.toNat n.toNat timeout.toNat 0)

/-- CUE_ARRIVE (R139). -/
def execCueArrive (r : Requester) (cue : BitVec 16) (timeout : BitVec 24) (s : State) : Host.Outcome State Fault Refusal :=
  done (withHr r s true fun h => s.opArrive r h cue.toNat timeout.toNat)

/-- CUE_TEST (R139): the count goes to the requester. -/
def execCueTest (r : Requester) (cue : BitVec 16) (s : State) : Host.Outcome State Fault Refusal :=
  done (withHr r s false fun h => let x := s.opTest r h cue.toNat; x.2.answerWord (word x.1))

/-- CUE_SET (R139). -/
def execCueSet (r : Requester) (cue : BitVec 16) (v : Word) (s : State) : Host.Outcome State Fault Refusal :=
  done (withHr r s true fun h => s.opSet r h cue.toNat v.toNat)

/-- CUE_TAKE (R139): the count goes to the requester. -/
def execCueTake (r : Requester) (cue : BitVec 16) (s : State) : Host.Outcome State Fault Refusal :=
  done (withHr r s false fun h => let x := s.opTake r h cue.toNat; x.2.answerWord (word x.1))

/-- WAITER_TIMEOUT (R145): entry i of the pool has passed its timeout. It is removed with status TIMEOUT, the count unchanged,
and the list is served again. Where no such waiter stands, nothing happens. -/
def execWaiterTimeout (i : Nat) (s : State) : Host.Outcome State Fault Refusal :=
  match s.cues.waiters[i]? with
  | none => done s
  | some w =>
    let s0 := advanceTo w.expiry s
    let s1 := s0.raise (hrP w.hr) 4
    let s2 := ((s1.bumpF (cueP (w.cue / 256)) 0x048 31 16 1).cueEvent w.cue 1).raise (cueP (w.cue / 256)) 1
    let s3 := s2.endWaiter w .timeout
    if decide (256 ≤ w.cue) && isBarrier (s.cueCfg w.cue) then done s3
    else done (s3.serveAll w.hr w.cue)

/-- A configuration half-word with ARG in range and its reserved bits 0 (Table 4-14). -/
def cfgOk (c : Nat) : Bool :=
  decide ((c / 0x1000) % 4 = 0) &&
  (if isBarrier c then decide (2 ≤ cfgArg c)
   else if cfgNotify c then decide (1 ≤ cfgArg c)
   else decide (cfgArg c = 0))

end Sys2Proof.Machine
end

