-- ==== Sys2Proof/Machine/Banks.lean ====
section
/-!
DEFINITION. Weight banks (section 9.1): build bits, the bank record, switches at a Bar boundary, abandoned SEGUEs and lost
copies. The page's commands are in Machine/Weights.lean.
-/

namespace Sys2Proof.Machine

def State.bank (s : State) (k : Nat) : Bank := tabGet Bank.atReset s.banks k
def State.setBank (s : State) (k : Nat) (b : Bank) : State := { s with banks := tabSet Bank.atReset s.banks k b }

/-- Every build bit becomes 0 and the epoch advances (R272). -/
def State.clearBuild (s : State) (k : Nat) : State :=
  (s.setBank k { bits := [], epoch := (s.bank k).epoch + 1 }).setRegN (weightP k) 0x070 0

/-- A block's build bit, with COUNT and BUILD_DONE (R272). -/
def State.setBuild (s : State) (k b : Nat) (v : Bool) : State :=
  let bits := tabSet false (s.bank k).bits b v
  let s1 := (s.setBank k { s.bank k with bits := bits }).setRegN (weightP k) 0x070 bits.length
  if v && decide ((s.bank k).bits.length < bits.length) && decide (bits.length = s.regF (weightP k) 0x050 14 0) then s1.raise (weightP k) 2 else s1

/-- Writes the bank record (Table 9-1, R276) as one 64-byte write. -/
def State.writeRecord (s : State) (k : Nat) (valid : Bool) : State :=
  let p := weightP k
  let st := s.reg p 0x06C
  let base := s.weightBase k (bit st 30)
  let w0 := (if valid then 1 else 0) + (if bit st 30 then 2 else 0) + fld st 15 0 * 0x10000
  s.writeGrant (s.page p).owner (64 * s.regF p 0x054 23 0)
    (leBytes 4 w0 ++ leBytes 8 base ++ leBytes 4 (s.regF p 0x050 14 0) ++ leBytes 48 0)

/-- A pending SEGUE is abandoned (R275): REFUSED_STATE with a syndrome, SEGUE_ABANDONED. -/
def State.abandonSegue (s : State) (k : Nat) (syn : Option (Nat × Nat)) : State :=
  let p := weightP k
  if !s.seguePending k then s
  else ((s.setReg p 0x06C (setBit (s.reg p 0x06C) 29 false)).finishPending p 3 syn).raise p 1

/-- The TEMPO page leaves RUNNING and HOLD. -/
def State.abandonAll (s : State) : State := (List.range 8).foldl (fun s k => s.abandonSegue k (some (4, 0))) s

/-- The page leaves ARMED, RUNNING or HOLD for IDLE or FAULT: a pending SEGUE is abandoned, the record becomes invalid
(Table 9-4). -/
def State.bankEnd (s : State) (k : Nat) (st : PageState) : State :=
  let p := weightP k
  let s1 := s.abandonSegue k none
  let s2 := (s1.setReg p 0x06C (setBit (s1.reg p 0x06C) 31 false)).writeRecord k false
  s2.toState p st

/-- A unit bit lies under a range of SRAM. -/
def unitUnder (g : Grade) (bits : List Nat) (a n : Nat) : Bool :=
  (List.range (n / 4096)).any fun i => match memUnit g (a + 4096 * i) with
    | some b => bits.contains b
    | none => false

/-- COPY_LOST: a granule of either copy lies in a unit that became Excused (Table 9-3, Table 9-4). -/
def State.loseCopies (s : State) (bits : List Nat) : State :=
  (List.range 8).foldl (fun s k =>
    let p := weightP k
    if s.inState p activeStates && [false, true].any (fun b => unitUnder s.chip.grade bits (s.weightBase k b) (s.weightBytes k)) then
      ((s.bankEnd k .fault).syndrome p 5 0).raise p 3
    else s) s

/-- A Part a bank's reader register names has an activation in progress (R274). -/
def State.readerBusy (s : State) (k : Nat) : Bool :=
  let p := weightP k
  (List.range 4).any fun i =>
    let w := s.reg p (0x058 + 4 * i)
    bit w 31 && ((s.part? (s.page p).owner (fld w 9 0)).bind (·.act)).isSome

/-- A switch (R274). -/
def State.switchBank (s : State) (k : Nat) : State :=
  let p := weightP k
  let st := s.reg p 0x06C
  let b := s.inactiveB k
  let gen := (fld st 15 0 + 1) % 0x10000
  let s1 := s.setRegN p 0x06C (0x80000000 + (if b then 0x40000000 else 0) + gen)
  let s2 := if s1.pageState p = .armed then s1.toState p .running else s1
  let s3 := ((s2.setReg64 p 0x078 (now s)).writeRecord k true).clearBuild k
  (s3.finishPending p 2 none).raise p 0

/-- Pending switches at a Bar boundary, bank by bank (R274, R275). The numbers of the banks that switched. -/
def State.segueBoundary (s : State) : List Nat × State :=
  (List.range 8).foldl (fun x k =>
    let s := x.2
    let p := weightP k
    if !s.seguePending k then x
    else if s.inState p [.armed, .running] && !s.readerBusy k then (x.1 ++ [k], s.switchBank k)
    else
      let n := s.regF p 0x074 7 0 + 1
      let s1 := s.setRegN p 0x074 n
      (x.1, if s.regF p 0x068 7 0 ≤ n then s1.abandonSegue k (some (3, 0)) else s1)) ([], s)

end Sys2Proof.Machine
end

