-- ==== Sys2Proof/Machine/Service.lean ====
section
/-!
DEFINITION. The Proctor's log and the service level (section 1.4).
-/

namespace Sys2Proof.Machine

/-! ## Synchronisation state (R49, R50) -/

def ethP (m : Nat) : PageRef := ⟨.eth, m⟩

def State.gptpRole (s : State) (m : Nat) : Nat := s.regF (ethP m) 0x040 5 4

/-- The port TEMPO_SYNC names is one that operates as SLAVE. -/
def State.syncPortOk (s : State) : Bool :=
  let m := s.regF tempoP 0x080 11 8
  decide (m < 2 * s.chip.grade.ioDies) && decide (s.pageState (ethP m) = .running) && decide (s.gptpRole m = 1)

/-- Sets TEMPO_SYNC.STATE over the servo's own path; a change raises SYNC_CHANGE (R49, R50). -/
def State.setSync (s : State) (v : Nat) : State :=
  if s.regF tempoP 0x080 1 0 = v then s else (s.setRegF tempoP 0x080 1 0 v).raise tempoP 2

/-- FREE while TEMPO_SYNC.PORT names no operating port (Table 2-2). -/
def State.syncCheck (s : State) : State :=
  if s.syncPortOk then s else ({ s with tempo := { s.tempo with syncGood := 0 } }).setSync 0

/-! ## The Proctor's log (Table 12-17) -/

/-- Writes a log record of something that happened at a Metronome value. -/
def State.logAt (s : State) (t cls src unit verdict w1 : Nat) : State :=
  let n := s.lvl.logged
  let base := 0x400 + 16 * (n % 64)
  let s1 := (s.setRegN procP base (cls + src * 0x100 + (unit % 256) * 0x10000 + verdict * 0x1000000)).setRegN procP (base + 4) w1
  let s2 := s1.setReg64 procP (base + 8) t
  let s3 := s2.setRegN procP 0x0A4 (min (n - 63) 0xFFFF * 0x10000 + (n + 1) % 64)
  ({ s3 with lvl := { s3.lvl with logged := n + 1 } }).raise procP 3

/-- Writes a log record of what happens now. -/
def State.log (s : State) (cls src unit verdict w1 : Nat) : State := s.logAt (now s) cls src unit verdict w1

/-! ## Service level (R32, R35) -/

def State.level (s : State) : Nat := s.regF procP 0x040 3 0

/-- A protective sensor is healthy: a pair of ROLE PROTECTIVE in RUN or DEMAND (R34, R409). -/
def State.sensorOk (s : State) : Bool :=
  (List.range 8).any fun k =>
    decide (s.regF safeioP (0x040 + 4 * k) 5 4 = 1) && decide (s.regF safeioP 0x084 (2 * k + 1) (2 * k) ≤ 1)

/-- The LIMP axis mask of the Rubric in force (R33); none in force names no axis (DESIGN CHOICE, log entry 128). -/
def State.limpMask (s : State) : Nat :=
  match s.proc.rubric with
  | some img => imgF img 0x044 15 0
  | none => 0

/-- An axis is faulty: one of its pages is in FAULT or was locked (R35; DEDUCED, log entry 128). -/
def State.axisFaulty (s : State) (a : Nat) : Bool :=
  [loopP a, pstageP a, angleP a].any fun p => s.inState p [.fault, .locked]

def State.axisHealthy (s : State) (a : Nat) : Bool := !s.isExcused (96 + a) && !s.axisFaulty a

/-- The LIMP set of Table 1-6. -/
def State.limpSet (s : State) : Bool :=
  (List.range 4).any (fun c => !s.isExcused (40 + c)) && !s.isExcused 32 && !s.isExcused 80 &&
  ((List.range 16).all fun a => !s.limpMask.testBit a || s.axisHealthy a) && s.sensorOk

def State.fullSection (s : State) : Bool :=
  (List.range 4).any fun q => (List.range 8).all fun k => !s.isExcused (8 * q + k)

/-- The level the healthy set allows. -/
def State.healthLevel (s : State) : Nat :=
  if s.regF procP 0x040 10 8 ≠ 1 then 0
  else if !s.tempo.oscOk then 1
  else min s.lvl.cap (if s.excused = 0 && (List.range s.chip.grade.axes).all s.axisHealthy then 4 else if s.limpSet && s.fullSection then 3 else if s.limpSet then 2 else 1)

/-- The Loop Engine of an axis is about to be lost: R37 asks whether the axis was moving. -/
def State.loopLost (s : State) (n : Nat) : State :=
  if s.torque n then { s with lvl := { s.lvl with sick := true } } else s

/-- Pages the Proctor locks at SAFE-STOP or none (R94); those of a moving axis once it has lost torque. -/
def State.lockAxes (s : State) (always : Bool) : State :=
  (List.range s.chip.grade.axes).foldl (fun s n =>
    if s.torque n && !always then s
    else [loopP n, pstageP n, angleP n].foldl (fun s p =>
      if s.inState p [.off, .excused, .locked] then s else s.losePage p .locked) s) s

/-- The Proctor sets a level (R35 to R37): while the device runs it never rises. -/
def State.dropLevel (s : State) (n : Nat) : State :=
  if n < s.level then
    let s1 := ((s.setRegF procP 0x040 3 0 n).raise procP 1).log 0x83 0 n 0 n
    let s2 := { s1 with lvl := { s1.lvl with dropDue := true, lockDue := s1.lvl.lockDue || decide (n ≤ 1) } }
    let s3 := s2.hwSignal 5 (now s)
    if n ≤ 1 then s3.lockAxes (decide (n = 0)) else s3
  else s

def State.evalLevel (s : State) : State := s.dropLevel s.healthLevel

/-- A fault of a safety channel lowers the level to SAFE-STOP for good (R404, R426). -/
def State.capLevel (s : State) : State := ({ s with lvl := { s.lvl with cap := 1 } }).evalLevel

end Sys2Proof.Machine
end

