-- ==== Sys2Proof/Machine/Ports.lean ====
section
/-!
DEFINITION. Power Stage Ports (section 11.1): the carrier, the switches that are on, leg faults, SENSE and LINK faults. The
page's commands are in Machine/PowerStage.lean.
-/

namespace Sys2Proof.Machine

def adcP (d : Nat) : PageRef := ⟨.adc, d⟩

def State.port (s : State) (n : Nat) : Port := tabGet Port.atReset s.ports n
def State.setPort (s : State) (n : Nat) (x : Port) : State := { s with ports := tabSet Port.atReset s.ports n x }
def State.modPort (s : State) (n : Nat) (f : Port → Port) : State := s.setPort n (f (s.port n))

def State.axis (s : State) (n : Nat) : LoopAxis := tabGet LoopAxis.atReset s.loops n
def State.setAxis (s : State) (n : Nat) (x : LoopAxis) : State := { s with loops := tabSet LoopAxis.atReset s.loops n x }
def State.modAxis (s : State) (n : Nat) (f : LoopAxis → LoopAxis) : State := s.setAxis n (f (s.axis n))

/-- Injection ends (R345). -/
def State.injCut (s : State) (n : Nat) : State := s.setAxis n (s.axis n).injCut

/-- A Loop Engine register as last written: a write that waits for the next Pulse boundary counts (R324). -/
def State.loopWritten (s : State) (n off : Nat) : Option Word := ((s.axis n).staged.find? fun e => decide (e.1 = off)).map (·.2)

/-- The Loop Engine of an axis computes, so that gain writes wait for a Pulse boundary (R324). -/
def State.gainsWait (s : State) (n : Nat) : Bool := s.inState (loopP n) activeStates && s.ticking

def State.stageGain (s : State) (n off : Nat) (v : Word) : State :=
  s.modAxis n fun a => { a with staged := a.staged.filter (fun e => decide (e.1 ≠ off)) ++ [(off, v)] }

/-- A direct write takes the place of one that still waits (R324). -/
def State.dropGain (s : State) (n off : Nat) : State :=
  s.modAxis n fun a => { a with staged := a.staged.filter fun e => decide (e.1 ≠ off) }

def State.calib (s : State) (d : Nat) : Option Calib := tabGet none s.calibs d
def State.setCalib (s : State) (d : Nat) (c : Option Calib) : State := { s with calibs := tabSet none s.calibs d c }

/-! ## Carrier (R354, R355) -/

/-- T_pwm in ns. -/
def State.tPwm (s : State) (n : Nat) : Nat := s.tPulse / 2 ^ s.regF (pstageP n) 0x040 1 0

/-- Time since the last valley at a Metronome value. -/
def State.carrierAt (s : State) (n t : Nat) : Nat :=
  if s.tPwm n = 0 then 0 else (((t : Int) + 1000 - s.epoch) % (s.tPwm n : Int)).toNat

/-- CMP of a duty. -/
def State.cmpOf (s : State) (n duty : Nat) : Nat := (duty * (s.tPwm n / 4) + 32768) / 65536

/-- Duty in force of leg x. -/
def State.dutyOf (s : State) (n leg : Nat) : Nat :=
  if leg = 0 then s.regF (pstageP n) 0x080 15 0 else if leg = 1 then s.regF (pstageP n) 0x080 31 16 else s.regF (pstageP n) 0x084 15 0

/-- Length of a switch's command in one PWM period. -/
def State.command (s : State) (n sw : Nat) : Nat :=
  let c := 4 * s.cmpOf n (s.dutyOf n (sw / 2))
  if sw % 2 = 0 then c else s.tPwm n - c

/-- Length of a switch's on-interval in one PWM period, dead time taken off; 0 where it is dropped or absent. -/
def State.onLength (s : State) (n sw : Nat) : Nat :=
  let len := s.command n sw - s.regF (pstageP n) 0x044 12 0
  if len < s.regF (pstageP n) 0x048 12 0 then 0 else len

/-- A commanded pulse that is not made: after dead time it would be shorter than the minimum pulse (R355). -/
def State.droppedPulse (s : State) (n sw : Nat) : Bool :=
  decide (0 < s.command n sw) &&
  decide ((s.command n sw : Int) - s.regF (pstageP n) 0x044 12 0 < max 1 (s.regF (pstageP n) 0x048 12 0))

/-- How long the carrier has had a switch on at a Metronome value; none: it is off. -/
def State.carrierOn (s : State) (n sw t : Nat) : Option Nat :=
  if s.regF (pstageP n) 0x088 2 0 ≠ 1 ∨ s.tPwm n = 0 then none
  else
    let per := s.tPwm n
    let c := 4 * s.cmpOf n (s.dutyOf n (sw / 2))
    let dead := s.regF (pstageP n) 0x044 12 0
    let rise := if sw % 2 = 0 then per / 2 + per - c / 2 else per / 2 + c / 2
    let x := (s.carrierAt n t + 2 * per - rise % per) % per
    if dead ≤ x ∧ x ≤ dead + s.onLength n sw ∧ 0 < s.onLength n sw then some (x - dead) else none

/-- How long a switch has been on at a Metronome value; none: it is off (R355, R363, R365, Table 11-3). In ASC a low-side switch that
the fault window held on stays on, and another is on after dead time. -/
def State.onSince (s : State) (n sw t : Nat) : Option Nat :=
  let p := pstageP n
  let x := s.port n
  match s.pageState p with
  | .running => s.carrierOn n sw t
  | .fault =>
    match x.window, x.ascSince with
    | some t0, _ => if x.held.contains sw then some ((s.carrierOn n sw t0).getD 0 + (t - t0)) else none
    | none, some t1 =>
      if s.regF p 0x088 2 0 ≠ 3 ∨ sw % 2 = 0 ∨ bit (s.reg p 0x09C) sw then none
      else if x.held.contains sw then some (t - t1 + 1000)
      else if t1 + s.regF p 0x044 12 0 ≤ t then some (t - t1 - s.regF p 0x044 12 0)
      else none
    | none, none => none
  | _ => none

def State.switchOn (s : State) (n sw t : Nat) : Bool := (s.onSince n sw t).isSome

/-- The soft turn-off of a switch at a Metronome value: 2^16 parts of the high level that its linear ramp has left (R358). -/
def State.rampLeft (s : State) (n sw t : Nat) : Option Nat :=
  match (s.port n).soft with
  | some (k, t0, ns) => if k = sw ∧ t0 ≤ t ∧ t < t0 + ns then some (65536 * (t0 + ns - t) / ns) else none
  | none => none

/-- A PWM output at a Metronome value, in 2^16 parts of its high level (R355, R358). -/
def State.pwmOut (s : State) (n sw t : Nat) : Nat :=
  match s.rampLeft n sw t with
  | some v => v
  | none => if s.switchOn n sw t then 65536 else 0

/-- Where a logic-input gate driver, which sees high down to half the level, takes a switch to be on: a soft turn-off is then a
hard one, at most PSTAGE_SOFT_NS / 2 late (R358). -/
def State.driverOn (s : State) (n sw t : Nat) : Bool := decide (32768 ≤ s.pwmOut n sw t)

/-! ## Faults (R363 to R367) -/

/-- The event a power-stage fault sends: kind, switch, TWO_LEG and reaction, with the Metronome value of detection (R367). -/
def State.portNote (s : State) (n : Nat) : State :=
  let f := s.reg (pstageP n) 0x08C
  s.noteAt (s.reg64 (pstageP n) 0x090) 12 0 n (2 ^ n) (fld f 31 28 + fld f 27 24 * 0x10 + fld f 16 16 * 0x100 + s.regF (pstageP n) 0x088 2 0 * 0x1000)

/-- The page enters FAULT with the first fault's record. -/
def State.portFault (s : State) (n kind sw t syn : Nat) (inBlank : Bool) (bits : Nat) : State :=
  let p := pstageP n
  let f := kind * 0x10000000 + sw * 0x1000000 + (if inBlank then 0x20000 else 0) + bits
  let s1 := (((s.setRegN p 0x08C f).setReg64 p 0x090 t).setRegN p 0x098 0xFFFF).bumpF p 0x0A0 31 16 1
  ((s1.toState p .fault).finishAll p 3 none |>.syndrome p syn (if syn = 2 then bits else 0)).raise p 0

/-- ALL_OFF: every switch off. -/
def State.allOff (s : State) (n : Nat) : State :=
  (s.setRegF (pstageP n) 0x088 2 0 2).modPort n fun x => { x with window := none, held := [], ascSince := none, pending := none, soft := none }

/-- A detected raw fault of a switch (kind 2) or trip of a comparator (kind 1), as a leg fault (R363, R364). -/
def State.legFault (s : State) (n kind leg sw t : Nat) : State :=
  let p := pstageP n
  let x := s.port n
  let bits := if kind = 1 then 2 ^ (8 + leg) else 2 ^ sw
  if s.inState p [.armed, .running] then
    let on := (List.range 6).filter fun k => s.switchOn n k t
    let affected := if kind = 2 then sw else (([2 * leg, 2 * leg + 1].find? on.contains).getD 0xF)
    let inBlank := match (if affected < 6 then s.onSince n affected t else none) with
      | some d => decide (d < s.regF p 0x04C 12 0)
      | none => false
    (s.portFault n kind affected t (if kind = 1 then 2 else 3) inBlank bits).setPort n
      { x with window := some t, leg := leg, held := on.filter (fun k => decide (k / 2 ≠ leg)), pending := none
               soft := if kind = 1 ∧ bit (s.reg p 0x040) 5 ∧ affected < 6 then some (affected, t, s.regF p 0x054 10 0) else none }
      |>.evalLevel
  else if s.pageState p ≠ .fault then s
  else
    let s1 := s.setReg p 0x08C (s.reg p 0x08C ||| word bits)
    match x.window with
    | some t0 =>
      if t0 + 1000 < t then s1
      else if leg ≠ x.leg then
        ((((s1.setReg p 0x08C (setBit (s1.reg p 0x08C) 16 true)).setRegN p 0x098 (t - t0)).allOff n).syndrome p 4 0).raise p 1 |>.portNote n
      else if t = t0 ∧ kind = 2 ∧ sw % 2 = 1 then s1.setRegF p 0x08C 27 24 sw
      else s1
    | none =>
      if s1.regF p 0x088 2 0 = 3 ∧ (kind = 1 ∨ sw % 2 = 1) then s1.allOff n else s1

/-- A SENSE (kind 3) or LINK (kind 4) fault: ALL_OFF at once, FAULT (R366). -/
def State.offFault (s : State) (n kind t : Nat) : State :=
  let p := pstageP n
  if s.inState p [.armed, .running] then (((s.portFault n kind 0xF t (kind + 2) false 0).allOff n).portNote n).evalLevel
  else s

/-- A link loss puts the port into ALL_OFF in whatever state its page is and holds it there until reset (R22; log entry 129). -/
def State.linkFault (s : State) (n t : Nat) : State :=
  let s1 := if s.inState (pstageP n) [.armed, .running] then s.offFault n 4 t else s.allOff n
  s1.modPort n fun x => { x with link := true }

/-- A SENSE fault of an axis, with its ADC_CHECK bit (R360). -/
def State.senseFault (s : State) (n t : Nat) : State :=
  if s.inState (pstageP n) [.armed, .running] then
    (s.offFault n 3 t).setReg (adcP (n / 8)) 0x2AC (setBit (s.reg (adcP (n / 8)) 0x2AC) (8 + n % 8) true)
  else s

/-- An ADC page that becomes Excused (R373). -/
def State.loseAdc (s : State) (bits : List Nat) : State :=
  (List.range 16).foldl (fun s n => if bits.contains (144 + n / 8) then s.senseFault n (now s) else s) s

end Sys2Proof.Machine
end

