-- ==== Sys2Proof/Machine/Level.lean ====
section
/-!
DEFINITION. The Excused map, its notes and the Roll Book (section 3.6).
-/

namespace Sys2Proof.Machine

/-! ## Unit bits (Table 3-9) -/

/-- EXCUSE_BIT of a page; none: 0xFFF. -/
def excuseBit (p : PageRef) : Option Nat :=
  match p.ty with
  | .tile => some p.inst
  | .loop | .pstage | .angle => some (96 + p.inst)
  | .camera | .pfe => some (112 + p.inst)
  | .dpp => some 124 | .codec => some 125 | .kv => some 126 | .compositor => some 127
  | .jsl => some (128 + p.inst) | .eth => some (136 + p.inst) | .can => some (140 + p.inst)
  | .adc => some (144 + p.inst) | .pcie => some (146 + p.inst)
  | _ => none

/-- Unit bits of an I/O die (Table 1-1). -/
def dieUnits (d : Nat) : List Nat :=
  [80 + d] ++ (List.range 8).map (fun k => 96 + 8 * d + k) ++ (List.range 6).map (fun k => 112 + 6 * d + k) ++
  (if d = 0 then [127] else []) ++ (List.range 4).map (fun k => 128 + 4 * d + k) ++ [136 + 2 * d, 137 + 2 * d] ++
  [140 + 2 * d, 141 + 2 * d] ++ [144 + d, 146 + d]

/-- The units a grade contains, as bits (Table 3-8 PRESENT). -/
def presentBits (g : Grade) : List Nat :=
  List.range 44 ++ (List.range (8 * g.stacks)).map (48 + ·) ++ (List.range g.ioDies).flatMap dieUnits ++ [124, 125, 126]

def bitsOf (l : List Nat) : BitVec 256 := l.foldl (fun m b => m ||| (1#256 <<< b)) 0

/-- The die a page's unit lies on, as an index of the die descriptors (R113, Table 1-1). -/
def pageDie (g : Grade) (p : PageRef) : Nat :=
  let io := fun d => 1 + g.stacks + d
  match p.ty with
  | .locker => 1 + p.inst
  | .loop | .pstage | .angle => io (p.inst / 8)
  | .camera | .pfe => io (p.inst / 6)
  | .jsl => io (p.inst / 4)
  | .eth | .can => io (p.inst / 2)
  | .adc | .pcie => io p.inst
  | .compositor => io 0
  | _ => 0

/-! ## The host link (R494, R497) -/

/-- Reads of host memory that are outstanding end as completion timeouts. -/
def State.dropHostReads (s : State) : State :=
  (List.range 8).foldl (fun s c => match (s.chan c).job with
    | some j =>
      if j.srcHost then
        let left := (List.range j.rows).filter fun r => !j.hostRows.any fun e => decide (e.1 = r)
        (s.setChan c { s.chan c with job := some { j with hostRows := j.hostRows ++ left.map fun r => (r, none) } }).bumpF
          (pcieP 0) 0x058 15 0 left.length
      else s
    | none => s) s

/-- SPEED and WIDTH of the lane groups: that of die 1 belongs to a ×8 link. -/
def State.showLink (s : State) (speed width : Nat) : State :=
  let s1 := (s.setRegF (pcieP 0) 0x040 9 0 (width * 16 + speed)).raise (pcieP 0) 0
  if s.chip.grade.ioDies = 2 then s1.setRegF (pcieP 1) 0x040 9 0 (if width = 8 then width * 16 + speed else 0) else s1

/-- The link goes down: only the endpoint is reset (R497). -/
def State.linkDown (s : State) : State :=
  let s1 := { s with msix := { s.msix with linkUp := false, enabled := false, funcMask := false, masked := BitVec.allOnes 64,
                                            pasidEn := false, bars := [] } }
  (((s1.setRegF (pcieP 0) 0x040 17 16 0).showLink 0 0).bumpF (pcieP 0) 0x054 15 0 1).dropHostReads

/-- The lane group of I/O die 1 is lost: the link goes on at ×4 (R494). -/
def State.degradeLink (s : State) : State :=
  if s.chip.grade.ioDies ≠ 2 ∨ bit (s.reg (pcieP 0) 0x040) 13 then s
  else
    let s1 := ({ s with msix := { s.msix with autoBw := true } }).setRegF (pcieP 0) 0x040 13 13 1
    if s.msix.linkUp then
      (s1.showLink (s.regF (pcieP 0) 0x040 3 0) (min (s.regF (pcieP 0) 0x040 9 4) 4)).bumpF (pcieP 0) 0x054 15 0 1
    else s1

/-! ## Excusing units (R111, R112) -/

/-- LOCKER pages show the channels that became Excused (Table 5-7, Table 5-8). -/
def State.markLocker (s : State) (new : List Nat) : State :=
  (new.filter fun b => decide (48 ≤ b) && decide (b < 80)).foldl (fun s b =>
    (s.setReg (lockerP ((b - 48) / 8)) 0x044 (setBit (s.reg (lockerP ((b - 48) / 8)) 0x044) ((b - 48) % 8) true)).raise
      (lockerP ((b - 48) / 8)) 4) s

/-- An I/O die's bit brings the bits of every unit on the die with it (R112). -/
def withDies (bits : List Nat) : List Nat :=
  let die := fun (d : Nat) => if bits.contains (80 + d) then dieUnits d else []
  (bits ++ die 0 ++ die 1).eraseDups

/-- Units become Excused: their map bits and pages, a new Roll Book, EXCUSED_CHANGE, the service level. -/
def State.excuse (s : State) (bits : List Nat) : State :=
  let new := (withDies bits).filter fun b => (presentBits s.chip.grade).contains b && !s.isExcused b
  if new.isEmpty then s
  else
    let lost := (List.range 16).filter fun n => new.contains (96 + n) && s.torque n
    let s0 := ((List.range 16).filter fun n => new.contains (96 + n)).foldl (fun s n => s.loopLost n) s
    let s1 := { s0 with excused := s.excused ||| bitsOf new, lvl := { s0.lvl with generation := s.lvl.generation + 2 } }
    let s2 := ((allPages s.chip.grade).filter fun p => match excuseBit p with
        | some b => new.contains b
        | none => false).foldl (fun s p => if s.pageState p = .excused then s else s.losePage p .excused) s1
    let s3 := (s2.hwSignal 4 (now s)).raise procP 2
    let s4 := lost.foldl (fun s n => s.note 17 0 n (2 ^ n) n) s3
    let s5 := if new.contains 80 || new.contains 146 then s4.linkDown
      else if new.contains 81 || new.contains 147 then s4.degradeLink else s4
    (((s5.markLocker new).loseCopies new).loseAdc new).syncCheck.evalLevel

/-- A re-admission of a homeroom's Score starts (R243). -/
def State.startReadmit (s : State) (h : Nat) : State :=
  if (s.score h).isSome || (s.hr h).pendingScore.isSome then s.modHr h fun r => { r with readmit := true } else s

/-- The activations whose group holds a tile. -/
def State.groupActs (s : State) (t : Nat) : List (Nat × Nat) :=
  s.allActs.filter fun e => match s.part? e.1 e.2 with
    | some p => p.act.isSome && p.group.contains t
    | none => false

/-- An activation stops on every tile of its group, without a commit (R243). -/
def State.stopEverywhere (s : State) (e : Nat × Nat) : State :=
  ((List.range 32).foldl (fun s u => if (s.tile u).act = some e then (s.dropWaiters u).leaveTile u else s) s).setAct e.1 e.2 none

/-- A tile is Excused with a cause (R208). -/
def State.excuseTile (s : State) (t cause : Nat) : State :=
  if s.isExcused t then s
  else
    let q := t / 8
    let s1 := (s.modTile t fun u => { u with leaving := false }).cancelWaiters fun w => match w.who with
      | .tile u => decide (u.val = t)
      | _ => false
    let s2 := (s.groupActs t).foldl (fun s e => s.stopEverywhere e) ((s1.dropWaiters t).vacateTile t)
    let s3 := s2.syndrome (tileP t) (if cause = 1 then 0x50 else if cause = 3 then 0x51 else 0) 0
    let s4 := (s3.note 3 t t 0xFFFF cause).excuse [t]
    let h8 := (List.range 8).foldl (fun n k => if s4.isExcused (8 * q + k) then n else n + 2 ^ k) 0
    let s5 := s4.setRegN (sectP q) 0x044 (h8 + if h8 = 255 then 256 else 0)
    let s6 := (s5.setRegN (sectP q) 0x054 (t * 0x1000000 + cause * 0x10000)).setReg64 (sectP q) 0x058 (now s)
    (s6.raise (sectP q) 1).startReadmit (s.tileHr t)

/-! ## Units that become Excused (R170, Table 5-6) -/

/-- A homeroom's grants hold a granule of a Commons block or Locker channel. -/
def State.holdsUnit (s : State) (h b : Nat) : Bool :=
  if b < 48 then (s.commonsGranules h).any fun g => decide (32 + g / 32 = b)
  else (s.lockerGranules h).any fun g => decide (48 + 8 * (g / 64) + g % 64 / 8 = b)

/-- Commons blocks or Locker channels become Excused; the Scores of the homerooms that hold them are re-admitted
(section 5.4). -/
def State.excuseMem (s : State) (bits : List Nat) : State :=
  (List.range 8).foldl (fun s h => if bits.any (s.holdsUnit h) then s.startReadmit h else s) (s.excuse bits)

/-- The units whose second uncorrectable error within 1 s was met become Excused. -/
def State.takeCondemned (s : State) : State :=
  s.sram.condemned.foldl (fun s b => if b < 32 then s.excuseTile b 2 else s.excuseMem [b])
    { s with sram := { s.sram with condemned := [] } }

def State.memError (s : State) (a src kind : Nat) : State := (s.memRecord a src kind).takeCondemned

/-- A read of n bytes meets the errors that stand in them. -/
def State.seeErrors (s : State) (a n src cls : Nat) : State := (s.meetErrors a n src cls).takeCondemned

/-- A device read of bytes in a homeroom's grant meets the errors that stand in them (R177, R178). -/
def State.lookGrant (s : State) (h off n : Nat) : State := (s.meetGrant h off n).takeCondemned

/-! ## The Roll Book (section 3.6) -/

/-- The pages the published book lists: all of the grade, or those of ROM recovery (R442). -/
def State.bookPages (s : State) : List PageRef :=
  if s.lvl.minimal then [⟨.proctor, 0⟩, ⟨.hallmon, 0⟩, ⟨.image, 0⟩, ⟨.identity, 0⟩, ⟨.pcie, 0⟩]
  else allPages s.chip.grade

/-- Inserts a page in ascending base (R114). -/
def insertByBase (p : PageRef) : List PageRef → List PageRef
  | [] => [p]
  | q :: l => if pageBase p ≤ pageBase q then p :: q :: l else q :: insertByBase p l

/-- HEALTH of a die descriptor. -/
def State.dieHealth (s : State) (kind k : Nat) : Nat :=
  let units := if kind = 0 then List.range 44 ++ [124, 125, 126]
    else if kind = 1 then (List.range 8).map (fun c => 48 + 8 * k + c) else dieUnits k
  if s.lvl.linkDown.contains (if kind = 1 then 2 + k else k) && decide (kind ≠ 0) then 2
  else if units.any s.isExcused then 1 else 0

/-- A die descriptor (Table 3-10). DIE_REV of every die is the chip's stepping (DESIGN CHOICE, log entry 149). -/
def State.dieBytes (s : State) (kind k : Nat) : List Byte :=
  leBytes 4 (kind + k * 0x100 + s.dieHealth kind k * 0x10000) ++ leBytes 4 s.chip.stepping ++
  (if kind = 0 then leBytes 8 0 ++ leBytes 4 32768 ++ leBytes 4 1 ++ leBytes 8 0x2000000 ++ leBytes 4 16384 ++ leBytes 4 2
   else if kind = 1 then leBytes 8 (0x4000000 + k * 0x4000000) ++ leBytes 4 65536 ++ leBytes 4 3 ++ leBytes 16 0
   else leBytes 32 0) ++ leBytes 8 0

def typeBytes (t : PageType) : List Byte :=
  let r := crcRanges t
  leBytes 4 (typeCode t + 0x100 + r.length * 0x10000) ++
  ((List.range 6).flatMap fun i => match r[i]? with
    | some (a, n) => leBytes 2 (a / 4 + n * 0x400)
    | none => leBytes 2 0)

def State.pageBytes (s : State) (p : PageRef) : List Byte :=
  leBytes 4 (pageBase p) ++ leBytes 4 (pageId p).toNat ++
  leBytes 4 (pageDie s.chip.grade p + rbFlags p * 0x10000 + (match excuseBit p with
    | some b => b
    | none => 0xFFF) * 0x100000) ++ leBytes 4 (span p.ty)
where
  /-- FLAGS: [16] SAFETY, [17] CRC, [18] GRANTABLE, [19] EXCUSABLE (Table 3-12). -/
  rbFlags (p : PageRef) : Nat :=
    let b := fun i v => if bit (caps p.ty) i then v else 0
    b 31 1 + b 30 2 + b 29 4 + b 28 8

/-- The book before its CRC: header, grade descriptor, Excused map, die, type and page entries at the offsets of section 3.8; the
type descriptors of an S4X, which has seven dies, stand after the last die descriptor. -/
def State.bookRaw (s : State) : List Byte :=
  let g := s.chip.grade
  let pages := s.bookPages.foldl (fun l p => insertByBase p l) []
  let types := allTypes.filter fun t => pages.any fun p => p.ty == t
  let typeOff := max 0x200 (0xC0 + 0x30 * (1 + g.stacks + g.ioDies))
  let dies := [(0, 0)] ++ (List.range g.stacks).map (fun k => (1, k)) ++ (List.range g.ioDies).map (fun d => (2, d))
  let total := 0x400 + 16 * pages.length
  let limit := pages.foldl (fun m p => max m (pageBase p + 0x1000 * span p.ty)) 0
  let base := pages.foldl (fun m p => min m (pageBase p)) limit
  let head := leBytes 4 0x4B424C52 ++ leBytes 4 0x00400001 ++ leBytes 4 total ++ leBytes 4 s.lvl.generation ++
    leBytes 4 0x00400040 ++ leBytes 4 0x00200080 ++ leBytes 4 (0x30000000 + dies.length * 0x10000 + 0xC0) ++
    leBytes 4 (0x10000000 + types.length * 0x10000 + typeOff) ++ leBytes 4 (pages.length * 0x10000 + 0x400) ++
    leBytes 4 0x10 ++ leBytes 4 base ++ leBytes 4 limit ++ leBytes 16 0
  let grade := leBytes 4 (0x7140 + g.code * 0x10000 + (if s.chip.hot then 2 else 1) * 0x1000000) ++
    leBytes 4 (s.chip.stepping + g.stacks * 0x100 + g.ioDies * 0x10000) ++ leBytes 4 0x08040420 ++
    leBytes 4 (g.axes + g.cameras * 0x100 + 4 * g.ioDies * 0x10000) ++ leBytes 4 (49152 + 65536 * g.stacks) ++
    leBytes 4 0x10000 ++ leBytes 32 (bitsOf (presentBits g)).toNat ++ leBytes 8 0
  let map := leBytes 32 s.excused.toNat ++ leBytes 32 0
  let dieB := dies.flatMap fun e => s.dieBytes e.1 e.2
  let dieP := dieB ++ List.replicate (typeOff - 0xC0 - dieB.length) 0
  let typeB := types.flatMap typeBytes
  head ++ leBytes 0 0 ++ grade ++ map ++ dieP ++ (typeB ++ List.replicate (0x400 - typeOff - typeB.length) 0) ++ pages.flatMap s.pageBytes

/-- The Roll Book with BOOK_CRC; before publication every byte reads 0 (R107). -/
def State.book (s : State) : List Byte :=
  if s.lvl.published then
    let raw := s.bookRaw
    raw.take 0x3C ++ leBytes 4 (crc32 raw).toNat ++ raw.drop 0x40
  else []

end Sys2Proof.Machine
end

