-- ==== Sys2Proof/Machine/Pages.lean ====
section
/-!
DEFINITION. Register pages (chapter 3): what a read returns, which writes take effect, PAGE_CFG_CRC, and the command
protocol with its results and refusals.
-/

namespace Sys2Proof.Machine

/-! ## Reads -/

def State.ownerWord (s : State) (p : PageRef) : Word :=
  let g := s.page p
  word (g.owner + if g.lock then 0x80000000 else 0)

/-- The group a tile lies in, for TILE_GROUP (Table 6-6). -/
def State.tileGroupWord (s : State) (t : Nat) : Word :=
  match s.allParts.find? fun e => match s.part? e.1 e.2 with
    | some p => p.group.contains t
    | none => false with
  | some (h, i) => match s.part? h i with
    | some p => word (0x80000000 + p.group.headD 0 * 0x10000 + p.group.length * 0x100 + h)
    | none => 0
  | none => 0

def waitCode : TileWait → Nat
  | .none => 1 | .tag .. => 2 | .cue .. => 3 | .sectionNet => 4 | .barrier _ => 5 | .phase _ => 6

/-- HR_SCORE (Table 4-4). -/
def State.scoreWord (s : State) (h : Nat) : Word :=
  let r := s.hr h
  let valid := if r.score.isSome then 0x80000000 else 0
  match r.pendingScore, r.score with
  | some c, _ => word (valid + 0x40000000 + c.offset)
  | none, some c => word (valid + c.offset)
  | none, none => 0

def State.pagesOwned (s : State) (h : Nat) : Nat :=
  ((allPages s.chip.grade).filter fun p => decide ((s.page p).owner = h)).foldl (fun n p => n + span p.ty) 0

/-- A register that is not on the page reads 0 and takes no write: one for a unit the grade lacks (R53), and the staging
registers HRS_* on a HOMEROOM page other than instance 0 (Table 4-7). -/
def regAbsent (g : Grade) (p : PageRef) (off : Nat) : Bool :=
  (decide (p.ty = .tempo) && decide (0x100 + 4 * g.cameras ≤ off)) ||
  (decide (p.ty = .homeroom) && decide (p.inst ≠ 0) && decide (0x100 ≤ off) && decide (off < 0x180))

/-- TEST of a homeroom's copy of a hardware-event Cue through a register (R148, R149, Table 4-16). -/
def State.copyTest (s : State) (h cue : Nat) : Word := if s.cueFaulted cue || !s.listens h cue then 0 else word (s.cueCount h cue)

/-- TAKE through a register clears the copy. -/
def State.copyTakes (s : State) (h cue : Nat) : Bool := !s.cueFaulted cue && s.listens h cue && (s.cueList h cue).isEmpty

/-- The copy and the operation a register of Table 4-4 or of CUE page 0 stands for: homeroom, Cue, operation code. -/
def copyOp (p : PageRef) (off : Nat) : Option (Nat × Nat × Nat) :=
  let of' := fun (h : Nat) => some (h, (off % 0x400) / 4, if off < 0xC00 then 4 else 6)
  if p.ty = .homeroom ∧ 0x800 ≤ off then of' p.inst
  else if p.ty = .cue ∧ p.inst = 0 ∧ (0x400 ≤ off ∧ off < 0x800 ∨ 0xC00 ≤ off) then of' 0
  else none

/-- A block register as its owner reads it, before a read clears anything. -/
def State.blockRead (s : State) (p : PageRef) (off : Nat) : Word :=
  let n := p.inst
  let g := s.page p
  match p.ty with
  | .tempo =>
    if off = 0x060 then word (now s) else if off = 0x064 then word (now s / 0x100000000)
    else if regAbsent s.chip.grade p off then 0 else s.reg p off
  | .homeroom =>
    if off = 0x0C8 then word (s.regF p off 31 16 * 0x10000 + s.poolUsed n)
    else if off = 0x0D0 then s.scoreWord n
    else if off = 0x0D4 then word (s.pagesOwned n)
    else if 0x400 ≤ off ∧ off < 0x800 then word (tabGet 0 s.cues.stamps ((off - 0x400) / 4)).toNat
    else if 0x800 ≤ off ∧ off < 0xC00 then s.copyTest n ((off - 0x800) / 4)
    else if 0xC00 ≤ off then (if s.copyTakes n ((off - 0xC00) / 4) then s.copyTest n ((off - 0xC00) / 4) else 0)
    else if regAbsent s.chip.grade p off then 0
    else s.reg p off
  | .cue =>
    let cue := fun (base : Nat) => 256 * n + (off - base) / 4
    if off = 0x044 then word (s.cues.waiters.filter fun w => decide (w.cue / 256 = n)).length
    else if 0x320 ≤ off ∧ off < 0x340 then
      word ((s.cues.waiters.filter fun w => decide (w.cue / 32 = 8 * n + (off - 0x320) / 4)).foldl
        (fun m w => m ||| 2 ^ (w.cue % 32)) 0)
    else if n = 0 ∧ 0x400 ≤ off ∧ off < 0x800 then s.copyTest 0 (cue 0x400)
    else if n = 0 ∧ 0xC00 ≤ off then (if s.copyTakes 0 (cue 0xC00) then s.copyTest 0 (cue 0xC00) else 0)
    else if 0x400 ≤ off ∧ off < 0x800 then (if s.cueFaulted (cue 0x400) then 0 else word (s.cueCount 0 (cue 0x400)))
    else if 0x800 ≤ off ∧ off < 0xC00 then 0
    else if 0xC00 ≤ off then
      (if s.cueFaulted (cue 0xC00) || isBarrier (s.cueCfg (cue 0xC00)) || !(s.cueList 0 (cue 0xC00)).isEmpty
       then 0 else word (s.cueCount 0 (cue 0xC00)))
    else s.reg p off
  | .tile =>
    let u := s.tile n
    if off = 0x044 then s.tileGroupWord n
    else if off = 0x074 then (if u.act.isSome then word (waitCode u.wait) else 0)
    else s.reg p off
  | .dpp | .codec => if 0x0A0 ≤ off ∧ off < 0x0C0 then word (s.qPending p ((off - 0x0A0) / 4) * 0x10000 + s.regN p off) else s.reg p off
  | .pstage => if off = 0x088 ∧ !s.inState p [.running, .fault] then 0 else s.reg p off
  | .loop =>
    if 0x800 ≤ off then (if (off - 0x800) / 4 < s.regF p 0x144 9 0 then s.reg p off else 0)
    else if off = 0x1C0 ∧ !s.torque n then s.reg p off &&& 0xFFFFFFF8
    else (s.loopWritten n off).getD (s.reg p off)
  | .sect =>
    if off = 0x048 then
      (if g.state = .off then (if g.asleep.isSome then 2 else 0)
       else if 1 ≤ s.dynState && (List.range 8).all (fun k => (s.tile (8 * n + k)).act.isNone) then 1 else 0)
    else s.reg p off
  | .dynamics =>
    if off = 0x040 then s.dynStateWord
    else if off = 0x044 then word s.floors
    else if off = 0x048 then word (s.minTolerance.2 * 0x1000000 + s.minTolerance.1)
    else if off = 0x088 then word s.loopPins
    else s.reg p off
  | .kv => if off = 0x084 then word (s.kvPending * 0x10000 + s.regN p off) else s.reg p off
  | _ => s.reg p off

/-- PAGE_CFG_CRC as its owner reads it: a write to a LOOP page that waits for the Pulse boundary counts (R324). -/
def State.wantCrc (s : State) (p : PageRef) : Word :=
  if p.ty = .loop then (s.loopWritten p.inst 0x02C).getD (s.page p).cfgCrc else (s.page p).cfgCrc

/-- A register of a page as a homeroom reads it (Table 3-1, Table 3-2). -/
def State.readPage (s : State) (h : Nat) (p : PageRef) (off : Nat) : Word :=
  let g := s.page p
  match off with
  | 0x000 => pageId p
  | 0x004 => caps p.ty
  | 0x008 => s.ownerWord p
  | 0x00C => word (g.substate * 0x100 + stateCode g.prev * 0x10 + stateCode g.state)
  | 0x010 => 0
  | 0x014 => g.result
  | 0x018 => word (g.status + (if g.crcOk then 0x80000000 else 0) + if g.pending.isSome || !g.quiesces.isEmpty then 0x40000000 else 0)
  | 0x01C => word (g.refusals * 0x1000000 + g.syndrome)
  | 0x020 => g.pend
  | 0x024 => g.en
  | 0x028 => g.writes
  | 0x02C => if capCrc p.ty then s.wantCrc p else 0
  | _ =>
    if off < 0x040 then 0
    else if (h = g.owner ∨ h = 0) ∧ g.state ≠ .excused ∧ (g.state ≠ .off ∨ (p.ty = .sect ∧ off = 0x048)) then s.blockRead p off
    else 0

/-- What a read clears: PAGE_ERR, RC fields read by the owner or HR0, and the Cue counts behind the TAKE registers (R16,
R152). -/
def State.clearOnRead (s : State) (h : Nat) (p : PageRef) (off : Nat) : State :=
  let g := s.page p
  if off = 0x01C then s.setPage p { g with refusals := 0, syndrome := 0 }
  else if off < 0x040 ∨ (h ≠ g.owner ∧ h ≠ 0) ∨ g.state = .off ∨ g.state = .excused then s
  else if p.ty = .homeroom ∧ 0xC00 ≤ off then
    (if s.copyTakes p.inst ((off - 0xC00) / 4) then s.setCueCount p.inst ((off - 0xC00) / 4) 0 else s)
  else if p.ty = .cue ∧ p.inst = 0 ∧ 0xC00 ≤ off then
    (if s.copyTakes 0 ((off - 0xC00) / 4) then s.setCueCount 0 ((off - 0xC00) / 4) 0 else s)
  else if p.ty = .cue ∧ 0xC00 ≤ off then
    let cue := 256 * p.inst + (off - 0xC00) / 4
    if s.cueFaulted cue || isBarrier (s.cueCfg cue) || !(s.cueList 0 cue).isEmpty then s
    else s.setCueCount 0 cue 0
  else match regFind p.ty off with
    | some d => s.setReg p off (s.reg p off &&& ~~~(word d.rc))
    | none => s

/-- Requester code for the latches of R51. -/
def latchCode : Requester → Nat
  | .host none => 0x10000000
  | .host (some p) => 0x20000000 + p.toNat
  | r => sourceCode r

/-- Registers whose read latches a companion word: _LO registers with their _HI, TEMPO_BAR_COUNT with TEMPO_POS (R51,
sections 7.5.4, 8.3 and 10.10). -/
def latchCompanion (t : PageType) (off : Nat) : Option Nat :=
  match t with
  | .tempo => if off = 0x060 then some 0x064 else if off = 0x068 then some 0x06C else if off = 0x074 then some 0x078 else none
  | .tile => if [0x04C, 0x060, 0x088, 0x090].contains off then some (off + 4) else none
  | .homeroom => if off = 0x090 then some 0x094 else none
  | .loop => if [0x180, 0x1EC, 0x200].contains off then some (off + 4) else none
  | .camera => if [0x050, 0x058].contains off then some (off + 4) else none
  | _ => none

/-- One 32-bit read of a page: a latched word is returned once, a _LO read latches, RC fields clear. A read of a block register that
Table 3-1 does not permit leaves a violation record (Table 4-2; DEDUCED, log entry 148), and so does a TEST or TAKE of a Cue not
listened to (R149). -/
def State.readWordAt (s : State) (r : Requester) (h : Nat) (p : PageRef) (off : Nat) : State :=
  let c := latchCode r
  let k := regKey p off
  let s := if p.ty = .dynamics ∧ 0x060 ≤ off ∧ off < 0x074 then s.creditRes else s
  match s.tempo.latched.find? fun e => decide (e.1 = c) && decide (e.2.1 = k) with
  | some e =>
    ({ s with tempo := { s.tempo with latched := s.tempo.latched.filter (fun x => !(decide (x.1 = c) && decide (x.2.1 = k))) } }).answerWord
      e.2.2
  | none =>
    let v := s.readPage h p off
    let s1 := match latchCompanion p.ty off with
      | some hi =>
        { s with tempo := { s.tempo with latched :=
          (c, regKey p hi, s.readPage h p hi) ::
            (s.tempo.latched.filter (fun x => !(decide (x.1 = c) && decide (x.2.1 = regKey p hi)))) } }
      | none => s
    let s2 := if 0x040 ≤ off ∧ h ≠ (s.page p).owner ∧ h ≠ 0 then s1.violate h 4 1 0 r (pageBase p + off / 0x1000 * 0x1000) (off % 0x1000)
      else match copyOp p off with
        | some (k, cue, op) => if s.listens k cue then s1 else s1.violate h 4 3 0 r (op * 0x10000 + cue) 0
        | none => s1
    (s2.clearOnRead h p off).answerWord v

/-- A 32-bit read of register space: the Roll Book, a page, or a reserved address (R76, R79, R83). -/
def State.readSpace (s : State) (r : Requester) (addr : Nat) : State :=
  let s := s.hostWake r
  match s.requesterHr r with
  | none => (s.unmappedBy r false).answerWord 0
  | some h =>
    if addr < 0x10000 then s.answer (((s.book.drop addr).take 4) ++ List.replicate (4 - (s.book.drop addr).length) 0) false
    else match pageAt s.chip.grade addr with
      | none => s.answerWord 0
      | some (p, off) => s.readWordAt r h p off

/-- A read of any size and alignment: the words it touches are read one by one, low address first, and it returns its bytes of them
(R78). -/
def State.readAny (s : State) (r : Requester) (addr size : Nat) : State :=
  if size = 4 ∧ addr % 4 = 0 then s.readSpace r addr
  else
    let x := (List.range ((addr % 4 + size + 3) / 4)).foldl (fun (x : State × List Byte) i =>
      let s1 := x.1.readSpace r (addr / 4 * 4 + 4 * i)
      (s1, x.2 ++ s1.out.readData)) (s, [])
    x.1.answer ((x.2.drop (addr % 4)).take size) false

/-- LATCHING_READ (R51). -/
def execLatchingRead (r : Requester) (a : PageRead) (s : State) : Host.Outcome State Fault Refusal :=
  done (s.readAny r a.addr.toNat a.size)

/-- RC_REGISTER_READ (R16): the value goes to the requester and the RC fields become 0. -/
def execRcRegisterRead (r : Requester) (a : PageRead) (s : State) : Host.Outcome State Fault Refusal :=
  done (s.readAny r a.addr.toNat a.size)

/-! ## PAGE_CFG_CRC (section 3.5) -/

/-- The live CRC of a page, over its registers as a read by the owner returns them (R103). -/
def State.liveCrc (s : State) (p : PageRef) : Word :=
  crc32 (leBytes 4 (pageId p).toNat ++ leBytes 4 (s.ownerWord p).toNat ++
    (crcRanges p.ty).flatMap fun e => (List.range e.2).flatMap fun i => leBytes 4 (s.blockRead p (e.1 + 4 * i)).toNat)

def State.crcMatches (s : State) (p : PageRef) : Bool := !capCrc p.ty || s.liveCrc p == s.wantCrc p

/-! ## Writes -/

/-- Types whose refused writes send an OWNER_VIOLATION note (R82). -/
def guarded : PageType → Bool
  | .loop | .pstage | .angle | .safeio | .rubric => true
  | _ => false

/-- A write refused for ownership (R81, R82). In a span of several pages the record holds the base of the page written. -/
def State.refuseOwner (s : State) (r : Requester) (h : Nat) (p : PageRef) (off cmd : Nat) : State :=
  let base := pageBase p + off / 0x1000 * 0x1000
  let s1 := (s.countRefusal p).violate h 4 1 cmd r base (off % 0x1000)
  if guarded p.ty then s1.noteData 1 (sourceCode r) p.inst (pageAxes p) (h * 0x10000 + off) [base, off % 0x1000] else s1

/-- A block register write refused by state (Table 3-5). -/
def State.refuseState (s : State) (p : PageRef) : State := (s.countRefusal p).syndrome p 0xFF 5

/-- A write counted in PAGE_SEQ (R89). -/
def State.countWrite (s : State) (p : PageRef) : State := s.modPage p fun g => { g with writes := g.writes + 1 }

/-- A write to a block register by a requester, with the effect it has where it is permitted. The effect says whether it
took place, for PAGE_SEQ. -/
def State.guardWrite (s : State) (r : Requester) (p : PageRef) (off : Nat) (eff : State → Nat → State × Bool) : State :=
  let s := s.hostWake r
  match s.requesterHr r with
  | none => s.unmappedBy r true
  | some h =>
    if !present s.chip.grade p then s
    else if (s.page p).owner ≠ h then s.refuseOwner r h p off 0
    else if s.inState p [.off, .excused, .locked] then s.refuseState p
    else if idleOnly p.ty off && decide (s.pageState p ≠ .idle) then s.refuseState p
    else
      let x := eff s h
      if x.2 then x.1.countWrite p else x.1

/-- What some registers store in place of the value written. -/
def adjustWrite (p : PageRef) (off : Nat) (v : Word) : Word :=
  let zeroIs1 := fun (m : Nat) => if v.toNat % m = 0 then v ||| 1 else v
  match p.ty with
  | .tempo =>
    if off = 0x04C then (if 8000000 < v.toNat then 8000000 else v)
    else if 0x100 ≤ off then (if v.toNat / 0x1000000 = 0 then v ||| 0x1000000 else v)
    else v
  | .homeroom => if off = 0x0CC then zeroIs1 0x1000000 else v
  | .dma => if off = 0x04C then zeroIs1 0x1000000 else v
  | .camera => if off = 0x048 then zeroIs1 0x1000000 else v
  | .weight => if off = 0x068 then zeroIs1 0x100 else v
  | .tile => if off = 0x078 then zeroIs1 0x1000000 else v
  | .dynamics => if off = 0x04C then word (max 1000 (min (fld v 23 0) 1000000)) else v
  | _ => v

/-- A plain register write: RW bits take the value, W1C bits clear, every other bit stays (R15, R16). -/
def State.plainWrite (s : State) (p : PageRef) (off : Nat) (v : Word) : State × Bool :=
  match regFind p.ty off with
  | none => (s, false)
  | some d =>
    if (d.rw = 0 ∧ d.w1c = 0) || regAbsent s.chip.grade p off then (s, false)
    else
      let w := adjustWrite p off v
      let old := s.reg p off
      (s.setReg p off (((old &&& ~~~(word d.rw)) ||| (w &&& word d.rw)) &&& ~~~(v &&& word d.w1c)), true)

/-- PAGE_IRQ_PEND, PAGE_IRQ_EN: after the write a message is sent while (PEND AND EN) is not 0 (R88). -/
def State.irqWrite (s : State) (r : Requester) (p : PageRef) (off : Nat) (f : Page → Page) : State :=
  let s := s.hostWake r
  match s.requesterHr r with
  | none => s.unmappedBy r true
  | some h =>
    if !present s.chip.grade p then s
    else if (s.page p).owner ≠ h then s.refuseOwner r h p off 0
    else
      let s1 := (s.modPage p f).countWrite p
      let g := s1.page p
      if g.pend &&& g.en ≠ 0 then s1.irqMessage p else s1

/-- IRQ_PEND_WRITE (R87, R88). -/
def execIrqPendWrite (r : Requester) (p : PageRef) (v : Word) (s : State) : Host.Outcome State Fault Refusal :=
  done (s.irqWrite r p 0x020 fun g => { g with pend := g.pend &&& ~~~v })

/-- IRQ_EN_WRITE (R88). -/
def execIrqEnWrite (r : Requester) (p : PageRef) (v : Word) (s : State) : Host.Outcome State Fault Refusal :=
  done (s.irqWrite r p 0x024 fun g => { g with en := v })

/-- A write to PAGE_CFG_CRC; read-only on a page without a CRC set. -/
def State.crcWrite (s : State) (r : Requester) (p : PageRef) (v : Word) : State :=
  let s := s.hostWake r
  match s.requesterHr r with
  | none => s.unmappedBy r true
  | some h =>
    if !present s.chip.grade p then s
    else if (s.page p).owner ≠ h then s.refuseOwner r h p 0x02C 0
    else if decide (p.ty = .loop) && s.gainsWait p.inst then (s.stageGain p.inst 0x02C v).countWrite p
    else if p.ty = .loop then ((s.dropGain p.inst 0x02C).modPage p fun g => { g with cfgCrc := v }).countWrite p
    else if (decide (p.ty = .rubric) || decide (p.ty = .safeio)) && decide (s.pageState p ≠ .idle) then s.refuseState p
    else if capCrc p.ty then (s.modPage p fun g => { g with cfgCrc := v }).countWrite p
    else s

/-! ## Commands (section 3.4) -/

/-- The answer of a command: a result code of Table 3-4 and a syndrome. -/
structure Ans where
  res : Nat
  syn : Option (Nat × Nat)
  deriving DecidableEq, Repr

def ansDone : Ans := ⟨2, none⟩
def ansAccepted : Ans := ⟨1, none⟩
def ansState : Ans := ⟨3, none⟩
def ansStateSyn (code detail : Nat) : Ans := ⟨3, some (code, detail)⟩
def ansArg (code detail : Nat) : Ans := ⟨5, some (code, detail)⟩
def ansBusy : Ans := ⟨6, none⟩
def ansUnknown : Ans := ⟨7, some (0xFF, 3)⟩

def isUniversal (code : Nat) : Bool := decide (code ≤ 3) || code = 0x0E || code = 0x0F

/-- Block commands whose rule gives them argument 0 (R278, R370, R396, R487, Table 13-12, and the texts of the IDENTITY and PCIE pages). -/
def zeroArg (p : PageRef) (code : Nat) : Bool :=
  match p.ty with
  | .weight => [0x10, 0x11].contains code
  | .pstage | .jsl | .dynamics => code = 0x10
  | .pcie => p.inst = 0 && code = 0x10
  | .identity => [0x10, 0x11, 0x12].contains code
  | .image => [0x10, 0x11, 0x14, 0x15, 0x17].contains code
  | _ => false

/-- A command is taken: its count and PAGE_SEQ go up (R89, R95). -/
def State.takeCommand (s : State) (p : PageRef) : State :=
  s.modPage p fun g => { g with writes := g.writes + 1, count := g.count + 1 }

/-- Posts the answer of a command, with what a refusal brings (R97, R99). -/
def State.postAnswer (s : State) (p : PageRef) (a : Ans) (at' : PageState) (code : Nat) (seq : BitVec 16) (arg : BitVec 24) : State :=
  let s1 := s.postResult p a.res at' code seq
  let s2 := match a.syn with
    | some (c, d) => s1.syndrome p c d
    | none => s1
  if a.res = 1 then s2.modPage p fun g =>
    if code = 0x0E then { g with quiesces := g.quiesces ++ [⟨code, seq, at', arg⟩] } else { g with pending := some ⟨code, seq, at', arg⟩ }
  else if a.res = 3 ∨ a.res = 5 ∨ a.res = 7 then s2.countRefusal p
  else s2

/-- The requester may command the page (Table 3-1). -/
def mayCommand (owner h code : Nat) : Bool := decide (owner = h) || (decide (h = 0) && (code = 0 || code = 0x0E || code = 0x0F))

/-- One write to PAGE_CMD. `body` answers a command that is neither refused for ownership, nor BUSY, nor given an argument
it does not take, and gives the state with its effect; `busy` is the answer while another command is pending (R100). -/
def State.pageCmd (s : State) (r : Requester) (p : PageRef) (code : Nat) (arg : BitVec 24) (body : State → Nat → Ans × State)
    (busy : Ans := ansBusy) : State :=
  let s := s.hostWake r
  match s.requesterHr r with
  | none => s.unmappedBy r true
  | some h =>
    if !present s.chip.grade p then s
    else if !mayCommand (s.page p).owner h code then s.refuseOwner r h p 0x010 code
    else
      let at' := s.pageState p
      let s1 := s.takeCommand p
      let seq := BitVec.ofNat 16 (s1.page p).count
      if ((s.page p).pending.isSome || !(s.page p).quiesces.isEmpty) && code ≠ 0x0E && code ≠ 0x0F then s1.postAnswer p busy at' code seq arg
      else if isUniversal code && arg ≠ 0 then s1.postAnswer p (ansArg 0xFF 4) at' code seq arg
      else if zeroArg p code && arg ≠ 0 then s1.postAnswer p ⟨5, none⟩ at' code seq arg
      else
        let s2 := if code = 0x0F then s1.finishAll p 3 none else s1
        let x := body s2 h
        x.2.postAnswer p x.1 at' code seq arg

/-! ## Universal commands of a page that follows Table 3-3 -/

/-- ENABLE passes the CRC check (R104). -/
def crcGate (s : State) (p : PageRef) (k : Ans × State) : Ans × State := if s.crcMatches p then k else (ansArg 0xFF 1, s)

/-- DISABLE: ARMED or HOLD to IDLE. -/
def genDisable (s : State) (p : PageRef) : Ans × State :=
  if s.inState p [.armed, .hold] then (ansDone, s.toState p .idle) else (ansState, s)

/-- ENABLE of a page without a start condition and without more checks: IDLE or HOLD to RUNNING. -/
def genEnable (s : State) (p : PageRef) : Ans × State :=
  if s.inState p [.idle, .hold] then crcGate s p (ansDone, s.toState p .running) else (ansState, s)

/-- QUIESCE of a page with nothing in flight: RUNNING to HOLD (R102). -/
def genQuiesce (s : State) (p : PageRef) : Ans × State :=
  (ansDone, if s.pageState p = .running then s.toState p .hold else s)

/-- RESET_PAGE: IDLE or FAULT to IDLE. -/
def genReset (s : State) (p : PageRef) : Ans × State :=
  if s.pageState p = .fault then (ansDone, s.toState p .idle)
  else if s.pageState p = .idle then (ansDone, s)
  else (ansState, s)

/-- STOP: ARMED, RUNNING or HOLD to IDLE. -/
def genStop (s : State) (p : PageRef) : Ans × State :=
  if s.inState p activeStates then (ansDone, s.toState p .idle) else (ansDone, s)

/-- NOP (R95). -/
def execNop (r : Requester) (p : PageRef) (arg : BitVec 24) (s : State) : Host.Outcome State Fault Refusal :=
  done (s.pageCmd r p 0 arg fun s _ => (ansDone, s))

/-- UNKNOWN_COMMAND (R97). -/
def execUnknownCommand (r : Requester) (p : PageRef) (code : BitVec 8) (arg : BitVec 24) (s : State) : Host.Outcome State Fault Refusal :=
  done (s.pageCmd r p code.toNat arg fun s _ => (ansUnknown, s))

end Sys2Proof.Machine
end

