-- ==== Sys2Proof/Machine/Score.lean ====
section
/-!
DEFINITION. Admission (section 2.6): the Score header, Part descriptors, Part images (section 7.1), the tile and engine
tests of R68, and re-admission (R243).
-/

namespace Sys2Proof.Machine

/-- A Part descriptor of 64 bytes (Table 2-7). -/
def parsePart (bs : List Byte) : Part :=
  let w := fun o => wordAt bs o
  { level := fld (w 0) 1 0, late := fld (w 0) 3 2, trigEn := bit (w 0) 4, safety := bit (w 0) 6, reflex := bit (w 0) 7,
    every := fld (w 0) 15 8, offset := fld (w 0) 31 16, budget := (w 4).toNat, deadline := (w 8).toNat,
    engineNs := (w 12).toNat, tiles := fld (w 0x10) 5 0, engines := fld (w 0x10) 15 8, trigCue := fld (w 0x10) 31 16,
    trigCount := fld (w 0x14) 15 0, gap := (w 0x18).toNat, commonsBytes := (w 0x1C).toNat, lockerBytes := (w 0x20).toNat,
    image := (w 0x24).toNat + 0x100000000 * (w 0x28).toNat, partId := (w 0x2C).toNat, group := [], unfit := false, throttled := false,
    withdrawn := false, phase := 0, due := [], lastRelease := none, held := false, skipNext := false, idleSince := 0,
    act := none, activations := 0 }

/-- Period, D and whether the trigger is a hardware event, under a Tempo (R59 to R61). -/
def partPeriod (pulse beats bars : Nat) (p : Part) : Nat := p.every * levelPeriod pulse beats bars p.level
def partD (pulse beats bars : Nat) (p : Part) : Nat := if p.deadline = 0 then partPeriod pulse beats bars p else p.deadline
def hwTrigger (p : Part) : Bool := p.trigEn && decide (p.trigCue < 256)

/-- D_eff and S of R68, S doubled so that it is whole. -/
def dEff (pulse beats bars : Nat) (p : Part) : Int := (partD pulse beats bars p : Int) - (if hwTrigger p then 20000 else 0)
def sep2 (pulse beats bars : Nat) (p : Part) : Nat := if p.trigEn then partPeriod pulse beats bars p else 2 * partPeriod pulse beats bars p

/-- dens of R68; none: no positive D_eff. -/
def dens (pulse beats bars : Nat) (p : Part) : Option Rat :=
  let d := dEff pulse beats bars p
  if d ≤ 0 then none else some ((p.budget : Rat) / min (d : Rat) ((sep2 pulse beats bars p : Rat) / 2))

/-- A tile group while Parts are placed: its tiles and the Parts in it. -/
abbrev Group := List Nat × List Part

/-- Adding a Part keeps the group within 1.0 (R68). -/
def groupFits (pulse beats bars : Nat) (g : Group) (p : Part) : Bool :=
  let ps := p :: g.2
  match ps.mapM (dens pulse beats bars) with
  | none => false
  | some ds =>
    let gap := ps.foldl (fun m q => max m q.gap) 0
    let dm := ps.foldl (fun m q => min m (dEff pulse beats bars q)) (dEff pulse beats bars p)
    decide (ds.foldl (· + ·) 0 + (gap : Rat) / (dm : Rat) ≤ 1)

/-- The first group of the Part's size that takes it. -/
def findGroup (pulse beats bars : Nat) (p : Part) : List Group → Option (List Nat × List Group)
  | [] => none
  | g :: gs =>
    if g.1.length = p.tiles ∧ groupFits pulse beats bars g p then some (g.1, (g.1, p :: g.2) :: gs)
    else match findGroup pulse beats bars p gs with
      | some (t, gs') => some (t, g :: gs')
      | none => none

/-- State of a placement: free tiles, groups, the tiles given to each Part index, the first Part that found none. -/
structure Placing where
  free : List Nat
  groups : List Group
  given : List (Nat × List Nat)
  failed : Option Nat

def placeOne (pulse beats bars : Nat) (x : Placing) (i : Nat) (p : Part) : Placing :=
  match findGroup pulse beats bars p x.groups with
  | some (t, gs) => { x with groups := gs, given := (i, t) :: x.given }
  | none =>
    if p.tiles ≤ x.free.length ∧ 0 < p.tiles then
      let t := x.free.take p.tiles
      { x with free := x.free.drop p.tiles, groups := x.groups ++ [(t, [p])], given := (i, t) :: x.given }
    else { x with failed := x.failed.or (some i) }

/-- The tile test of R68: largest tile count first, then by index. -/
def placeParts (pulse beats bars : Nat) (free : List Nat) (parts : List Part) : Placing :=
  let idx := (List.range parts.length).zip parts
  (List.range 32).foldl (fun x k =>
    (idx.filter fun e => decide (e.2.tiles = 32 - k)).foldl (fun x e => placeOne pulse beats bars x e.1 e.2) x)
    { free := free, groups := [], given := [], failed := none }

/-- The active tile set of a homeroom (R68, R241). -/
def State.activeTiles (s : State) (h : Nat) : List Nat :=
  (List.range 32).filter fun t => bit (s.reg (hrP h) 0x040) t && !s.isExcused t

/-- The engine test of R68. -/
def engineOk (pulse beats bars share : Nat) (parts : List Part) : Bool :=
  let tb := beats * pulse
  let demand := parts.foldl (fun n p =>
    let s2 := sep2 pulse beats bars p
    n + p.engineNs * ((2 * tb + s2 - 1) / s2)) 0
  decide (64 * demand ≤ share * tb)

/-- Bytes of Commons and Locker the homeroom's grants count for (R120). -/
def State.commonsBytes (s : State) (h : Nat) : Nat :=
  0x10000 * ((s.commonsGranules h).filter fun g => !s.isExcused (32 + g / 32)).length

def State.lockerBytes (s : State) (h : Nat) : Nat :=
  0x100000 * ((s.lockerGranules h).filter fun g => !s.isExcused (48 + 8 * (g / 64) + (g % 64) / 8)).length

/-- The reflex bound L (R72). -/
def reflexBound (pulse beats bars : Nat) (p : Part) : Nat := partD pulse beats bars p + beats * pulse + 250000 + 2 * pulse

/-- Whether a range lies wholly in one Commons grant or one Locker grant (R218). -/
def State.inOneGrant (s : State) (h a n : Nat) : Bool :=
  s.reachesAll h a n && (match levelAt s.chip.grade a, levelAt s.chip.grade (a + n - 1) with
    | .commons _, .commons _ => true
    | .locker _, .locker _ => true
    | _, _ => false)

/-- Bytes a save set needs: its slots and their tags (Table 7-4, R225). -/
def saveSetBytes (e : List Byte) : Nat :=
  let n := fld (wordAt e 0) 29 16 + fld (wordAt e 4) 29 16
  128 * n + (n + 3) / 4

/-- The header of a Part's image passes R218 and R219. -/
def State.imageHeaderOk (s : State) (h : Nat) (p : Part) : Bool :=
  let hd := s.readBytes p.image 128
  let w := fun o => wordAt hd o
  let bytes := (w 8).toNat
  let ctx := (w 0x24).toNat
  decide (w 0 = 0x54524150) && decide (fld (w 4) 15 0 = 1) && decide (fld (w 4) 23 22 = 0) && decide (fld (w 4) 31 26 = 0) &&
  decide (fld (w 4) 21 16 = p.tiles) && bit (w 0xC) (if s.chip.stepping = 0x10 then 1 else 0) && decide (fld (w 0xC) 31 2 = 0) &&
  decide (bytes % 64 = 0) && decide (128 ≤ bytes) && decide (ctx % 64 = 0) && decide (256 ≤ ctx) &&
  decide (fld (w 0x30) 15 0 ≤ 256) && decide (fld (w 0x38) 15 0 ≤ 256) &&
  decide (fld (w 0x30) 31 16 = 0) && decide (fld (w 0x38) 31 16 = 0) && ((hd.drop 0x44).take 0x38).all (· == 0) &&
  decide ((w 0x14).toNat ≤ p.budget) && decide ((w 0x18).toNat ≤ p.gap) && decide ((w 0x1C).toNat ≤ p.commonsBytes) &&
  decide ((w 0x20).toNat ≤ p.lockerBytes) && s.inOneGrant h p.image (bytes + p.tiles * ctx)

/-- The CRC and the tables of a Part's image pass R219. Poisoned data matches no CRC (log entry 126). -/
def State.imageBodyOk (s : State) (p : Part) : Bool :=
  let img := s.readBytes p.image (wordAt (s.readBytes p.image 128) 8).toNat
  let w := fun o => wordAt img o
  let saves := (List.range (fld (w 0x38) 15 0)).map fun k => s.readBytes (p.image + (w 0x34).toNat + 16 * k) 16
  let sizes := saves.map saveSetBytes
  let top := sizes.foldl max 0
  let second := (sizes.erase top).foldl max 0
  decide (crc32 (img.take 0x7C ++ leBytes 4 0 ++ img.drop 0x80) = w 0x7C) && !s.rangePoison p.image img.length &&
  (List.range (fld (w 0x30) 15 0)).all (fun k => wordAt (s.readBytes (p.image + (w 0x2C).toNat + 32 * k + 0x1C) 4) 0 == 0) &&
  saves.all (fun e => (e.drop 8).all (· == 0)) && decide (256 + top + second ≤ (w 0x24).toNat)

/-- The image of a Part passes R219. -/
def State.imageOk (s : State) (h : Nat) (p : Part) : Bool := s.imageHeaderOk h p && s.imageBodyOk p

/-- The fields whose range depends on the Tempo: OFFSET below the Pulses of one tick of LEVEL (Table 2-7), D at most P, or P/2 for a
triggered Part (R60, R61). -/
def partTempoOk (pulse beats bars : Nat) (p : Part) : Bool :=
  let ticks := if p.level = 0 then 1 else if p.level = 1 then beats else bars * beats
  let d := partD pulse beats bars p
  decide (p.offset < ticks) && decide ((if p.trigEn then 2 * d else d) ≤ partPeriod pulse beats bars p)

/-- The field checks of reason 0x03 for one Part. -/
def State.partFieldsOk (s : State) (h : Nat) (pulse beats bars : Nat) (bs : List Byte) (p : Part) : Bool :=
  let w := fun o => wordAt bs o
  decide (p.level ≠ 3) && !bit (w 0) 5 && decide (1 ≤ p.every) && partTempoOk pulse beats bars p &&
  (!p.trigEn || decide (p.offset = 0)) && decide (1 ≤ p.tiles) && decide (p.tiles ≤ 32) &&
  decide (fld (w 0x10) 7 6 = 0) && decide (fld (w 0x10) 15 12 = 0) && decide (fld (w 0x14) 31 16 = 0) &&
  (bs.drop 0x30).all (· == 0) &&
  (!p.trigEn || (decide (1 ≤ p.trigCount) && s.mayCue h p.trigCue 2)) &&
  (!p.reflex || hwTrigger p) && s.imageOk h p

/-- The index of the first Part that fails a check. -/
def firstBad {α : Type} (ok : α → Bool) (l : List α) : Option Nat := l.findIdx? fun x => !ok x

/-- The tests of R68 and R72 on a list of Parts under one Tempo: a reason of Table 2-8 and a Part index, or the placement. -/
def State.testParts (s : State) (h pulse beats bars : Nat) (parts : List Part) : Except (Nat × Nat) (List (Nat × List Nat)) :=
  let x := placeParts pulse beats bars (s.activeTiles h) parts
  match x.failed with
  | some i => .error (4, i)
  | none =>
    if !engineOk pulse beats bars (s.regF (hrP h) 0x044 6 0) parts then .error (5, parts.length - 1)
    else match firstBad (fun p => decide (p.commonsBytes ≤ s.commonsBytes h) && decide (p.lockerBytes ≤ s.lockerBytes h)) parts with
      | some i => .error (6, i)
      | none => match firstBad (fun p => !p.reflex || decide (reflexBound pulse beats bars p ≤ s.regN tempoP 0x04C)) parts with
        | some i => .error (7, i)
        | none => .ok x.given

/-- The tests of section 2.6 on admitted Parts under another Tempo (R68, R73): the fields that depend on it, then R68 and R72. -/
def State.testUnder (s : State) (h : Nat) (c : TempoChange) (parts : List Part) : Except (Nat × Nat) (List (Nat × List Nat)) :=
  match firstBad (partTempoOk c.pulse c.beats c.bars) parts with
  | some i => .error (3, i)
  | none => s.testParts h c.pulse c.beats c.bars parts

def giveGroups (given : List (Nat × List Nat)) (parts : List Part) : List Part :=
  ((List.range parts.length).zip parts).map fun e =>
    match given.find? fun g => decide (g.1 = e.1) with
    | some g => { e.2 with group := g.2, unfit := false }
    | none => { e.2 with group := [], unfit := true }

/-! ## Fit at a throttle level (R483) -/

/-- load of a group at a tile clock of f MHz; none: some Part has no positive D_eff. -/
def groupLoad (pulse beats bars f : Nat) (ps : List Part) : Option Rat :=
  let slow := fun (n : Nat) => (n * 1000 + f - 1) / f
  match ps.mapM fun p => dens pulse beats bars { p with budget := slow p.budget } with
  | none => none
  | some ds =>
    let gap := ps.foldl (fun m q => max m (slow q.gap)) 0
    let dm := match ps with
      | [] => 1
      | p :: rest => rest.foldl (fun m q => min m (dEff pulse beats bars q)) (dEff pulse beats bars p)
    some (ds.foldl (· + ·) 0 + (gap : Rat) / (dm : Rat))

/-- The Parts of a group, highest index first, from which the highest are taken until the load is at most 1. -/
def keepFit (pulse beats bars f : Nat) : List (Nat × Part) → List (Nat × Part)
  | [] => []
  | e :: es =>
    match groupLoad pulse beats bars f ((e :: es).map (·.2)) with
    | some l => if l ≤ 1 then e :: es else keepFit pulse beats bars f es
    | none => keepFit pulse beats bars f es

/-- Parts of a Score marked for a tile clock of f MHz; their placement stays. -/
def refit (pulse beats bars f : Nat) (parts : List Part) : List Part :=
  let idx := (List.range parts.length).zip parts
  idx.map fun e =>
    let peers := (idx.filter fun x => !x.2.unfit && decide (x.2.group = e.2.group)).reverse
    { e.2 with throttled := decide (f < 1000) && !e.2.unfit && !(keepFit pulse beats bars f peers).any fun x => decide (x.1 = e.1) }

/-- Tile clock in force, in MHz. -/
def State.tileMhz (s : State) : Nat := s.regF dynP 0x07C 9 0

def State.refitParts (s : State) (parts : List Part) : List Part := refit s.tPulse s.nBeat s.mBar s.tileMhz parts

/-- The new fit of every Score, at the first Bar boundary after a change of the level. -/
def State.refitAll (s : State) : State :=
  if !s.dyn.fitDue then s
  else (List.range 8).foldl (fun s h => s.modHr h fun r => { r with
      score := r.score.map fun c => { c with parts := s.refitParts c.parts },
      pendingScore := r.pendingScore.map fun c => { c with parts := s.refitParts c.parts } })
    (s.modDyn fun d => { d with fitDue := false })

/-! ## Gated Sections (sections 5.7, 14.2) -/

/-- A page goes OFF with its unit's power. -/
def State.sleepPage (s : State) (p : PageRef) : State :=
  if s.inState p [.idle, .armed, .running, .hold] then
    ((s.modPage p fun g => { g with asleep := some g.state }).toState p .off).abortWork p false
  else s

/-- A page leaves OFF on a wake. -/
def State.wakePage (s : State) (p : PageRef) (next : PageState → PageState) : State :=
  match (s.page p).asleep with
  | some st => (s.toState p (next st)).modPage p fun g => { g with asleep := none }
  | none => s

/-- What a range of SRAM held is lost: 0 with valid check bits. -/
def State.clearSram (s : State) (a n : Nat) : State :=
  let out := fun (w : Nat) => decide (w < a / 8) || decide (a + n ≤ 8 * w)
  { s with mem := s.mem.filter fun e => decide (e.1 < a) || decide (a + n ≤ e.1),
           sram := { s.sram with poison := s.sram.poison.filter fun e => out e.1, errs := s.sram.errs.filter fun e => out e.1,
                                 stale := cutStale s.sram.stale a n } }

/-- A Section's tags all become EMPTY. -/
def State.clearTags (s : State) (q : Nat) : State :=
  { s with sram := { s.sram with tags := s.sram.tags.filter fun e => decide (e.1 / 65536 ≠ q) } }

/-- A Section is power-gated. -/
def State.gated (s : State) (q : Nat) : Bool := (s.page (sectP q)).asleep.isSome

/-- The pages of a Section: its tiles, then itself. -/
def sectionPages (q : Nat) : List PageRef := (List.range 8).map (fun k => tileP (8 * q + k)) ++ [sectP q]

/-- A Section is power-gated. What it held is lost unless it is kept in retention (Table 5-15): no access reaches it before
it powers up, so it is cleared here (R190). -/
def State.gateSection (s : State) (q : Nat) (keep : Bool) : State :=
  (sectionPages q).foldl (fun s p => s.sleepPage p) (if keep then s else (s.clearSram (0x800000 * q) 0x800000).clearTags q)

/-- A gated Section powers up. -/
def State.powerSection (s : State) (q : Nat) : State := (sectionPages q).foldl (fun s p => s.wakePage p id) s

/-- Sections a Score's groups lie in. -/
def scoreSections (c : Score) : List Nat := (List.range 4).filter fun q => c.parts.any fun p => p.group.any fun t => decide (t / 8 = q)

/-- A Section is used: a tile of it lies in a group of a Score in force, or of one that takes effect at the next Bar. -/
def State.usedSection (s : State) (q : Nat) : Bool :=
  (List.range 8).any fun h => ((s.hr h).score.toList ++ (s.hr h).pendingScore.toList).any fun c => (scoreSections c).contains q

/-- The Score at an offset of a homeroom's grant, tested (R67, R68, R219): a reason and Part index, or the Score placed under
the Tempo in force. -/
def State.admitScore (s : State) (h off : Nat) : Except (Nat × Nat) Score :=
  let hd := s.readGrant h (64 * off) 64
  let w := fun o => wordAt hd o
  let n := fld (w 4) 31 16
  let log2 := fld (w 8) 31 24
  if w 0 ≠ 0x524F4353 ∨ fld (w 4) 7 0 ≠ 1 ∨ fld (w 4) 15 8 ≠ h then .error (1, 0)
  else if crc32 (hd.take 0x10 ++ s.readGrant h (64 * off + 64) (64 * n)) ≠ w 0x3C
      ∨ (s.inGrant h (64 * off) (64 + 64 * n) ∧ s.grantPoison h (64 * off) (64 + 64 * n)) then .error (2, 0)
  else if n = 0 ∨ 1024 < n ∨ log2 < 4 ∨ 12 < log2 ∨ fld (w 0xC) 31 3 ≠ 0 ∨ !((hd.drop 0x14).take 0x28).all (· == 0)
      ∨ !s.inGrant h (64 * off) (64 + 64 * n) ∨ !s.inGrant h (64 * fld (w 8) 23 0) (16 * 2 ^ log2) then .error (3, 0)
  else
    let raw := (List.range n).map fun i => s.readGrant h (64 * off + 64 + 64 * i) 64
    let parts := raw.map parsePart
    let (tp, nb, mb) := (s.tPulse, s.nBeat, s.mBar)
    match firstBad (fun e : List Byte × Part => s.partFieldsOk h tp nb mb e.1 e.2) (raw.zip parts) with
    | some i => .error (3, i)
    | none =>
      match s.testParts h tp nb mb parts with
      | .error e => .error e
      | .ok given =>
        let second := match s.tempo.change with
          | some c => s.testUnder h c parts
          | none => .ok given
        match second with
        | .error e => .error e
        | .ok _ => .ok { offset := off, lateRing := fld (w 8) 23 0, lateLog2 := log2, lateVec := fld (w 0xC) 2 0,
                         parts := s.refitParts (giveGroups given parts) }

/-- TEMPO_REFLEX_NS: the largest bound over the admitted REFLEX Parts (section 2.8). -/
def State.updateReflex (s : State) : State :=
  let parts := (List.range 8).flatMap fun h =>
    ((s.hr h).score.toList ++ (s.hr h).pendingScore.toList).flatMap fun c => c.parts
  s.setRegN tempoP 0x05C ((parts.filter (·.reflex)).foldl (fun m p => max m (reflexBound s.tPulse s.nBeat s.mBar p)) 0)

/-- TILE pages follow the groups of the Score in force (Table 6-9). -/
def State.syncTiles (s : State) (h : Nat) : State :=
  (List.range 32).foldl (fun s t => if s.tileHr t = h then s.settleTile t else s) s

/-- Replaced Scores without the oldest that have no activation any more. -/
def liveScores (l : List Score) : List Score := (l.reverse.dropWhile fun c => c.parts.all (·.act.isNone)).reverse

/-- A pending Score takes effect at a Bar boundary (R67). Activations already released finish under their old Score. -/
def State.replaceScore (s : State) (h : Nat) : State :=
  match (s.hr h).pendingScore with
  | none => s
  | some c =>
    let shift := if (s.score h).isSome then oldBase else 0
    let s1 := s.modHr h fun r => { r with
      oldScores := liveScores (r.score.toList ++ r.oldScores), pendingScore := none, score := some { c with
        parts := c.parts.map fun p => { p with phase := 0, due := [], idleSince := now s } } }
    let s2 := (List.range 32).foldl (fun s t => match (s.tile t).act with
      | some (k, i) => if k = h then s.modTile t fun u => { u with act := some (h, shift + i) } else s
      | none => s) s1
    (s2.syncTiles h).updateReflex

/-- ADMIT (R67): the test completes later. -/
def execAdmitScore (r : Requester) (h : Fin 8) (arg : BitVec 24) (s : State) : Host.Outcome State Fault Refusal :=
  done (s.pageCmd r (hrP h.val) 0x10 arg fun s _ =>
    if s.inState (hrP h.val) [.idle, .armed, .running, .hold] then
      let s1 := s.modHr h.val fun q => { q with admitting := some arg.toNat }
      let gatedOne := match s.admitScore h.val arg.toNat with
        | .ok c => (scoreSections c).any s.gated
        | .error _ => false
      (ansAccepted, if gatedOne then s1.modDyn fun d => { d with sectionFloor := true } else s1)
    else (ansState, s))

/-- What an admission test reads meets the errors that stand in it (R177, R178): the header, the descriptors, the images. -/
def State.lookAdmit (s : State) (h off : Nat) : State :=
  let n := fld (wordAt (s.readGrant h (64 * off) 64) 4) 31 16
  let parts := (List.range n).map fun i => parsePart (s.readGrant h (64 * off + 64 + 64 * i) 64)
  let image := fun (s : State) (p : Part) =>
    let len := if s.imageHeaderOk h p then max 128 (wordAt (s.readBytes p.image 128) 8).toNat else 128
    if s.inOneGrant h p.image len then s.meetErrors p.image len engineSrc 0 else s
  let s1 := s.meetGrant h (64 * off) 64
  let s2 := match s.admitScore h off with
    | .error (1, _) => s1
    | .error (2, _) => s1.meetGrant h (64 * off + 64) (64 * n)
    | _ => parts.foldl image (s1.meetGrant h (64 * off + 64) (64 * n))
  s2.takeCondemned

/-- ADMIT_COMPLETE (R68): the admission test of the Score being admitted ends. -/
def execAdmitComplete (h : Fin 8) (s : State) : Host.Outcome State Fault Refusal :=
  match (s.hr h.val).admitting, (s.page (hrP h.val)).pending with
  | some off, some _ =>
    let s1 := ((s.lookAdmit h.val off).modHr h.val fun q => { q with admitting := none }).modDyn fun d => { d with sectionFloor := false }
    match s.admitScore h.val off with
    | .ok c => done (((((scoreSections c).foldl (fun s q => s.powerSection q) s1).modHr h.val fun q => { q with pendingScore := some c }).finishPending (hrP h.val) 2 none).updateReflex.raise
        (hrP h.val) 0)
    | .error (why, i) => done ((s1.finishPending (hrP h.val) 5 (some (why, i))).raise (hrP h.val) 0)
  | _, _ => done s

/-- The groups of a Score's Parts on the active tiles; none for a Part that cannot be placed, or whose memory no longer fits. -/
def State.placeAgain (s : State) (h : Nat) (c : Score) : List (List Nat) :=
  let x := placeParts s.tPulse s.nBeat s.mBar (s.activeTiles h) c.parts
  ((List.range c.parts.length).zip c.parts).map fun e =>
    if e.2.commonsBytes ≤ s.commonsBytes h ∧ e.2.lockerBytes ≤ s.lockerBytes h then
      (match x.given.find? fun g => decide (g.1 = e.1) with
       | some g => g.2
       | none => [])
    else []

/-- A Score with the groups of a placement; a Part without a group is unfit. -/
def Score.placed (c : Score) (groups : List (List Nat)) : Score :=
  { c with parts := (c.parts.zip groups).map fun e => { e.1 with group := e.2, unfit := e.2.isEmpty } }

/-- READMISSION_COMPLETE (R243): the new placement is computed and waits for the Bar boundary. A re-admission is never refused. A
Score admitted before and still pending is placed again with it (DESIGN CHOICE, log entry 154). -/
def execReadmissionComplete (h : Fin 8) (s : State) : Host.Outcome State Fault Refusal :=
  if !(s.hr h.val).readmit then done s
  else
    done (s.modHr h.val fun r => { r with
      readmit := false
      replaced := some ((r.score.map (s.placeAgain h.val)).getD [])
      pendingScore := r.pendingScore.map fun c => c.placed (s.placeAgain h.val c) })

/-- The new placement of a re-admission takes effect at a Bar boundary, with its BASIS_CHANGE note (R243). The note
names the homeroom, the active tile count, the GENERATION and each Part that moved or became unfit. -/
def State.applyReadmit (s : State) (h : Nat) : State :=
  match (s.hr h).replaced, s.score h with
  | some groups, some c =>
    let parts := (c.placed groups).parts
    let s1 := s.modHr h fun r => { r with replaced := none, score := some { c with parts := s.refitParts parts } }
    let moved := (List.range c.parts.length).filter fun i => match c.parts[i]?, parts[i]? with
      | some a, some b => decide (a.group ≠ b.group)
      | _, _ => false
    (s1.syncTiles h).noteData 4 0 h 0xFFFF (s.lvl.generation * 0x10000 + h * 0x100 + (s.activeTiles h).length) moved
  | some _, none =>
    (s.modHr h fun r => { r with replaced := none }).noteData 4 0 h 0xFFFF (s.lvl.generation * 0x10000 + h * 0x100 + (s.activeTiles h).length) []
  | none, _ => s

end Sys2Proof.Machine
end

