-- ==== Sys2Proof/Machine/Homeroom.lean ====
section
/-!
DEFINITION. The HOMEROOM page: CONFIGURE, GRANT_PAGE, REVOKE_PAGE, RELEASE, its states (sections 4.3 and 4.4), and the CUE
page's configuration and states (section 4.6).
-/

namespace Sys2Proof.Machine

def hrs17 : List Nat := [1, 2, 3, 4, 5, 6, 7]

/-- Word k of a row of eight registers as bits of one number. -/
def State.bits256 (s : State) (p : PageRef) (base : Nat) : Nat :=
  (List.range 8).foldl (fun n k => n + s.regN p (base + 4 * k) * 2 ^ (32 * k)) 0

def State.setBits256 (s : State) (p : PageRef) (base n : Nat) : State :=
  (List.range 8).foldl (fun s k => s.setRegN p (base + 4 * k) (n / 2 ^ (32 * k))) s

/-- The allocation registers of HR0 show what no other homeroom owns (R117). -/
def State.refreshHr0 (s : State) : State :=
  let tiles := hrs17.foldl (fun n h => n ||| s.regN (hrP h) 0x040) 0
  let share := hrs17.foldl (fun n h => n + s.regF (hrP h) 0x044 6 0) 0
  let com := hrs17.foldl (fun n h => n ||| s.bits256 (hrP h) 0x050) 0
  let loc := hrs17.foldl (fun n h => n ||| s.bits256 (hrP h) 0x070) 0
  let s1 := (s.setRegN (hrP 0) 0x040 (F32 ^^^ tiles)).setRegF (hrP 0) 0x044 6 0 (64 - share)
  (s1.setBits256 (hrP 0) 0x050 ((2 ^ 256 - 1) ^^^ com)).setBits256 (hrP 0) 0x070
    ((2 ^ s.chip.grade.lockerGranules - 1) ^^^ (loc % 2 ^ s.chip.grade.lockerGranules))

/-! ## CONFIGURE (R133, R135) -/

/-- Tiles in a group of HR0's Score in force. -/
def State.hr0Groups (s : State) : Nat :=
  match s.score 0 with
  | some c => c.parts.foldl (fun n p => p.group.foldl (fun n t => n ||| 2 ^ t) n) 0
  | none => 0

/-- The hardware-event Cues of a grade (Table 4-12). -/
def hwCueExists (g : Grade) (c : Nat) : Bool :=
  (decide (1 ≤ c) && decide (c ≤ 7)) || (decide (0x10 ≤ c) && decide (c < 0x10 + g.cameras)) ||
  (decide (0x20 ≤ c) && decide (c < 0x20 + g.cameras)) || (decide (0x30 ≤ c) && decide (c ≤ 0x34)) ||
  (decide (0x40 ≤ c) && decide (c ≤ 0x47)) || (decide (0x50 ≤ c) && decide (c ≤ 0x57)) ||
  (decide (0x60 ≤ c) && decide (c < 0x60 + g.axes)) || (decide (0x70 ≤ c) && decide (c < 0x70 + 2 * g.ioDies))

def listenOk (g : Grade) (n : Nat) : Bool := (List.range 256).all fun c => !n.testBit c || hwCueExists g c

/-- The first check of Table 4-9 that CONFIGURE fails. -/
def State.configureFails (s : State) (t : Nat) : Option Nat :=
  let p0 := hrP 0
  let others := hrs17.filter (· ≠ t)
  let tiles := s.regN p0 0x100
  let com := s.bits256 p0 0x120
  let loc := s.bits256 p0 0x140
  let stream := s.reg p0 0x108
  let clash := fun (off mine : Nat) => others.any fun h => s.bits256 (hrP h) off &&& mine ≠ 0
  if t = 0 ∨ s.pageState (hrP t) ≠ .idle then some 0x20
  else if (others.any fun h => s.regN (hrP h) 0x040 &&& tiles ≠ 0) || s.hr0Groups &&& tiles ≠ 0 then some 0x21
  else if clash 0x050 com || com % 2 ^ 32 ≠ 0 then some 0x22
  else if clash 0x070 loc || 2 ^ s.chip.grade.lockerGranules ≤ loc then some 0x23
  else if 56 < s.regF p0 0x104 6 0 + others.foldl (fun n h => n + s.regF (hrP h) 0x044 6 0) 0 then some 0x24
  else if bit stream 31 && (fld stream 19 0 = 0 || ((List.range 8).filter (· ≠ t)).any fun h =>
      bit (s.reg (hrP h) 0x048) 31 && decide (s.regF (hrP h) 0x048 19 0 = fld stream 19 0)) then some 0x25
  else if !listenOk s.chip.grade (s.bits256 p0 0x160) then some 0x26
  else if 7168 < s.regF p0 0x110 15 0 + others.foldl (fun n h => n + s.regF (hrP h) 0x0C8 31 16) 0 then some 0x27
  else none

def State.setOwner (s : State) (p : PageRef) (h : Nat) : State := s.modPage p fun g => { g with owner := h }

/-- TILE pages follow a new mask; a tile that moves, into it or back to HR0, starts its choice count at 0 (R133, R237). -/
def State.moveTiles (s : State) (t old new : Nat) : State :=
  (List.range 32).foldl (fun s k =>
    if new.testBit k && !old.testBit k then (s.setOwner (tileP k) t).setReg64 (tileP k) 0x088 0
    else if old.testBit k && !new.testBit k then (s.setOwner (tileP k) 0).setReg64 (tileP k) 0x088 0
    else s) s

/-- The effect of CONFIGURE on a target (R133). -/
def State.configureApply (s : State) (t : Nat) : State :=
  let p := hrP t
  let old := s.regN p 0x040
  let oldListen := s.bits256 p 0x0E0
  let listen := s.bits256 (hrP 0) 0x160 ||| 0xFE
  let s1 := ((s.setReg p 0x040 (s.reg (hrP 0) 0x100)).setReg p 0x044 (s.reg (hrP 0) 0x104)).setReg p 0x048 (s.reg (hrP 0) 0x108)
  let s2 := (s1.setReg p 0x09C (s.reg (hrP 0) 0x10C)).setRegF p 0x0C8 31 16 (s.regF (hrP 0) 0x110 15 0)
  let s3 := ((s2.setBits256 p 0x050 (s.bits256 (hrP 0) 0x120)).setBits256 p 0x070 (s.bits256 (hrP 0) 0x140)).setBits256 p 0x0E0 listen
  let s4 := (List.range 256).foldl (fun s c => if listen.testBit c && !oldListen.testBit c then s.setCueCount t c 0 else s) s3
  let s5 := (s4.setOwner p t).moveTiles t old (s.regN (hrP 0) 0x100)
  (s5.modHr t fun r => { r with score := none, pendingScore := none, oldScores := [] }).refreshHr0.updateReflex

/-- CONFIGURE (R133). -/
def execConfigure (r : Requester) (arg : BitVec 24) (s : State) : Host.Outcome State Fault Refusal :=
  done (s.pageCmd r (hrP 0) 0x20 arg fun s _ =>
    let t := arg.toNat % 8
    if s.pageState (hrP 0) ≠ .running then (ansState, s)
    else match s.configureFails t with
      | some c => (ansArg c t, s)
      | none => (ansDone, s.configureApply t))

/-! ## GRANT_PAGE and REVOKE_PAGE (R128 to R131) -/

/-- The pages that move together (Table 4-3). -/
def grantGroup (p : PageRef) : List PageRef :=
  match p.ty with
  | .loop | .pstage | .angle => [⟨.loop, p.inst⟩, ⟨.pstage, p.inst⟩, ⟨.angle, p.inst⟩]
  | .camera | .pfe => [⟨.camera, p.inst⟩, ⟨.pfe, p.inst⟩]
  | _ => [p]

def grantable (p : PageRef) : Bool :=
  match p.ty with
  | .cue => decide (2 ≤ p.inst)
  | .loop | .pstage | .angle | .camera | .pfe | .dma | .weight | .jsl | .eth | .can | .compositor => true
  | _ => false

/-- The page a base names, when it is the first of a span. -/
def State.basePage (s : State) (base : Nat) : Option PageRef :=
  match pageAt s.chip.grade base with
  | some (p, 0) => some p
  | _ => none

/-- The first check of Table 4-9 that moving a page group fails. CUE pages are granted in RUNNING, their state from the end
of boot (R153). -/
def State.moveFails (s : State) (p : PageRef) (grant : Bool) : Option Nat :=
  let g := grantGroup p
  if !grantable p then some 0x30
  else if g.any fun q => (s.page q).lock then some 0x32
  else if g.any fun q => decide (q.ty ≠ .cue) && s.inState q [.armed, .running, .hold, .locked] then some 0x33
  else if g.any fun q => (s.page q).pending.isSome || !(s.page q).quiesces.isEmpty || (decide (q.ty = .cue) && s.cues.waiters.any fun w => decide (w.cue / 256 = q.inst)) then
    some 0x34
  else if g.any fun q => if grant then decide ((s.page q).owner ≠ 0) else decide ((s.page q).owner = 0) then some 0x35
  else none

/-- GRANT_PAGE (R130, R131). -/
def execGrantPage (r : Requester) (arg : BitVec 24) (s : State) : Host.Outcome State Fault Refusal :=
  done (s.pageCmd r (hrP 0) 0x21 arg fun s _ =>
    let t := arg.toNat % 8
    let base := arg.toNat / 16
    if s.pageState (hrP 0) ≠ .running then (ansState, s)
    else match s.basePage (base * 0x1000) with
      | none => (ansArg 0x31 base, s)
      | some p =>
        match s.moveFails p true with
        | some c => (ansArg c base, s)
        | none =>
          if t = 0 ∨ (s.page (hrP t)).owner ≠ t then (ansArg 0x36 base, s)
          else (ansDone, (grantGroup p).foldl (fun s q => s.modPage q fun g =>
            { g with owner := t, lock := arg.toNat.testBit 3 }) s))

/-- REVOKE_PAGE (R130). -/
def execRevokePage (r : Requester) (arg : BitVec 24) (s : State) : Host.Outcome State Fault Refusal :=
  done (s.pageCmd r (hrP 0) 0x22 arg fun s _ =>
    let base := arg.toNat / 16
    if s.pageState (hrP 0) ≠ .running then (ansState, s)
    else if arg.toNat % 16 ≠ 0 then (⟨5, none⟩, s)
    else match s.basePage (base * 0x1000) with
      | none => (ansArg 0x31 base, s)
      | some p => match s.moveFails p false with
        | some c => (ansArg c base, s)
        | none => (ansDone, (grantGroup p).foldl (fun s q => s.setOwner q 0) s))

/-! ## RELEASE (R134) -/

def State.cancelHr (s : State) (h : Nat) : State := s.cancelWaiters fun w => decide (w.hr = h)

/-- RELEASE: the target's waiters are cancelled, a command it has pending is abandoned, and the clearing starts. -/
def execRelease (r : Requester) (arg : BitVec 24) (s : State) : Host.Outcome State Fault Refusal :=
  done (s.pageCmd r (hrP 0) 0x23 arg fun s _ =>
    let t := arg.toNat % 8
    if s.pageState (hrP 0) ≠ .running then (ansState, s)
    else if t = 0 ∨ !s.inState (hrP t) [.idle, .fault] then (ansArg 0x20 t, s)
    else (ansAccepted, (((s.finishAll (hrP t) 3 none).modHr t Hr.unheld).cancelHr t).dropJobs t))

/-- Memory of a homeroom's granules and tiles reads 0 with valid check bits, its tags EMPTY. -/
def State.clearMemoryOf (s : State) (h : Nat) : State :=
  let mine := fun (a : Nat) => match levelAt s.chip.grade a with
    | .tile t _ => decide (s.tileHr t = h)
    | .commons g => s.commonsGranted h g
    | .locker g => s.lockerGranted h g
    | .none => false
  { s with mem := s.mem.filter fun c => !mine c.1,
           sram := { s.sram with poison := s.sram.poison.filter (fun e => !mine (8 * e.1)),
                                 errs := s.sram.errs.filter (fun e => !mine (8 * e.1)),
                                 stale := s.sram.stale.filter (fun e => !mine e.1),
                                 tags := s.sram.tags.filter (fun e => decide (s.tileHr (e.1 / 8192) ≠ h)) } }

/-- The counts and configurations of a Cue block become 0; block 0 holds the homerooms' copies. -/
def State.clearBlock (s : State) (b : Nat) : State :=
  let s1 := { s with cues := { s.cues with
    counts := s.cues.counts.filter fun e => decide (e.1 / 256 ≠ b)
    copies := if b = 0 then [] else s.cues.copies } }
  s1.resetRegs (cueP b) 0x100 0x2FC

/-- RELEASE_COMPLETE (R134): everything of the target is cleared and goes back to HR0; its instance has its reset values but for
PREV, which a transition sets, and the command count, which only power-on reset clears (R95; log entry 147). -/
def execReleaseComplete (s : State) : Host.Outcome State Fault Refusal :=
  match (s.page (hrP 0)).pending with
  | some c =>
    if c.code ≠ 0x23 then done s
    else
      let t := c.arg.toNat % 8
      let s1 := (List.range 256).foldl (fun s b => if (s.page (cueP b)).owner = t then s.clearBlock b else s) s
      let s2 := (s1.clearMemoryOf t).moveTiles t (s.regN (hrP t) 0x040) 0
      let s3 := (allPages s.chip.grade).foldl (fun s p =>
        if (s.page p).owner = t ∧ !(s.page p).lock then s.setOwner p 0 else s) s2
      let s4 := ((s3.resetRegs (hrP t) 0x040 0xFFC).setHr t Hr.atReset).modPage (hrP t) fun g =>
        { Page.atReset with state := .idle, prev := (if g.state = .idle then g.prev else g.state), count := g.count }
      let s5 := { s4 with cues := { s4.cues with copies := s4.cues.copies.filter fun e => decide (e.1 / 256 ≠ t) } }
      done (s5.refreshHr0.updateReflex.finishPending (hrP 0) 2 none)
  | none => done s

/-- VIOLATION_WINDOW_EXPIRY (R126): while ticks do not run a window of 32,000,000 ns ends and its count restarts at 0. -/
def execViolationWindowExpiry (h : Fin 8) (s : State) : Host.Outcome State Fault Refusal :=
  if s.ticking then done s
  else
    let t := (s.hr h.val).windowStart + 32000000
    done ((advanceTo t s).modHr h.val fun r => { r with windowCount := 0, windowStart := t })

/-! ## Universal commands of the HOMEROOM page (Table 4-10, R136) -/

def State.stopHr (s : State) (h : Nat) : State :=
  let s1 := s.stopAllActs h
  (List.range 8).foldl (fun s c => if (s.page (dmaP c)).owner = h then s.dmaStop c else s) (s1.dropJobs h)

def State.hrStopOne (s : State) (h : Nat) : State :=
  if s.inState (hrP h) activeStates then
    ((((s.toState (hrP h) .idle).finishAll (hrP h) 3 none).modHr h Hr.unheld).stopHr h).syncTiles h
  else s

def hrEnable (s : State) (h : Nat) : Ans × State :=
  let r := s.hr h
  if h = 0 then (ansDone, s)
  else match s.pageState (hrP h) with
    | .idle => if r.score.isNone && r.pendingScore.isNone then (ansArg 0x40 0, s) else (ansDone, (s.toState (hrP h) .armed).syncTiles h)
    | .hold =>
      if r.score.isNone && r.pendingScore.isNone then (ansArg 0x40 0, s)
      else (ansDone, (s.toState (hrP h) .running).modHr h fun r => { r with noRelease := true, resumeAtBar := true })
    | _ => (ansState, s)

def hrDisable (s : State) (h : Nat) : Ans × State :=
  if h = 0 then (ansDone, s)
  else if s.inState (hrP h) [.armed, .hold] then (ansDone, ((s.toState (hrP h) .idle).modHr h Hr.unheld).syncTiles h)
  else (ansState, s)

/-- An activation of a homeroom is in progress. -/
def State.hrBusy (s : State) (h : Nat) : Bool :=
  s.allActs.any fun e => decide (e.1 = h) && ((s.part? e.1 e.2).bind (·.act)).isSome

/-- A QUIESCE is in force and what was released has finished: HOLD. -/
def State.hrQuiesceDone (s : State) (h : Nat) : State :=
  if (s.page (hrP h)).quiesces.isEmpty || (s.hr h).holdDue || s.hrBusy h then s
  else ((s.toState (hrP h) .hold).modHr h fun r => { r with noRelease := false }).finishQuiesce (hrP h) 2 none

/-- QUIESCE takes hold. -/
def State.hrHold (s : State) (h : Nat) : State :=
  if (s.hr h).holdDue then (s.modHr h fun r => { r with noRelease := true, holdDue := false }).hrQuiesceDone h else s

/-- QUIESCE: no release from the next Beat boundary, or at once while no ticks run; HOLD once released activations have
finished (Table 4-10, log entry 147). -/
def hrQuiesce (s : State) (h : Nat) : Ans × State :=
  if h = 0 then (ansDone, s)
  else if s.pageState (hrP h) = .running then
    (ansAccepted, s.modHr h fun r => if s.ticking then { r with holdDue := true } else { r with noRelease := true })
  else (ansDone, s)

def hrStop (s : State) (h : Nat) : Ans × State :=
  if h = 0 then (ansDone, (hrs17.foldl (fun s k => s.hrStopOne k) s).stopAllActs 0)
  else (ansDone, s.hrStopOne h)

def hrReset (s : State) (h : Nat) : Ans × State :=
  if h = 0 then (ansDone, s)
  else if s.inState (hrP h) [.idle, .fault] then
    let s1 := (s.modHr h fun r => { r.unheld with score := none, pendingScore := none, oldScores := [] }).cancelHr h
    (ansDone, (((s1.setRegN (hrP h) 0x098 0).toState (hrP h) .idle).syncTiles h).updateReflex)
  else (ansState, s)

/-! ## The CUE page -/

/-- CUE_CFG_WRITE (R151): both halves are checked first; a refused write changes neither. -/
def cueCfgEffect (b j : Nat) (v : Word) (s : State) : State × Bool :=
  let p := cueP b
  let old := s.reg p (0x100 + 4 * j)
  let half := fun (w : Word) (k : Nat) => fld w (16 * k + 15) (16 * k)
  let cue := fun k => 256 * b + 2 * j + k
  let changes := fun k => decide (half old k ≠ half v k)
  let busy := fun k => changes k && s.cues.waiters.any fun w => decide (w.cue = cue k)
  let refuse := fun (c k : Nat) => ((s.countRefusal p).syndrome p c (2 * j + k), false)
  if b = 0 then refuse 3 0
  else if !cfgOk (half v 0) then refuse 2 0
  else if !cfgOk (half v 1) then refuse 2 1
  else if busy 0 then refuse 1 0
  else if busy 1 then refuse 1 1
  else (s.setReg p (0x100 + 4 * j) v, true)

def execCueCfgWrite (r : Requester) (b : BitVec 8) (j : Fin 128) (v : Word) (s : State) : Host.Outcome State Fault Refusal :=
  done (s.guardWrite r (cueP b.toNat) (0x100 + 4 * j.val) fun s _ => cueCfgEffect b.toNat j.val v s)

def State.cancelBlock (s : State) (b : Nat) : State := s.cancelWaiters fun w => decide (w.cue / 256 = b)

/-- CUE_STORAGE_ERROR (R153): the page enters FAULT, its waiters end CANCELLED, the owner's homeroom faults. -/
def execCueStorageError (b idx : BitVec 8) (s : State) : Host.Outcome State Fault Refusal :=
  let p := cueP b.toNat
  if s.pageState p ≠ .running then done s
  else
    let s1 := ((s.toState p .fault).syndrome p 4 idx.toNat).cancelBlock b.toNat
    done (s1.homeroomFault (s.page p).owner 0x43 b.toNat)

def cueStop (s : State) (b : Nat) : Ans × State :=
  if s.pageState (cueP b) = .running then (ansDone, s.cancelBlock b) else (ansDone, s)

def cueReset (s : State) (b : Nat) : Ans × State :=
  if s.inState (cueP b) [.running, .fault] then
    let s1 := (s.cancelBlock b).clearBlock b
    (ansDone, if s.pageState (cueP b) = .fault then s1.toState (cueP b) .running else s1)
  else (ansState, s)

end Sys2Proof.Machine
end

