-- ==== Sys2Proof/Machine/Tempo.lean ====
section
/-!
DEFINITION. The TEMPO page: its commands, Tempo changes, synchronisation state, FSYNC outputs (chapter 2), and the timed
events of Scores.
-/

namespace Sys2Proof.Machine

def State.modTempo (s : State) (f : Tempo → Tempo) : State := { s with tempo := f s.tempo }

/-- The values lie within Table 2-1. -/
def tempoInRange (pulse beats bars : Nat) : Bool :=
  decide (20000 ≤ pulse) && decide (pulse ≤ 125000) && decide (1 ≤ beats) && decide (250000 ≤ beats * pulse) &&
  decide (beats * pulse ≤ 4000000) && decide (1 ≤ bars) && decide (bars ≤ 256) && decide (bars * (beats * pulse) ≤ 1024000000)

def State.staged (s : State) : Nat × Nat × Nat := (s.regN tempoP 0x040, s.regF tempoP 0x044 7 0, s.regF tempoP 0x048 8 0)

/-- A refusal with a syndrome of Table 2-4: code in [15:0], detail in [23:16]. -/
def tempoArg (code detail : Nat) : Ans := ⟨5, some (detail, code)⟩
def tempoState (code : Nat) : Ans := ⟨3, some (0, code)⟩

/-- Makes a Tempo active with its epoch (R42, R74). -/
def State.setActive (s : State) (pulse beats bars e barNo : Nat) : State :=
  let s1 := ((s.setRegN tempoP 0x050 pulse).setRegN tempoP 0x054 beats).setRegN tempoP 0x058 bars
  ((s1.setReg64 tempoP 0x068 e).setRegN tempoP 0x070 barNo).setRegN tempoP 0x074 barNo

/-- FSYNC outputs are held inactive outside RUNNING and HOLD (R58); pending switches are abandoned (R275). -/
def State.ticksStop (s : State) : State :=
  (s.modTempo fun t => { t with ticks := false, fsync := [], fsyncBar := [], nextK := 0, beatDone := false }).abandonAll

def State.restartWindows (s : State) : State :=
  (List.range 8).foldl (fun s h => s.modHr h fun r => { r with windowCount := 0, windowStart := now s }) s

/-- A request of the TEMPO page to the Proctor (R438): 0 none, 1 FERMATA, 2 STOP1. -/
def State.tempoRequest (s : State) (v : Nat) : State := s.setRegF procP 0x0A0 3 2 v

/-! ## Table 2-5 -/

def tempoEnable (s : State) : Ans × State :=
  match s.pageState tempoP with
  | .idle =>
    let (p, b, m) := s.staged
    if !tempoInRange p b m then (tempoArg 1 0, s)
    else
      let bar := m * (b * p)
      let e := (now s + 100000 + bar - 1) / bar * bar
      (ansDone, ((s.setActive p b m e ((e / bar) % 2 ^ 32)).updateReflex.toState tempoP .armed).modTempo fun t =>
        { t with nextK := 0, beatDone := false, ticks := false, quiet := false, quietDue := false, resumeAfter := none })
  | .hold => (ansDone, ((s.toState tempoP .running).tempoRequest 0).modTempo fun t => { t with quiet := true })
  | _ => (ansState, s)

def tempoDisable (s : State) : Ans × State :=
  if s.pageState tempoP ≠ .hold then (ansState, s)
  else if s.anyTorque then (tempoState 5, s)
  else (ansDone, (s.toState tempoP .idle).ticksStop.restartWindows)

def State.anyActs (s : State) : Bool := s.allActs.any fun e => ((s.part? e.1 e.2).bind (·.act)).isSome

/-- A pending SET_TEMPO is dropped; TEMPO_REFUSED is raised where there was one (Table 2-3). Its result is posted beside this. -/
def State.dropChange (s : State) : State :=
  if s.tempo.change.isSome then (s.modTempo fun t => { t with change := none }).raise tempoP 1 else s

/-- A pending change is abandoned with REFUSED_STATE and AXIS_ENABLED (R74). -/
def State.abandonChange (s : State) : State := s.dropChange.finishPending tempoP 3 (some (0, 5))

/-- An axis has become torque-enabled: a pending change of T_pulse is abandoned (R74). -/
def State.torqueTaken (s : State) : State :=
  match s.tempo.change with
  | some c => if c.pulse ≠ s.tPulse then s.abandonChange else s
  | none => s

/-- QUIESCE: FERMATA is asked for at once; releases end at the next Beat boundary, and the page enters HOLD once the released
Parts have finished. -/
def tempoQuiesce (s : State) : Ans × State :=
  if s.pageState tempoP = .running then (ansAccepted, (s.modTempo fun t => { t with quietDue := true }).tempoRequest 1)
  else (ansDone, s)

/-- A QUIESCE is in force and what was released has finished: HOLD. -/
def State.tempoQuiesceDone (s : State) : State :=
  if (s.page tempoP).quiesces.isEmpty || s.tempo.quietDue || s.anyActs then s
  else (if s.pageState tempoP = .running then s.toState tempoP .hold else s).finishQuiesce tempoP 2 none

/-- QUIESCE of the TEMPO page and of the homerooms takes hold at a Beat boundary, before the releases of that boundary. -/
def State.quiesceBeat (s : State) : State :=
  let s1 := if s.tempo.quietDue then (s.modTempo fun t => { t with quiet := true, quietDue := false }).tempoQuiesceDone else s
  hrs17.foldl (fun s h => s.hrHold h) s1

/-- STOP: activations stop, STOP1 is asked for, ticks go on until no axis is torque-enabled. -/
def tempoStop (s : State) : Ans × State :=
  match s.pageState tempoP with
  | .armed => (ansDone, (s.toState tempoP .idle).ticksStop)
  | .running | .hold =>
    let s0 := s.dropChange.modTempo fun t => { t with quiet := false, quietDue := false }
    let s1 := ((List.range 8).foldl (fun s h => s.stopAllActs h) s0).tempoRequest 2
    if s.anyTorque then (ansAccepted, s1.modTempo fun t => { t with stopping := true })
    else (ansDone, (s1.toState tempoP .idle).ticksStop.restartWindows)
  | _ => (ansDone, s)

/-- RESET_PAGE restores every RW register except TEMPO_SYNC. -/
def tempoReset (s : State) : Ans × State :=
  if !s.inState tempoP [.idle, .fault] then (ansState, s)
  else if s.pageState tempoP = .fault && !s.tempo.oscOk then (ansState, s)
  else
    let s1 := ((s.resetRegs tempoP 0x040 0x04C).resetRegs tempoP 0x07C 0x07C).resetRegs tempoP 0x084 0x12C
    (ansDone, if s.pageState tempoP = .fault then s1.toState tempoP .idle else s1)

/-- SET_TEMPO (R73). -/
def execSetTempo (r : Requester) (arg : BitVec 24) (s : State) : Host.Outcome State Fault Refusal :=
  done (s.pageCmd r tempoP 0x10 arg fun s _ =>
    let (p, b, m) := s.staged
    if !s.ticking then (ansState, s)
    else if !tempoInRange p b m then (tempoArg 1 0, s)
    else if p ≠ s.tPulse ∧ s.anyTorque then (tempoState 5, s)
    else (ansAccepted, s.modTempo fun t => { t with change := some ⟨p, b, m, now s, false⟩ }))

/-- The first failing check of a Tempo change, as a syndrome and a detail (R73, Table 2-4). -/
def State.changeFails (s : State) (c : TempoChange) : Option (Nat × Nat) :=
  let scores := (List.range 8).flatMap fun h => ((s.hr h).score.toList ++ (s.hr h).pendingScore.toList).map fun x => (h, x)
  match scores.findSome? fun e => match s.testUnder e.1 c e.2.parts with
    | .error (why, _) => some (if why = 7 then (3, e.1) else (2, e.1))
    | .ok _ => none with
  | some e => some e
  | none =>
    if bit (s.reg rubricP 0x078) 0 && decide (1000 * s.regF rubricP 0x068 23 0 < c.beats * c.pulse) then some (4, 0)
    else match (List.range s.chip.grade.cameras).find? fun n =>
        let f := s.reg tempoP (0x100 + 4 * n)
        decide (c.bars * (c.beats * c.pulse) ≤ 1000 * (fld f 23 8 + fld f 31 24)) with
      | some n => some (6, n)
      | none => none

/-- SET_TEMPO_CHECK_DONE (R73): the checks of an accepted change complete. -/
def execSetTempoCheckDone (s : State) : Host.Outcome State Fault Refusal :=
  match s.tempo.change with
  | none => done s
  | some c =>
    if c.checked then done s
    else match s.changeFails c with
      | some (code, detail) =>
        done (s.dropChange.finishPending tempoP 5 (some (detail, code)))
      | none => done (s.modTempo fun t => { t with change := some { c with checked := true } })

/-- Step 1 of R45: a pending change takes effect at the first Bar boundary at least 3 old Beats after acceptance (R74). -/
def State.applyChange (s : State) : State :=
  match s.tempo.change with
  | none => s
  | some c =>
    if !c.checked || decide (now s < c.acceptedAt + 3 * s.tBeat) then s
    else if c.pulse ≠ s.tPulse ∧ s.anyTorque then s.abandonChange
    else
      let s1 := s.setActive c.pulse c.beats c.bars (now s) (s.regN tempoP 0x074)
      let s2 := (s1.modTempo fun t => { t with change := none, nextK := 0 }).updateReflex
      (s2.finishPending tempoP 2 none).raise tempoP 0

/-- STEP_MTN (R55): adds the staged offset. The Metronome never decreases (R48): a negative offset holds it. -/
def execStepMtn (r : Requester) (arg : BitVec 24) (s : State) : Host.Outcome State Fault Refusal :=
  done (s.pageCmd r tempoP 0x11 arg fun s _ =>
    if s.pageState tempoP ≠ .idle then (ansState, s)
    else
      let v := sext 64 (s.reg64 tempoP 0x084)
      (ansDone, if 0 ≤ v then { s with mtn := s.mtn + BitVec.ofNat 64 v.toNat } else s))

/-- TEMPO_SLEW_WRITE (R48): saturates at ±200,000 ppb. -/
def execTempoSlewWrite (r : Requester) (v : Word) (s : State) : Host.Outcome State Fault Refusal :=
  done (s.guardWrite r tempoP 0x07C fun s _ =>
    let x := sext 32 v.toNat
    let y := clampInt (-200000) 200000 x
    let s1 := s.setRegN tempoP 0x07C (wrapBits 32 y)
    (if x = y then s1 else s1.raise tempoP 3, true))

/-- SYNC_HOLDOVER_TIMEOUT (R49): three sync intervals without a message. The run of small offsets is broken in every state. -/
def execSyncHoldoverTimeout (s : State) : Host.Outcome State Fault Refusal :=
  let s1 := s.modTempo fun t => { t with syncGood := 0 }
  done (if s.regF tempoP 0x080 1 0 = 2 then s1.setSync 3 else s1)

/-- TEMPO_EPOCH_REACHED (R55, R46): ticks start at E, or resume on the old grid after TACET. -/
def execTempoEpochReached (s : State) : Host.Outcome State Fault Refusal :=
  if s.pageState tempoP ≠ .armed then done s
  else
    let start := fun (s : State) => ((s.toState tempoP .running).tempoRequest 0)
    let s := s.modTempo fun t => { t with quietDue := false }
    match s.tempo.resumeAfter with
    | none => done (start ((advanceTo s.epoch s).modTempo fun t => { t with ticks := true, nextK := 0, beatDone := false, quiet := false }))
    | some w =>
      let per := s.nBeat * s.mBar
      let bar := s.tBar
      let j := if bar = 0 then 0 else (w + 100000 - s.epoch + bar - 1) / bar
      let s1 := advanceTo (s.epoch + j * bar) s
      let s2 := s1.setRegN tempoP 0x074 (s.regN tempoP 0x070 + j)
      done (start (s2.modTempo fun t => { t with ticks := true, nextK := j * per, beatDone := false, resumeAfter := none, quiet := false }))

/-! ## FSYNC (R58) -/

/-- At a Bar boundary the outputs whose DIV it meets get the instant they assert; EN counts at that instant (log entry 145). -/
def State.planFsync (s : State) : State :=
  (List.range s.chip.grade.cameras).foldl (fun s n =>
    let f := s.reg tempoP (0x100 + 4 * n)
    if s.regN tempoP 0x074 % (fld f 7 4 + 1) = 0 then
      s.modTempo fun t => { t with fsyncBar := t.fsyncBar ++ [(n, now s + 1000 * fld f 23 8)] }
    else s) s

/-- Removes the first entry of an output from a list. -/
def dropFirst (n : Nat) : List (Nat × Nat) → List (Nat × Nat)
  | [] => []
  | e :: l => if e.1 = n then l else e :: dropFirst n l

/-- FSYNC_ASSERT (R58). -/
def execFsyncAssert (n : Fin 12) (s : State) : Host.Outcome State Fault Refusal :=
  match s.tempo.fsyncBar.find? fun e => decide (e.1 = n.val) with
  | none => done s
  | some e =>
    let f := s.reg tempoP (0x100 + 4 * n.val)
    if s.ticking && bit f 0 then
      done ((advanceTo e.2 s).modTempo fun t =>
        { t with fsyncBar := dropFirst n.val t.fsyncBar, fsync := dropFirst n.val t.fsync ++ [(n.val, e.2 + 1000 * fld f 31 24)] })
    else done (s.modTempo fun t => { t with fsyncBar := dropFirst n.val t.fsyncBar })

/-- FSYNC_DEASSERT (R58). -/
def execFsyncDeassert (n : Fin 12) (s : State) : Host.Outcome State Fault Refusal :=
  match s.tempo.fsync.find? fun e => decide (e.1 = n.val) with
  | none => done s
  | some e => done ((advanceTo e.2 s).modTempo fun t => { t with fsync := dropFirst n.val t.fsync })

/-- Level of FSYNCn at its ball: active while asserted and EN is 1, with its polarity (R58, table of TEMPO_FSYNCn). -/
def State.fsyncLevel (s : State) (n : Nat) : Bool :=
  let active := (s.tempo.fsync.any fun e => decide (e.1 = n)) && bit (s.reg tempoP (0x100 + 4 * n)) 0
  active != bit (s.reg tempoP (0x100 + 4 * n)) 1

/-! ## Timed events of activations -/

/-- TRIGGER_HOLD_EXPIRY (R61). -/
def execTriggerHoldExpiry (h : Fin 8) (i : Nat) (s : State) : Host.Outcome State Fault Refusal :=
  match s.part? h.val i with
  | some p =>
    (match p.held, p.lastRelease with
     | true, some t =>
       let s1 := advanceTo (t + (s.period p + 1) / 2) s
       done ((s1.setPart h.val i { p with held := false }).tryTrigger h.val i true)
     | _, _ => done s)
  | none => done s

/-- The activation of a Part, while it is neither late under SKIP nor being stopped. -/
def State.liveAct (s : State) (h i : Nat) : Option Activation :=
  ((s.part? h i).bind (·.act)).filter fun a => !a.skipping && !a.stopping

/-- DEADLINE_EXPIRY (R64). -/
def execDeadlineExpiry (h : Fin 8) (i : Nat) (s : State) : Host.Outcome State Fault Refusal :=
  match s.liveAct h.val i with
  | some a => done ((advanceTo a.deadline s).takeLate h.val i 1)
  | none => done s

/-- BUDGET_EXPIRY (R64): the activation has used BUDGET_NS of tile time. -/
def execBudgetExpiry (h : Fin 8) (i : Nat) (at' : Dword) (s : State) : Host.Outcome State Fault Refusal :=
  match s.liveAct h.val i with
  | some _ => done ((advanceTo at'.toNat s).takeLate h.val i 2)
  | none => done s

/-- SKIP_DEADLINE_EXPIRY (R71): stopped with outcome SKIP_FAIL and cause DEADLINE (DESIGN CHOICE, log entry 146). -/
def execSkipDeadlineExpiry (h : Fin 8) (i : Nat) (s : State) : Host.Outcome State Fault Refusal :=
  match s.part? h.val i with
  | some p =>
    (match p.act with
     | some a =>
       if a.skipping && !a.stopping then
         let s1 := (advanceTo (a.deadline + s.period p) s).lateRecord h.val i 4 1
         let s2 := if p.safety then s1.lateNote h.val i p else s1
         done (s2.stopAct h.val i)
       else done s
     | none => done s)
  | none => done s

/-- NO_TRIGGER_EXPIRY (R66): a late record, no late outcome; again after every further 2 × P (DESIGN CHOICE, log entry 146). -/
def execNoTriggerExpiry (h : Fin 8) (i : Nat) (s : State) : Host.Outcome State Fault Refusal :=
  match s.part? h.val i with
  | some p =>
    if p.trigEn && s.releasing h.val && !p.withdrawn then
      let t := p.idleSince + 2 * s.period p
      let s1 := (advanceTo t s).setPart h.val i { p with idleSince := t }
      let s2 := s1.lateRecord h.val i 5 4
      done (if p.safety then s2.lateNote h.val i p else s2)
    else done s
  | none => done s

end Sys2Proof.Machine
end

