-- ==== Sys2Proof/Machine/PowerStage.lean ====
section
/-!
DEFINITION. The commands of Power Stage Ports and ADC blocks (sections 11.1 to 11.3), the links of the I/O dies (R21, R22),
and the PSTAGE page.
-/

namespace Sys2Proof.Machine

/-! ## Duty writes and update points (R356) -/

/-- A write of Loop Engine n with OUT = 0: every switch off, the page goes to ARMED. -/
def State.dutyOff (s : State) (n : Nat) : State :=
  let p := pstageP n
  if s.pageState p = .fault then s
  else
    let s1 := ((s.setRegN p 0x080 0).setRegN p 0x084 0).modPort n fun x => { x with pending := none }
    if s1.pageState p = .running then (s1.setRegF p 0x088 2 0 0).toState p .armed else s1

/-- A write of Loop Engine n with OUT = 1: it waits for its update point. In FAULT, and when a link
loss holds the port in ALL_OFF, it ignores it (R366, R22). -/
def State.dutyWrite (s : State) (n a b c : Nat) : State :=
  if s.inState (pstageP n) [.armed, .running] && !(s.port n).link then
    s.modPort n fun x => { x with pending := some ⟨word (a + b * 0x10000), word (0x10000 + c), now s⟩ }
  else s

/-- PWM_UPDATE_POINT (R356): the first valley at least 1 µs after the write. -/
def execPwmUpdatePoint (n : Fin 16) (s : State) : Host.Outcome State Fault Refusal :=
  let p := pstageP n.val
  match (s.port n.val).pending with
  | none => done s
  | some w =>
    if !s.inState p [.armed, .running] ∨ (s.port n.val).link ∨ s.tPwm n.val = 0 then done s
    else
      let t := w.time + 1000
      let x := s.carrierAt n.val t
      let s1 := advanceTo (if x = 0 then t else t + (s.tPwm n.val - x)) s
      let s2 := (((s1.setReg p 0x080 w.ab).setReg p 0x084 w.c).setRegF p 0x088 2 0 1).modPort n.val fun y => { y with pending := none }
      let s3 := if s2.pageState p = .armed then s2.toState p .running else s2
      let dropped := ((List.range 6).filter (s3.droppedPulse n.val)).length * 2 ^ s3.regF p 0x040 1 0
      done (s3.bumpF p 0x0A0 15 0 dropped)

/-! ## Raw faults and comparators -/

/-- GATE_DRIVER_FAULT (R361): a raw input of a switch changes; `levels` are the port's raw and comparator levels then. An
assertion within blanking waits for BLANKING_EXPIRY. -/
def execGateDriverFault (n : Fin 16) (sw : Fin 6) (levels : BitVec 11) (time : Dword) (s : State) : Host.Outcome State Fault Refusal :=
  let p := pstageP n.val
  let s1 := (advanceTo time.toNat s).setReg p 0x09C (levels.zeroExtend 32 &&& 0x73F)
  if !levels.getLsbD sw.val then done s1
  -- how long the switch has been on is judged by the levels before this edge
  else match s.onSince n.val sw.val time.toNat with
    | some d => if d < s1.regF p 0x04C 12 0 then done s1 else done (s1.legFault n.val 2 (sw.val / 2) sw.val time.toNat)
    | none => done (s1.legFault n.val 2 (sw.val / 2) sw.val time.toNat)

/-- BLANKING_EXPIRY (R361): a raw input still asserted at the end of its blanking is detected. -/
def execBlankingExpiry (n : Fin 16) (sw : Fin 6) (time : Dword) (s : State) : Host.Outcome State Fault Refusal :=
  let s1 := advanceTo time.toNat s
  if bit (s1.reg (pstageP n.val) 0x09C) sw.val then done (s1.legFault n.val 2 (sw.val / 2) sw.val time.toNat) else done s1

/-- OC_COMPARATOR_TRIP (R362). The comparators are never blanked. -/
def execOcComparatorTrip (n : Fin 16) (phase : Fin 3) (levels : BitVec 11) (time : Dword) (s : State) : Host.Outcome State Fault Refusal :=
  let s1 := (advanceTo time.toNat s).setReg (pstageP n.val) 0x09C (levels.zeroExtend 32 &&& 0x73F)
  if levels.getLsbD (8 + phase.val) then done (s1.legFault n.val 1 phase.val 0 time.toNat) else done s1

/-- FAULT_WINDOW_EXPIRY (R365): the port applies ASC or ALL_OFF. -/
def execFaultWindowExpiry (n : Fin 16) (s : State) : Host.Outcome State Fault Refusal :=
  let p := pstageP n.val
  match (s.port n.val).window with
  | none => done s
  | some t0 =>
    let s1 := advanceTo (t0 + 1000) s
    let sw := s1.regF p 0x08C 27 24
    if s1.pageState p = .fault ∧ bit (s1.reg p 0x040) 4 ∧ (sw % 2 = 0 ∨ sw = 0xF) then
      let s2 := ((s1.setRegF p 0x088 2 0 3).setReg p 0x08C (setBit (s1.reg p 0x08C) 20 true)).raise p 2
      done ((s2.modPort n.val fun x => { x with window := none, held := x.held.filter (fun k => decide (k % 2 = 1)), ascSince := some (t0 + 1000) }).portNote n.val)
    else done ((s1.allOff n.val).portNote n.val)

/-- ASC_TIMEOUT (R365). -/
def execAscTimeout (n : Fin 16) (s : State) : Host.Outcome State Fault Refusal :=
  let p := pstageP n.val
  match (s.port n.val).ascSince with
  | none => done s
  | some t =>
    if s.pageState p = .fault ∧ s.regF p 0x088 2 0 = 3 then
      done ((advanceTo (t + 1000000 * s.regF p 0x058 15 0) s).allOff n.val)
    else done s

/-! ## Links of the I/O dies -/

/-- IO_LINK_DOWN (R21): every unit of the die becomes Excused and the Proctor is told. -/
def execIoLinkDown (d : Fin 2) (s : State) : Host.Outcome State Fault Refusal :=
  if s.chip.grade.ioDies ≤ d.val ∨ s.lvl.linkDown.contains d.val then done s
  else
    let s1 := { s with lvl := { s.lvl with linkDown := s.lvl.linkDown ++ [d.val] } }
    done ((s1.note 3 0 (80 + d.val) 0xFFFF 0x15).excuse (dieUnits d.val))

/-- IO_LINK_WATCHDOG_EXPIRY (R22, R366): every port of the die goes to ALL_OFF and stays there until reset. -/
def execIoLinkWatchdogExpiry (d : Fin 2) (s : State) : Host.Outcome State Fault Refusal :=
  if s.chip.grade.ioDies ≤ d.val then done s
  else done ((List.range 8).foldl (fun s k => s.linkFault (8 * d.val + k) (now s)) s)

/-! ## The PSTAGE page (Tables 11-2 and 11-3) -/

def State.pstageCfgOk (s : State) (n : Nat) : Bool :=
  let p := pstageP n
  let within := fun (lo hi x : Nat) => decide (lo ≤ x) && decide (x ≤ hi)
  let dead := s.regF p 0x044 12 0
  decide (s.regF p 0x040 1 0 < 3) && within 20 5000 dead && decide (dead % 2 = 0) && decide (s.regF p 0x048 12 0 ≤ 5000) &&
  within 100 4000 (s.regF p 0x04C 12 0) && within 100 1000 (s.regF p 0x054 10 0) && decide (1 ≤ s.regF p 0x058 15 0) &&
  decide (s.regF p 0x050 13 0 < s.regF p 0x050 29 16)

/-- T_pwm is at least 10 µs and a multiple of 4 ns, and holds dead time and minimum pulse. -/
def State.pstageTimingOk (s : State) (n : Nat) : Bool :=
  let p := pstageP n
  let d := 2 ^ s.regF p 0x040 1 0
  decide (10000 * d ≤ s.tPulse) && decide (s.tPulse % (4 * d) = 0) &&
  decide (2 * s.regF p 0x044 12 0 + s.regF p 0x048 12 0 < s.tPwm n)

def pstageEnable (s : State) (n : Nat) : Ans × State :=
  let p := pstageP n
  if s.pageState p ≠ .idle then (ansState, s)
  else if !s.pstageCfgOk n then (ansArg 1 0, s)
  else if !s.pstageTimingOk n then (ansArg 7 0, s)
  else crcGate s p (ansDone, s.toState p .armed)

def pstageDisable (s : State) (n : Nat) : Ans × State :=
  if s.pageState (pstageP n) = .armed then (ansDone, s.toState (pstageP n) .idle) else (ansState, s)

def pstageStop (s : State) (n : Nat) : Ans × State :=
  let p := pstageP n
  if s.inState p [.armed, .running] then (ansDone, ((s.dutyOff n).setRegF p 0x088 2 0 (if (s.port n).link then 2 else 0)).toState p .idle) else (ansDone, s)

/-- RESET_PAGE in FAULT, unless RESET_BLOCKED. -/
def pstageReset (s : State) (n : Nat) : Ans × State :=
  let p := pstageP n
  if s.pageState p ≠ .fault then (ansState, s)
  else if s.reg p 0x09C ≠ 0 ∨ s.regF p 0x088 2 0 = 3 ∨ s.torque n ∨ s.regF p 0x08C 31 28 = 4 ∨ (s.port n).link then (ansStateSyn 9 0, s)
  else
    let s1 := ((s.resetRegs p 0x080 0x098).setPort n Port.atReset).toState p .idle
    (ansDone, s1.setReg (adcP (n / 8)) 0x2AC (setBit (s1.reg (adcP (n / 8)) 0x2AC) (8 + n % 8) false))

/-- TEST_PATH (R370): its outcome comes with COMMAND_COMPLETION. -/
def execTestPath (r : Requester) (n : Fin 16) (arg : BitVec 24) (s : State) : Host.Outcome State Fault Refusal :=
  done (s.pageCmd r (pstageP n.val) 0x10 arg fun s _ =>
    if s.pageState (pstageP n.val) ≠ .idle then (ansState, s)
    else (ansAccepted, s))

/-- The end of TEST_PATH: the paths that failed, raw in [5:0], comparators in [10:8]. The Proctor gets the result: TEST_FAIL, or a note
of class 0 where every path passed (R370; log entry 90). -/
def State.testPathDone (s : State) (n failed : Nat) : State :=
  let p := pstageP n
  let bits := failed % 0x800 &&& 0x73F
  let s1 := if bits = 0 then (s.finishPending p 2 none).note 0 0 n (2 ^ n) 15 else (s.finishPending p 5 (some (8, bits))).note 15 0 n (2 ^ n) bits
  s1.raise p 3

/-! ## The ADC page -/

/-- Current of phase x of an axis (R360). -/
def State.phaseCurrent (s : State) (n x : Nat) : Int :=
  let p := adcP (n / 8)
  let c := 3 * (n % 8) + x
  clampInt (-0x80000000) 0x7FFFFFFF
    (((s.regF p (0x200 + 4 * c) 13 0 : Int) - s.regF p (0x080 + 4 * c) 13 0) * sext 32 (s.regN p (0x0E0 + 4 * c)))

/-- The axis's latest sample fails the check of R360. -/
def State.sampleFails (s : State) (n : Nat) : Bool :=
  let p := adcP (n / 8)
  let codes := (List.range 3).map fun x => s.regF p (0x200 + 4 * (3 * (n % 8) + x)) 13 0
  let sum := s.phaseCurrent n 0 + s.phaseCurrent n 1 + s.phaseCurrent n 2
  decide ((s.regN p 0x040 : Int) < sum.natAbs) || codes.any fun c => c = 0 || c = 16383

/-- CALIBRATE adds a sample. -/
def State.calibSample (s : State) (d : Nat) : State :=
  match s.calib d with
  | none => s
  | some c =>
    if 256 ≤ c.count then s
    else s.setCalib d (some { c with
      count := c.count + 1
      sums := (List.range 24).map fun k => c.sums.getD k 0 + s.regF (adcP d) (0x200 + 4 * k) 13 0 })

/-- ADC_SAMPLE (R359): the codes of the die's 24 current channels and 8 general inputs at a valley. -/
def execAdcSample (d : Fin 2) (codes : List (BitVec 14)) (time : Dword) (s : State) : Host.Outcome State Fault Refusal :=
  let p := adcP d.val
  if s.pageState p ≠ .running ∨ !s.ticking then done s
  else
    let code := fun (k : Nat) => (codes.getD k 0).toNat
    let s1 := advanceTo time.toNat s
    let s2 := (List.range 24).foldl (fun s k => s.setRegN p (0x200 + 4 * k) (code k)) s1
    let s3 := (List.range 8).foldl (fun s k => s.setRegN p (0x280 + 4 * k) (code (24 + k))) s2
    let sat := (List.range 24).foldl (fun m k => if code k = 0 ∨ code k = 16383 then m + 2 ^ k else m) 0
    let s4 := (s3.setReg64 p 0x2A0 time.toNat).setReg p 0x2A8 (s3.reg p 0x2A8 ||| word sat)
    let s5 := (List.range 8).foldl (fun s k =>
      let n := 8 * d.val + k
      if s.inState (pstageP n) [.armed, .running] then
        let before := bit (s.reg p 0x2AC) k
        let bad := s.sampleFails n
        let t := s.setReg p 0x2AC (setBit (s.reg p 0x2AC) k bad)
        if before && bad then t.senseFault n time.toNat else t
      else s.setReg p 0x2AC (setBit (s.reg p 0x2AC) k false)) s4
    done (s5.calibSample d.val)

/-- The PSTAGE page of an axis is in ARMED or RUNNING. -/
def State.axisActive (s : State) (n : Nat) : Bool := s.inState (pstageP n) [.armed, .running]

/-- CALIBRATE (R372). -/
def execCalibrate (r : Requester) (d : Fin 2) (arg : BitVec 24) (s : State) : Host.Outcome State Fault Refusal :=
  done (s.pageCmd r (adcP d.val) 0x10 arg fun s _ =>
    if s.pageState (adcP d.val) ≠ .running then (ansState, s)
    else if (List.range 8).any fun k => arg.toNat.testBit k && s.axisActive (8 * d.val + k) then (ansStateSyn 1 0, s)
    else (ansAccepted, s.setCalib d.val (some ⟨arg.toNat % 256, 0, []⟩)))

/-- A named axis became active: CALIBRATE posts REFUSED_STATE. -/
def State.calibAbort (s : State) : State :=
  [0, 1].foldl (fun s d => match s.calib d with
    | none => s
    | some c =>
      if (List.range 8).any fun k => c.mask.testBit k && s.axisActive (8 * d + k) then
        (s.setCalib d none).finishPending (adcP d) 3 (some (1, 0))
      else s) s

/-- The end of CALIBRATE at a Beat boundary. -/
def State.calibBeat (s : State) : State :=
  [0, 1].foldl (fun s d => match s.calib d with
    | none => s
    | some c =>
      let p := adcP d
      if c.count < 256 then s
      else if !s.crcMatches p then (s.setCalib d none).finishPending p 5 (some (2, 0))
      else
        let s1 := (List.range 24).foldl (fun s k =>
          if c.mask.testBit (k / 3) then s.setRegN p (0x080 + 4 * k) ((c.sums.getD k 0 + 128) / 256) else s) s
        let crc := s1.liveCrc p
        ((s1.modPage p fun g => { g with cfgCrc := crc, writes := g.writes + 1 }).setCalib d none).finishPending p 2 none) s

/-- A write to ADC_OFFc or ADC_GAINc (R371). -/
def adcWrite (d off : Nat) (v : Word) (s : State) : State × Bool :=
  let p := adcP d
  let c := if off < 0x0E0 then (off - 0x080) / 4 else (off - 0x0E0) / 4
  if 0x080 ≤ off ∧ off < 0x140 ∧ s.axisActive (8 * d + c / 3) then ((s.countRefusal p).syndrome p 1 0, false)
  else s.plainWrite p off v

end Sys2Proof.Machine
end

