-- ==== Sys2Proof/Machine/Angle.lean ====
section
/-!
DEFINITION. Angle Trackers (section 11.4): toothed wheels, quadrature, step and direction, Joint Sensor Link samples, angle
events, and the ANGLE page.
-/

namespace Sys2Proof.Machine

def State.trk (s : State) (n : Nat) : Tracker := tabGet Tracker.atReset s.trackers n
def State.setTrk (s : State) (n : Nat) (x : Tracker) : State := { s with trackers := tabSet Tracker.atReset s.trackers n x }
def State.modTrk (s : State) (n : Nat) (f : Tracker → Tracker) : State := s.setTrk n (f (s.trk n))

def turn : Int := 0x100000000

/-! ## Fields -/

/-- SOURCE: 0 ABZ, 1 TOOTHED, 2 JSL, 3 STEP_DIR. -/
def State.angSource (s : State) (n : Nat) : Nat := s.regF (angleP n) 0x040 1 0
def State.angDir (s : State) (n : Nat) : Int := if bit (s.reg (angleP n) 0x040) 4 then -1 else 1
def State.angN (s : State) (n : Nat) : Nat := s.regF (angleP n) 0x044 7 0
def State.angGap (s : State) (n : Nat) : Nat := s.regF (angleP n) 0x044 9 8
def State.angFilt (s : State) (n : Nat) : Nat := s.regF (angleP n) 0x04C 9 0

/-- SYNC: 0 SEARCH, 1 PRESYNC, 2 SYNC, 3 HALT. -/
def State.angSync (s : State) (n : Nat) : Nat := s.regF (angleP n) 0x0E0 2 0
def State.tooth (s : State) (n : Nat) : Nat := s.regF (angleP n) 0x0E0 23 16
def State.flagged (s : State) (n : Nat) : Bool := bit (s.reg (angleP n) 0x0E0) 8

/-- Enters a synchronisation state, shown in ANG_STATE and PAGE_STATE.SUBSTATE. -/
def State.setAngSync (s : State) (n v : Nat) : State :=
  let s1 := (s.setRegF (angleP n) 0x0E0 2 0 v).modPage (angleP n) fun g => { g with substate := v }
  if v = 2 ∧ s.angSync n ≠ 2 ∧ s.angSync n ≠ 3 then s1.raise (angleP n) 0 else s1

def State.setFlagged (s : State) (n : Nat) (b : Bool) : State := s.setReg (angleP n) 0x0E0 (setBit (s.reg (angleP n) 0x0E0) 8 b)

/-! ## Wheel geometry (R377, R378) -/

/-- Angle of tooth i. -/
def State.toothAngle (s : State) (n i : Nat) : Int :=
  ((s.regN (angleP n) 0x048 : Int) + ((i * 0x100000000 / s.angN n : Nat) : Int)) % turn

/-- The tooth that follows tooth i in the direction of DIR, and whether it ends the gap. -/
def State.nextTooth (s : State) (n i : Nat) : Nat × Bool :=
  let top := s.angN n - s.angGap n - 1
  if s.angDir n = 1 then (if i = top then (0, true) else (i + 1, false))
  else (if i = 0 then (top, true) else (i - 1, false))

/-- The tooth that ends the gap. -/
def State.firstTooth (s : State) (n : Nat) : Nat := if s.angDir n = 1 then 0 else s.angN n - s.angGap n - 1

/-- Angular distance from tooth i to the next one. -/
def State.toothSpan (s : State) (n i : Nat) : Int := ((s.toothAngle n (s.nextTooth n i).1 - s.toothAngle n i) * s.angDir n) % turn

/-- The prediction P after tooth i. -/
def State.prediction (s : State) (n : Nat) : Nat :=
  (s.trk n).interval * if (s.nextTooth n (s.tooth n)).2 then s.angGap n + 1 else 1

/-- Angle of a JSL tracker from its latest two good samples (R387). -/
def jslPos (x : Tracker) (t : Nat) : Int :=
  match x.samples with
  | (a, ta) :: (b, tb) :: _ => if ta = tb then a else a + (a - b) * ((t : Int) - ta) / ((ta : Int) - tb)
  | [(a, _)] => a
  | [] => x.pos

/-- The angle at a Metronome value, counted over whole turns (R376, R377, R384 to R387). -/
def State.trackerPos (s : State) (n t : Nat) : Int :=
  let x := s.trk n
  match s.angSource n with
  | 1 =>
    if s.angSync n = 3 ∨ s.angSync n = 0 then x.pos
    else
      let p := s.prediction n
      if p = 0 then x.pos else x.pos + s.angDir n * (s.toothSpan n (s.tooth n) * (min (t - x.last) (3 * p / 2) : Nat) / (p : Int))
  | 2 => jslPos x t
  | _ => x.pos

/-! ## Events (R388, R389) -/

/-- A log record (ANG_LOGr). -/
def State.angLog (s : State) (n e outcome count : Nat) (w1 : Word) : State :=
  let p := angleP n
  let k := s.regF p 0x180 2 0
  let base := 0x100 + 16 * k
  ((((s.setRegN p base (e + outcome * 0x10 + count % 0x10000 * 0x100)).setReg p (base + 4) w1).setReg64 p (base + 8) (now s)).setRegN p
    0x180 ((k + 1) % 8))

/-- A slot's registers in force: those of the latest Pulse boundary. -/
def State.evtAngle (s : State) (n e : Nat) : Word := tabGet 0 (s.trk n).slots (2 * e)
def State.evtCtl (s : State) (n e : Nat) : Word := tabGet 0 (s.trk n).slots (2 * e + 1)

/-- A slot fires with an outcome. -/
def State.fireSlot (s : State) (n e outcome : Nat) : State :=
  let p := angleP n
  let c := s.evtCtl n e
  let s1 := s.signalFor (s.page p).owner (fld c 15 0)
  let s2 := (s1.angLog n e outcome (s.tooth n) (s.evtAngle n e)).raise p 4
  let s3 := s2.modTrk n fun x =>
    { x with fired := x.fired ++ [e], firedCount := x.firedCount + 1, deferred := x.deferred.filter fun k => decide (k ≠ e) }
  if bit c 29 then s3
  else
    let s4 := s3.modTrk n fun x => { x with slots := tabSet 0 x.slots (2 * e + 1) (setBit c 31 false) }
    if s4.reg p (0x064 + 8 * e) = c then s4.setReg p (0x064 + 8 * e) (setBit c 31 false) else s4

/-- A deferred event is cancelled. -/
def State.cancelSlot (s : State) (n e : Nat) : State :=
  ((s.angLog n e 4 (s.tooth n) (s.evtAngle n e)).raise (angleP n) 5).modTrk n fun x =>
    { x with deferred := x.deferred.filter fun k => decide (k ≠ e) }

def State.cancelDeferred (s : State) (n : Nat) : State := (s.trk n).deferred.foldl (fun s e => s.cancelSlot n e) s

def State.fireDeferred (s : State) (n : Nat) : State := (s.trk n).deferred.foldl (fun s e => s.fireSlot n e 3) s

/-- When the slot's angle is reached in the present interval; none: it is not. -/
def State.slotDue (s : State) (n e : Nat) : Option Nat :=
  let x := s.trk n
  let a : Int := (s.evtAngle n e).toNat
  match s.angSource n with
  | 1 =>
    let span := s.toothSpan n (s.tooth n)
    let d := ((a - x.pos) * s.angDir n) % turn
    if d < span then some (x.last + ((d * s.prediction n + span - 1) / span).toNat) else none
  | 2 =>
    let w : Int × Int := match x.samples with
      | (a1, t1) :: (a0, t0) :: _ => (a1 - a0, (t1 : Int) - t0)
      | _ => (0, 1)
    if w.1 = 0 then none
    else
      let d := if 0 < w.1 then (a - x.pos - 1) % turn + 1 else (x.pos - a - 1) % turn + 1
      let t := x.last + ((d * w.2 + w.1.natAbs - 1) / w.1.natAbs).toNat
      if t < x.last + s.tPulse then some t else none
  | _ =>
    let up := decide (x.prev < x.pos)
    let far := if up then (x.pos - a) % turn else (a - x.pos) % turn
    if far < ((x.pos - x.prev).natAbs : Int) then some x.last else none

/-- ANGLE_EVENT_FIRE (R388, R389): in SYNC the extrapolated or counted angle reaches an enabled slot's angle. -/
def execAngleEventFire (n e : Fin 16) (s : State) : Host.Outcome State Fault Refusal :=
  let c := s.evtCtl n.val e.val
  let x := s.trk n.val
  if s.pageState (angleP n.val) ≠ .running ∨ s.angSync n.val ≠ 2 ∨ !bit c 31 ∨ x.fired.contains e.val ∨ x.deferred.contains e.val then done s
  else match s.slotDue n.val e.val with
    | none => done s
    | some t =>
      let s1 := advanceTo t s
      if s.flagged n.val then
        (if bit c 30 then done (s1.modTrk n.val fun x => { x with deferred := x.deferred ++ [e.val] })
         else done (s1.fireSlot n.val e.val 2))
      else done (s1.fireSlot n.val e.val 1)

/-- ANG_EVENT_WRITE (R389, R390): the registers of a slot; ctl selects the second. It takes effect at the next Pulse
boundary and cancels a deferred event of the slot. -/
def execAngEventWrite (r : Requester) (n e : Fin 16) (ctl : Bool) (v : Word) (s : State) : Host.Outcome State Fault Refusal :=
  let off := 0x060 + 8 * e.val + if ctl then 4 else 0
  done (s.guardWrite r (angleP n.val) off fun s _ =>
    let t := if (s.trk n.val).deferred.contains e.val then s.cancelSlot n.val e.val else s
    t.plainWrite (angleP n.val) off v)

/-! ## Loss of synchronisation (R381, R383) -/

/-- LOSS_OF_SYNC with a cause of ANG_LOSS. -/
def State.lossOfSync (s : State) (n cause : Nat) : State :=
  let p := angleP n
  let s1 := ((s.bumpF p 0x0FC 31 16 1).setRegF p 0x0FC 3 0 cause).raise p 1
  (((s1.syndrome p (0x10 + cause) 0).note 13 0 n (2 ^ n) cause).cancelDeferred n).setAngSync n 0

/-- The tracker finds its place again after a loss (R383). -/
def State.corrected (s : State) (n : Nat) (corr : Int) : State :=
  let p := angleP n
  let w := word (wrapBits 32 corr)
  let s1 := (((s.setReg p 0x0F8 w).angLog n 0 5 (s.trk n).firedCount w).raise p 6).note 14 0 n (2 ^ n) (wrapBits 32 corr)
  s1.setAngSync n 2

/-! ## Teeth (R377 to R384) -/

/-- A tooth takes the angle; forward: in the direction of DIR from the tooth before. -/
def State.takeTooth (s : State) (n i stamp : Nat) (forward : Bool) : State :=
  let x := s.trk n
  let d := (s.toothAngle n i - x.pos) % turn
  let pos :=
    if forward then x.pos + s.angDir n * (((s.toothAngle n i - x.pos) * s.angDir n) % turn)
    else x.pos + (if d < turn / 2 then d else d - turn)
  (s.setTrk n { x with pos := pos, prev := x.pos, last := stamp, fired := [] }).setRegF (angleP n) 0x0E0 23 16 i

def State.showPrediction (s : State) (n : Nat) : State := s.setRegN (angleP n) 0x0F0 (s.prediction n)

/-- A real tooth: index, stamp, whether it ends the gap. -/
def State.realTooth (s : State) (n i stamp : Nat) (endsGap : Bool) : State :=
  let x := s.trk n
  let measured := !x.fresh && !x.lastSynth
  let iv := (stamp - x.last) / if endsGap then s.angGap n + 1 else 1
  let s1 := (s.modTrk n fun y => { y with
    interval := if measured then iv else y.interval, intervals := if measured then y.intervals + 1 else y.intervals,
    lastReal := stamp, lastSynth := false, fresh := false }).takeTooth n i stamp true
  let s2 := ((s1.setFlagged n false).setReg64 (angleP n) 0x0E8 stamp).fireDeferred n
  let s3 := if endsGap then (if s2.angSync n = 1 then s2.setAngSync n 2 else s2).modTrk n fun y => { y with firedCount := 0 } else s2
  s3.showPrediction n

/-- A synthetic tooth (R379): stamped at the latest tooth + P; the second in a row is a loss. -/
def State.syntheticTooth (s : State) (n : Nat) : State :=
  let p := angleP n
  let x := s.trk n
  let pr := s.prediction n
  let i := (s.nextTooth n (s.tooth n)).1
  let s1 := (s.bumpF p 0x0F4 31 16 1).raise p 3
  if x.lastSynth then
    (if s.angSync n = 2 then s1.lossOfSync n 1 else s1.setAngSync n 0).modTrk n fun y => { y with history := [], mismatch := none }
  else
    let s2 := ((s1.takeTooth n i (x.last + pr) true).modTrk n fun y => { y with lastSynth := true }).setFlagged n true
    let strict := (List.range 16).filter fun e =>
      bit (s2.evtCtl n e) 31 && bit (s2.evtCtl n e) 30 && (s2.slotDue n e).isSome && decide (s2.angSync n = 2)
    (s2.modTrk n fun y => { y with deferred := y.deferred ++ strict }).showPrediction n

/-- The stamps of SEARCH show the gap (R382): the tooth before the latest one ended it. -/
def gapSeen (g : Nat) : List Nat → Bool
  | t3 :: t2 :: t1 :: t0 :: _ => decide ((g + 2) * (t1 - t0) ≤ 2 * (t2 - t1)) && decide ((g + 2) * (t3 - t2) ≤ 2 * (t2 - t1))
  | _ => false

/-- A filtered pulse in SEARCH. -/
def State.searchPulse (s : State) (n stamp : Nat) : State :=
  let x := s.trk n
  let hist := (stamp :: x.history).take 4
  let s0 := s.modTrk n fun y => { y with history := hist, lastReal := stamp, last := stamp, mismatch := y.mismatch.map (· + 1) }
  if !gapSeen (s.angGap n) hist then s0
  else
    let i := (s.nextTooth n (s.firstTooth n)).1
    let s1 := (s0.modTrk n fun y => { y with interval := stamp - x.last, intervals := 2, lastSynth := false, fresh := false }).takeTooth n i stamp false
    let s2 := ((s1.setFlagged n false).setReg64 (angleP n) 0x0E8 stamp).showPrediction n
    match x.mismatch with
    | some m =>
      -- m pulses since the expected place, the tooth that ended the gap among them
      if 2 ≤ m ∧ m ≤ 4 then
        ((s2.corrected n (-(s.angDir n * (((m - 1) * 0x100000000 / s.angN n : Nat) : Int)))).modTrk n fun y => { y with mismatch := none, firedCount := 0 })
      else (s2.setAngSync n 1).modTrk n fun y => { y with mismatch := none }
    | none => s2.setAngSync n 1

/-- A filtered pulse judged in PRESYNC or SYNC (R379, R380). -/
def State.windowPulse (s : State) (n stamp : Nat) : Nat → State
  | 0 => s.searchPulse n stamp
  | k + 1 =>
    if s.angSync n = 0 then s.searchPulse n stamp
    else
      let x := s.trk n
      let (i, ends) := s.nextTooth n (s.tooth n)
      let pr := s.prediction n
      let d := stamp - x.last
      let noise := ((s.bumpF (angleP n) 0x0F4 15 0 1).raise (angleP n) 2)
      if x.fresh || decide (x.intervals < 2) then s.realTooth n i stamp ends
      else if 3 * pr < 2 * d then (s.syntheticTooth n).windowPulse n stamp k
      else if pr ≤ 2 * d then s.realTooth n i stamp ends
      else if ends && decide (x.interval ≤ 2 * d) then
        let s1 := if s.angSync n = 2 then s.lossOfSync n 2 else s.setAngSync n 0
        s1.modTrk n fun y => { y with
          history := [stamp, x.last, x.last - x.interval], mismatch := if s.angSync n = 2 then some 1 else none,
          last := stamp, lastReal := stamp }
      else noise

/-- A pulse of a toothed wheel. -/
def State.toothPulse (s : State) (n stamp : Nat) : State :=
  match s.angSync n with
  | 3 =>
    -- the first pulse after HALT is the next tooth without a window (R384)
    let b := (s.trk n).before
    let s1 := (s.setRegF (angleP n) 0x0E0 2 0 b).modPage (angleP n) fun g => { g with substate := b }
    if b = 0 then (s1.modTrk n fun x => { x with history := [] }).searchPulse n stamp
    else
      let (i, ends) := s1.nextTooth n (s1.tooth n)
      s1.realTooth n i stamp ends
  | 0 => s.searchPulse n stamp
  | _ => s.windowPulse n stamp 3

/-! ## Counted sources (R385, R386) -/

/-- The count moves: position from the count, with what the events cross. -/
def State.setCount (s : State) (n : Nat) (c : Int) (stamp : Nat) : State :=
  let x := s.trk n
  let pos := (s.regN (angleP n) 0x048 : Int) + c * turn / (max 1 (s.regF (angleP n) 0x044 23 0) : Nat)
  (s.setTrk n { x with count := c, prev := x.pos, pos := pos, last := stamp, fired := [] }).setReg64 (angleP n) 0x0E8 stamp

def State.stepCount (s : State) (n : Nat) (d : Int) (stamp : Nat) : State :=
  (s.setCount n ((s.trk n).count + d) stamp).setRegN (angleP n) 0x184 (wrapBits 32 (sext 32 (s.regN (angleP n) 0x184) + d))

/-- An edge of A or B of a quadrature input, after the levels have changed. -/
def State.abEdge (s : State) (n stamp : Nat) (isA together : Bool) : State :=
  let x := s.trk n
  if together then
    let s1 := ((s.bumpF (angleP n) 0x0F4 15 0 1).raise (angleP n) 2).modTrk n fun y => { y with illegal := y.illegal + 1 }
    if 2 ≤ x.illegal + 1 ∧ s1.angSync n = 2 then s1.lossOfSync n 4 else s1
  else s.stepCount n (if isA != (x.a == x.b) then 1 else -1) stamp

/-- A rising edge of Z (R385, R383). -/
def State.indexEdge (s : State) (n stamp : Nat) : State :=
  let x := s.trk n
  let cpr : Int := max 1 (s.regF (angleP n) 0x044 23 0)
  let m := x.count % cpr
  let err := if 2 * m ≤ cpr then m else m - cpr
  if !bit (s.reg (angleP n) 0x040) 5 then s
  else if s.angSync n = 2 then
    (if 2 < err.natAbs then (s.lossOfSync n 3).modTrk n fun y => { y with zLost := true } else s)
  else
    let s1 := (s.setCount n (x.count - err) stamp).modTrk n fun y => { y with zLost := false }
    if x.zLost then s1.corrected n (-(err * turn / cpr)) else s1.setAngSync n 2

/-- PULSE_INPUT_EDGE (R375): an edge of a pulse signal, at the Metronome value at which it passes the filter. -/
def execPulseInputEdge (n : Fin 16) (sig : PulseSignal) (rising : Bool) (time : Dword) (s : State) : Host.Outcome State Fault Refusal :=
  let k := n.val
  let s0 := advanceTo time.toNat s
  let t := time.toNat
  let stamp := t - s.angFilt k
  let x := s0.trk k
  let within := fun (u : Nat) => decide (u ≠ 0) && (decide (t - u < s.angFilt k) || decide (t = u))
  let s1 := s0.setTrk k (match sig with
    | .a => { x with a := rising, edgeA := t }
    | .b => { x with b := rising, edgeB := t }
    | .z => { x with z := rising })
  if s.pageState (angleP k) ≠ .running then done s1
  else match s.angSource k, sig with
    | 1, .a =>
      if rising then
        done ((s1.toothPulse k stamp).setRegN (angleP k) 0x184 (wrapBits 32 (sext 32 (s1.regN (angleP k) 0x184) + s.angDir k)))
      else done s1
    | 0, .a => done (s1.abEdge k stamp true (within x.edgeB))
    | 0, .b => done (s1.abEdge k stamp false (within x.edgeA))
    | 0, .z => if rising then done (s1.indexEdge k stamp) else done s1
    | 3, .a => if rising then done (s1.stepCount k (if x.b then 1 else -1) stamp) else done s1
    | _, _ => done s1

/-- SYNTHETIC_TOOTH (R379): no pulse was accepted by 1.5 P. HALT due at the same time or before takes precedence (R384). -/
def execSyntheticTooth (n : Fin 16) (s : State) : Host.Outcome State Fault Refusal :=
  let k := n.val
  let x := s.trk k
  let t := x.last + 3 * s.prediction k / 2
  if s.pageState (angleP k) ≠ .running ∨ s.angSource k ≠ 1 ∨ (s.angSync k ≠ 1 ∧ s.angSync k ≠ 2) ∨ x.intervals < 2 ∨
     x.lastReal + 1000 * s.regF (angleP k) 0x050 23 0 ≤ t then done s
  else done ((advanceTo t s).syntheticTooth k)

/-- TRACKER_HALT (R384). -/
def execTrackerHalt (n : Fin 16) (s : State) : Host.Outcome State Fault Refusal :=
  let k := n.val
  if s.pageState (angleP k) ≠ .running ∨ s.angSource k ≠ 1 ∨ s.angSync k = 3 then done s
  else
    let b := s.angSync k
    let s1 := advanceTo ((s.trk k).lastReal + 1000 * s.regF (angleP k) 0x050 23 0) s
    done ((s1.setAngSync k 3).modTrk k fun x => { x with before := b, fresh := true, intervals := 0, lastSynth := false })

/-! ## Each Pulse boundary (R376, R387, R389) -/

/-- The sample angle of a JSL response (R387). -/
def State.jslField (s : State) (n : Nat) (payload : List Byte) : Int :=
  let w := s.regF (angleP n) 0x054 13 8
  let f := leNat (payload.drop (s.regF (angleP n) 0x054 4 0)) % 2 ^ w
  (s.regN (angleP n) 0x048 : Int) + (f * 2 ^ (32 - w) : Nat)

/-- A new good sample: its angle is taken as near as can be to the one before. -/
def State.jslSample (s : State) (n : Nat) (a : Int) (stamp : Nat) : State :=
  let x := s.trk n
  let near := match x.samples with
    | (b, _) :: _ =>
      let d := (a - b) % turn
      b + (if d < turn / 2 then d else d - turn)
    | [] => a
  let s1 := s.setTrk n { x with samples := ((near, stamp) :: x.samples).take 2, missed := 0, goods := x.goods + 1 }
  let s2 := (s1.setFlagged n false).fireDeferred n
  if s2.angSync n = 0 ∧ 2 ≤ (s2.trk n).goods then s2.setAngSync n 2 else s2

/-- A Pulse without a good sample. -/
def State.jslMiss (s : State) (n : Nat) : State :=
  if s.angSync n ≠ 2 then s
  else
    let x := s.trk n
    let s1 := (s.setTrk n { x with missed := x.missed + 1 }).setFlagged n true
    if 2 ≤ x.missed + 1 then (s1.lossOfSync n 5).modTrk n fun y => { y with goods := 0, missed := 0 } else s1

/-- The tracker at a Pulse boundary: event slots written since the last one come into force, JSL data arrives, θ is shown. -/
def State.trackerPulse (s : State) (n : Nat) (sample : Option (List Byte × Nat)) : State :=
  let p := angleP n
  if s.pageState p ≠ .running then s
  else
    let s1 := s.modTrk n fun x => { x with
      illegal := 0
      slots := (List.range 16).foldl (fun l e => tabSet 0 (tabSet 0 l (2 * e) (s.reg p (0x060 + 8 * e))) (2 * e + 1) (s.reg p (0x064 + 8 * e))) [] }
    let s2 := if s.angSource n = 2 then (match sample with
        | some (bs, stamp) => s1.jslSample n (s1.jslField n bs) stamp
        | none => s1.jslMiss n) else s1
    let pos := s2.trackerPos n (now s)
    let s3 := if s.angSource n = 2 then s2.modTrk n fun x => { x with prev := x.pos, pos := pos, last := now s, fired := [] } else s2
    (s3.modTrk n fun x => { x with pulsePos := pos }).setRegN p 0x0E4 (wrapBits 32 pos)

/-- The tracker supplies an angle: its page runs, in SYNC, or in a HALT that SYNC came to (R381, R382, R384). -/
def State.angleOk (s : State) (n : Nat) : Bool :=
  decide (s.pageState (angleP n) = .running) &&
  (decide (s.angSync n = 2) || (decide (s.angSync n = 3) && decide ((s.trk n).before = 2)))

/-! ## The ANGLE page (Table 11-7, R390) -/

def State.angCfgOk (s : State) (n : Nat) : Bool :=
  match s.angSource n with
  | 1 => decide (8 ≤ s.angN n) && decide (1 ≤ s.angGap n) && decide (4 + s.angGap n ≤ s.angN n) && decide (s.regF (angleP n) 0x044 23 10 = 0)
  | 2 => decide (8 ≤ s.regF (angleP n) 0x054 13 8) && decide (s.regF (angleP n) 0x054 13 8 ≤ 32) && decide (s.regF (angleP n) 0x054 4 0 ≤ 15)
  | _ => decide (s.regF (angleP n) 0x044 23 0 ≠ 0)

/-- The JSL page an axis names, and its device. -/
def State.angJsl (s : State) (n : Nat) : Nat × Nat := (4 * (n / 8) + s.regF (angleP n) 0x040 17 16, s.regF (angleP n) 0x040 19 18)

def State.angSourceOk (s : State) (n : Nat) : Bool :=
  if s.angSource n = 2 then
    let e := s.angJsl n
    !s.isExcused (128 + e.1) && bit (s.reg ⟨.jsl, e.1⟩ 0x040) e.2
  else !s.isExcused (96 + n)

def angleEnable (s : State) (n : Nat) : Ans × State :=
  let p := angleP n
  if s.pageState p ≠ .idle then (ansState, s)
  else if !s.angCfgOk n then (ansArg 1 0, s)
  else if !s.angSourceOk n then (ansArg 2 0, s)
  else
    let sync := if s.angSource n = 3 ∨ (s.angSource n = 0 ∧ !bit (s.reg p 0x040) 5) then 2 else 0
    let x := s.trk n
    let fresh : Tracker := { Tracker.atReset with
      a := x.a, b := x.b, z := x.z, lastReal := now s, last := now s, fresh := true, pos := s.regN p 0x048, prev := s.regN p 0x048,
      pulsePos := s.regN p 0x048 }
    let s1 := (((s.setTrk n fresh).setRegN p 0x0E0 0).setRegN p 0x184 0).toState p .running
    crcGate s p (ansDone, s1.setAngSync n sync)

def angleStop (s : State) (n : Nat) : Ans × State :=
  let p := angleP n
  if s.inState p activeStates then (ansDone, (s.cancelDeferred n).toState p .idle) else (ansDone, s)

/-- DISABLE in RUNNING posts DONE with no effect. -/
def angleDisable (s : State) (n : Nat) : Ans × State :=
  if s.pageState (angleP n) = .running then (ansDone, s) else genDisable s (angleP n)

end Sys2Proof.Machine
end

