-- ==== Sys2Proof/Machine/FloatFmt.lean ====
section
/-!
DEFINITION. The number formats of Table 6-4, their conversions (R199, R201) and exact arithmetic rounded once to nearest,
ties to even.
-/

namespace Sys2Proof.Machine

/-- Exponent bits, mantissa bits and whether the format has infinities. -/
structure FpFmt where
  eb : Nat
  mb : Nat
  inf : Bool
  deriving DecidableEq, Repr

def fE4M3 : FpFmt := ⟨4, 3, false⟩
def fE5M2 : FpFmt := ⟨5, 2, true⟩
def fF16 : FpFmt := ⟨5, 10, true⟩
def fBF16 : FpFmt := ⟨8, 7, true⟩
def fF32 : FpFmt := ⟨8, 23, true⟩

def FpFmt.bias (f : FpFmt) : Nat := 2 ^ (f.eb - 1) - 1
def FpFmt.width (f : FpFmt) : Nat := 1 + f.eb + f.mb

/-- A value: NaN, an infinity, or ±m × 2^e exactly. -/
inductive Fl where
  | nan
  | inf (neg : Bool)
  | fin (neg : Bool) (m : Nat) (e : Int)
  deriving DecidableEq, Repr

def Fl.isNan : Fl → Bool
  | .nan => true
  | _ => false

def Fl.isInf : Fl → Bool
  | .inf _ => true
  | _ => false

/-- Decodes an element (Table 6-4). -/
def FpFmt.decode (f : FpFmt) (x : Nat) : Fl :=
  let man := x % 2 ^ f.mb
  let ex := x / 2 ^ f.mb % 2 ^ f.eb
  let neg := (x / 2 ^ (f.mb + f.eb)) % 2 = 1
  if f.inf ∧ ex = 2 ^ f.eb - 1 then (if man = 0 then .inf neg else .nan)
  else if ¬ f.inf ∧ ex = 2 ^ f.eb - 1 ∧ man = 2 ^ f.mb - 1 then .nan
  else if ex = 0 then .fin neg man (1 - (f.bias : Int) - f.mb)
  else .fin neg (2 ^ f.mb + man) ((ex : Int) - f.bias - f.mb)

/-- The canonical NaN (Table 6-4). -/
def FpFmt.nanBits (f : FpFmt) : Nat :=
  if f.inf then (2 ^ f.eb - 1) * 2 ^ f.mb + 2 ^ (f.mb - 1) else (2 ^ f.eb - 1) * 2 ^ f.mb + (2 ^ f.mb - 1)

def FpFmt.infBits (f : FpFmt) : Nat := (2 ^ f.eb - 1) * 2 ^ f.mb

/-- Magnitude of the largest finite value. -/
def FpFmt.maxBits (f : FpFmt) : Nat := if f.inf then f.infBits - 1 else f.nanBits - 1

/-- m / 2^k rounded to nearest, ties to even. -/
def rne (m k : Nat) : Nat :=
  let q := m / 2 ^ k
  let r := m % 2 ^ k
  if k = 0 then m
  else if 2 ^ (k - 1) < r ∨ (r = 2 ^ (k - 1) ∧ q % 2 = 1) then q + 1 else q

def FpFmt.signBit (f : FpFmt) (neg : Bool) : Nat := if neg then 2 ^ (f.mb + f.eb) else 0

/-- Overflow under the SAT bit (R199). -/
def FpFmt.overflow (f : FpFmt) (sat neg : Bool) : Nat :=
  if sat then f.signBit neg + f.maxBits else if f.inf then f.signBit neg + f.infBits else f.nanBits

/-- Encodes a value with one rounding (R199). -/
def FpFmt.encode (f : FpFmt) (sat : Bool) : Fl → Nat
  | .nan => f.nanBits
  | .inf neg => f.overflow sat neg
  | .fin neg m e =>
    if m = 0 then f.signBit neg
    else
      let emin : Int := 1 - (f.bias : Int) - f.mb
      let q : Int := max (e + (Nat.log2 m : Int) - f.mb) emin
      let k := if q ≤ e then m * 2 ^ (e - q).toNat else rne m (q - e).toNat
      let (k, q) := if k = 2 ^ (f.mb + 1) then (2 ^ f.mb, q + 1) else (k, q)
      let bits := if k < 2 ^ f.mb then k else (q - emin + 1).toNat * 2 ^ f.mb + (k - 2 ^ f.mb)
      if f.maxBits < bits then f.overflow sat neg else f.signBit neg + bits

/-! ## Exact arithmetic on values -/

/-- A signed mantissa at exponent e0, where e0 ≤ e. -/
def alignTo (e0 : Int) (neg : Bool) (m : Nat) (e : Int) : Int :=
  let v : Int := (m * 2 ^ (e - e0).toNat : Nat)
  if neg then -v else v

/-- The exact sum. An exact zero of two opposite signs is +0. -/
def Fl.add : Fl → Fl → Fl
  | .nan, _ => .nan
  | _, .nan => .nan
  | .inf a, .inf b => if a = b then .inf a else .nan
  | .inf a, _ => .inf a
  | _, .inf b => .inf b
  | .fin na ma ea, .fin nb mb eb =>
    let e := min ea eb
    let v := alignTo e na ma ea + alignTo e nb mb eb
    if v = 0 then .fin (na && nb) 0 e else .fin (decide (v < 0)) v.natAbs e

/-- The exact product (R200). -/
def Fl.mul : Fl → Fl → Fl
  | .nan, _ => .nan
  | _, .nan => .nan
  | .inf a, .inf b => .inf (a != b)
  | .inf a, .fin b m _ => if m = 0 then .nan else .inf (a != b)
  | .fin a m _, .inf b => if m = 0 then .nan else .inf (a != b)
  | .fin a m e, .fin b n d => .fin (a != b) (m * n) (e + d)

def Fl.neg : Fl → Fl
  | .nan => .nan
  | .inf a => .inf (!a)
  | .fin a m e => .fin (!a) m e

/-- a < b; false where either is NaN. -/
def Fl.lt : Fl → Fl → Bool
  | .nan, _ => false
  | _, .nan => false
  | .inf a, .inf b => a && !b
  | .inf a, _ => a
  | _, .inf b => !b
  | .fin na ma ea, .fin nb mb eb =>
    let e := min ea eb
    decide (alignTo e na ma ea < alignTo e nb mb eb)

/-- Equal as numbers; false where either is NaN. -/
def Fl.eqv (a b : Fl) : Bool := !a.isNan && !b.isNan && !a.lt b && !b.lt a

def Fl.le (a b : Fl) : Bool := a.lt b || a.eqv b

def Fl.isZero : Fl → Bool
  | .fin _ 0 _ => true
  | _ => false

def ofInt (i : Int) : Fl := .fin (decide (i < 0)) i.natAbs 0

/-- An integer from a value: nearest, ties to even, saturating; NaN gives 0 (R201). -/
def Fl.toIntSat (lo hi : Int) : Fl → Int
  | .nan => 0
  | .inf neg => if neg then lo else hi
  | .fin neg m e =>
    let v : Int := if 0 ≤ e then ((m * 2 ^ e.toNat : Nat) : Int) else (rne m (-e).toNat : Nat)
    clampInt lo hi (if neg then -v else v)

/-! ## FP32 arithmetic, each operation rounded once (R197) -/

def f32 (x : Nat) : Fl := fF32.decode x
def f32add (a b : Nat) : Nat := fF32.encode false ((f32 a).add (f32 b))
def f32mul (a b : Nat) : Nat := fF32.encode false ((f32 a).mul (f32 b))
def f32sub (a b : Nat) : Nat := fF32.encode false ((f32 a).add (f32 b).neg)
def f32fma (a b c : Nat) : Nat := fF32.encode false (((f32 a).mul (f32 b)).add (f32 c))
def f32ofInt (i : Int) : Nat := fF32.encode false (ofInt i)

/-! ## Element formats (Table 7-5) -/

/-- An element format: an integer of some bits, or a floating-point format. -/
inductive Elem where
  | int (bits : Nat)
  | fp (f : FpFmt)
  deriving DecidableEq, Repr

/-- The format of a code; none: reserved. Q32 data is INT32 data (R202). -/
def elemOf (code : Nat) : Option Elem :=
  match code with
  | 0 => some (.int 4) | 1 => some (.int 8) | 2 => some (.int 16) | 3 => some (.int 32)
  | 4 => some (.fp fE4M3) | 5 => some (.fp fE5M2) | 6 => some (.fp fF16) | 7 => some (.fp fBF16) | 8 => some (.fp fF32)
  | 9 => some (.int 32)
  | _ => none

def Elem.width : Elem → Nat
  | .int b => b
  | .fp f => f.width

def intMin (b : Nat) : Int := -((2 ^ (b - 1) : Nat) : Int)
def intMax (b : Nat) : Int := ((2 ^ (b - 1) : Nat) : Int) - 1

/-- Conversion between element formats (R199, R201). -/
def convert (src dst : Elem) (sat : Bool) (x : Nat) : Nat :=
  match src, dst with
  | .int a, .int b => wrapBits b (clampInt (intMin b) (intMax b) (sext a x))
  | .int a, .fp f => f.encode sat (ofInt (sext a x))
  | .fp f, .int b => wrapBits b ((f.decode x).toIntSat (intMin b) (intMax b))
  | .fp f, .fp g => g.encode sat (f.decode x)

/-- Element i of a packed byte string, w bits each, least significant first (R13, Table 6-4). -/
def elemAt (bs : List Byte) (w i : Nat) : Nat := leNat ((bs.drop (w * i / 8)).take 4) / 2 ^ (w * i % 8) % 2 ^ w

end Sys2Proof.Machine
end

