-- ==== Sys2Proof/Machine/Jsl.lean ====
section
/-!
DEFINITION. The Joint Sensor Link (section 11.6): requests, responses, acyclic accesses, and the JSL page.
-/

namespace Sys2Proof.Machine

def jslP (p : Nat) : PageRef := ⟨.jsl, p⟩

def State.jslPort (s : State) (p : Nat) : JslPort := tabGet JslPort.atReset s.jsls p
def State.setJsl (s : State) (p : Nat) (x : JslPort) : State := { s with jsls := tabSet JslPort.atReset s.jsls p x }
def State.modJsl (s : State) (p : Nat) (f : JslPort → JslPort) : State := s.setJsl p (f (s.jslPort p))

/-- A frame (R392). -/
def jslFrame (addr cmd : Nat) (payload : List Byte) : List Byte :=
  let body := leBytes 1 addr ++ leBytes 1 cmd ++ leBytes 1 payload.length ++ payload
  leBytes 1 0xA5 ++ body ++ leBytes 2 (crc16 body)

def State.jslMask (s : State) (p : Nat) : Nat := s.regF (jslP p) 0x040 3 0
def State.jslLen (s : State) (p a : Nat) : Nat := s.regF (jslP p) 0x044 (8 * a + 4) (8 * a)

/-- T of R394, in ns. -/
def State.jslTime (s : State) (p : Nat) : Nat :=
  (List.range 4).foldl (fun n a => if (s.jslMask p).testBit a then n + 1000 + 800 * (6 + s.jslLen p a) else n) 8000

/-- The transaction fits its Pulse (R394). -/
def State.jslFits (s : State) (p pulse : Nat) : Bool := decide (1000 * s.regF (jslP p) 0x040 11 8 + s.jslTime p + 2000 ≤ pulse)

/-- The request of a transaction (Table 11-9). -/
def State.jslRequest (s : State) (p : Nat) : List Byte :=
  if (s.jslPort p).acyc then
    let r := s.reg (jslP p) 0x050
    jslFrame (2 ^ fld r 9 8) (fld r 7 0)
      (leBytes 2 (fld r 31 16) ++ if fld r 7 0 = 3 then leBytes 4 (s.regN (jslP p) 0x054) else [])
  else
    jslFrame (s.jslMask p) 1 ((List.range 4).flatMap fun a => leBytes 1 (if (s.jslMask p).testBit a then s.jslLen p a else 0))

/-- Time of the latest Pulse boundary. -/
def State.pulseTime (s : State) : Nat := s.epoch + (s.tempo.nextK - 1) * s.tPulse

/-- JSL_TRANSACTION_START (R394, R396): once in each Pulse of a RUNNING page. -/
def execJslTransactionStart (p : Fin 8) (s : State) : Host.Outcome State Fault Refusal :=
  let k := p.val
  let x := s.jslPort k
  if s.pageState (jslP k) ≠ .running ∨ x.stopping ∨ !s.tempo.ticks ∨ x.pulse = s.tempo.nextK ∨ s.tempo.nextK = 0 then done s
  else
    let t := s.pulseTime + 1000 * s.regF (jslP k) 0x040 11 8
    let f := s.jslRequest k
    let asked := if x.acyc then [s.regF (jslP k) 0x050 9 8] else (List.range 4).filter (s.jslMask k).testBit
    done ((advanceTo t s).setJsl k { x with
      pulse := s.tempo.nextK, request := f, left := asked, stamp := t + 800 * f.length, acycSent := x.acyc, acyc := false })

/-- A frame has ended: a stopped page goes to IDLE; with the transaction's last frame a quiesced one goes to HOLD (R397). -/
def State.jslSettle (s : State) (p : Nat) : State :=
  let x := s.jslPort p
  if x.stopping then
    ((s.setJsl p { JslPort.atReset with pulse := x.pulse }).toState (jslP p) .idle).finishAll (jslP p) 2 none
  else if x.left.isEmpty && x.quiescing then
    ((s.setJsl p { x with quiescing := false }).toState (jslP p) .hold).finishQuiesce (jslP p) 2 none
  else s

/-- A response with an error (R395). -/
def State.jslError (s : State) (p a err : Nat) : State :=
  let pg := jslP p
  let st := 0x090 + 32 * a
  let run := min (s.regF pg st 15 8 + 1) 0xFF
  let fault := decide (s.regF pg 0x040 23 20 ≤ run)
  let was := s.regF pg st 2 0
  let s1 := (s.setRegN pg st (err * 0x10000000 + run * 0x100 + if fault then 3 else 2)).bumpF pg (0x094 + 32 * a) 15 0 1
  let s2 := s1.raise pg 0
  let s3 := if fault && decide (was ≠ 3) then s2.raise pg 1 else s2
  let s4 := if (s.jslPort p).acycSent then s3.finishPending pg 5 (some (4, 0)) else s3
  (s4.modJsl p fun y => { y with left := y.left.filter fun k => decide (k ≠ a) }).jslSettle p

/-- A good response. -/
def State.jslGood (s : State) (p a : Nat) (payload : List Byte) : State :=
  let pg := jslP p
  let x := s.jslPort p
  let s1 := s.setReg pg (0x090 + 32 * a) (setFld (setFld (s.reg pg (0x090 + 32 * a)) 15 8 0) 2 0 1)
  let s2 := if x.acycSent then ((s1.setReg pg 0x058 (wordAt payload 0)).finishPending pg 2 none).raise pg 2
    else s1.modJsl p fun y => { y with ready := y.ready ++ [(a, payload, y.stamp)] }
  (s2.modJsl p fun y => { y with left := y.left.filter fun k => decide (k ≠ a) }).jslSettle p

/-- The first error of a response frame, by its code in JSL_DEVa_STAT; none: it is good (R395). -/
def jslCheck (a len : Nat) (stopOk : Bool) (f : List Byte) : Option Nat :=
  if !stopOk || byteAt f 0 ≠ 0xA5 then some 2
  else if byteAt f 1 ≠ 0x80 + a then some 3
  else if byteAt f 3 ≠ len ∨ f.length ≠ 6 + len then some 4
  else if crc16 ((f.drop 1).take (3 + len)) ≠ halfAt f (4 + len) then some 5
  else if (byteAt f 2).testBit 6 then some 6
  else none

/-- JSL_RESPONSE (R395): the bytes of a device's response and whether every stop bit was 1. -/
def execJslResponse (p : Fin 8) (a : Fin 4) (frame : List Byte) (stopOk : Bool) (s : State) : Host.Outcome State Fault Refusal :=
  let k := p.val
  if !s.inState (jslP k) [.running, .hold] ∨ !(s.jslPort k).left.contains a.val then done s
  else
    let len := if (s.jslPort k).acycSent then 4 else s.jslLen k a.val
    match jslCheck a.val len stopOk frame with
    | some e => done (s.jslError k a.val e)
    | none => done (s.jslGood k a.val ((frame.drop 4).take len))

/-- JSL_RESPONSE_TIMEOUT (R395). -/
def execJslResponseTimeout (p : Fin 8) (a : Fin 4) (s : State) : Host.Outcome State Fault Refusal :=
  if !s.inState (jslP p.val) [.running, .hold] ∨ !(s.jslPort p.val).left.contains a.val then done s
  else done (s.jslError p.val a.val 1)

/-- ACYC (R396). While another one is pending the answer is ACYC_BLOCKED, which R396 gives in place of the BUSY of R100. -/
def execAcyc (r : Requester) (p : Fin 8) (arg : BitVec 24) (s : State) : Host.Outcome State Fault Refusal :=
  let k := p.val
  let other := match (s.page (jslP k)).pending with
    | some c => decide (c.code = 0x10)
    | none => false
  done (s.pageCmd (busy := if other then ansArg 3 0 else ansBusy) r (jslP k) 0x10 arg fun s _ =>
    let used := (List.range 16).any fun n =>
      decide (s.pageState (angleP n) = .running) && decide (s.angSource n = 2) && decide ((s.angJsl n).1 = k) && s.torque n
    if s.pageState (jslP k) ≠ .running ∨ !bit (s.reg (jslP k) 0x040) 16 then (ansState, s)
    else if used then (ansArg 3 0, s)
    else if s.regF (jslP k) 0x050 7 0 ≠ 2 ∧ s.regF (jslP k) 0x050 7 0 ≠ 3 then (ansArg 1 0, s)
    else (ansAccepted, s.modJsl k fun x => { x with acyc := true }))

/-- At a Pulse boundary the data of the transaction becomes available (R394): registers, and samples by page and device. -/
def State.jslPublish (s : State) : List (Nat × Nat × List Byte × Nat) × State :=
  (List.range 8).foldl (fun acc k =>
    let x := acc.2.jslPort k
    let pg := jslP k
    let put := fun (s : State) (e : Nat × List Byte × Nat) =>
      let s1 := (List.range 4).foldl (fun s i => s.setReg pg (0x080 + 32 * e.1 + 4 * i) (wordAt e.2.1 (4 * i))) s
      s1.setReg64 pg (0x098 + 32 * e.1) e.2.2
    (acc.1 ++ x.ready.map (fun e => (k, e)), (x.ready.foldl put acc.2).modJsl k fun y => { y with ready := [] })) ([], s)

/-- Pages whose transaction no longer fits a new Tempo (R394). -/
def State.jslRefit (s : State) : State :=
  (List.range 8).foldl (fun s k =>
    if s.pageState (jslP k) = .running ∧ !s.jslFits k s.tPulse then
      ((s.toState (jslP k) .fault).syndrome (jslP k) 2 0).finishAll (jslP k) 3 none
    else s) s

/-! ## The JSL page (R397) -/

def jslEnable (s : State) (k : Nat) : Ans × State :=
  let p := jslP k
  match s.pageState p with
  | .idle =>
    if !s.jslFits k s.tPulse then (ansArg 2 0, s)
    else if s.regF p 0x040 23 20 = 0 ∨ ((List.range 4).any fun a => decide (16 < s.jslLen k a)) then (ansArg 1 0, s)
    else
      let s1 := (s.setRegN p 0x100 (s.jslTime k)).modJsl k fun _ => { JslPort.atReset with pulse := s.tempo.nextK }
      crcGate s p (ansDone, s1.toState p .running)
  | .hold => crcGate s p (ansDone, s.toState p .running)
  | _ => (ansState, s)

def jslQuiesce (s : State) (k : Nat) : Ans × State :=
  if s.pageState (jslP k) ≠ .running then (ansDone, s)
  else if (s.jslPort k).left.isEmpty then (ansDone, s.toState (jslP k) .hold)
  else (ansAccepted, s.modJsl k fun x => { x with quiescing := true })

/-- STOP: after the frame in progress. -/
def jslStop (s : State) (k : Nat) : Ans × State :=
  let x := s.jslPort k
  if !s.inState (jslP k) activeStates then (ansDone, s)
  else if x.left.isEmpty then (ansDone, (s.toState (jslP k) .idle).setJsl k { JslPort.atReset with pulse := x.pulse })
  else (ansAccepted, s.setJsl k { x with acyc := false, quiescing := false, stopping := true })

end Sys2Proof.Machine
end

