-- ==== Sys2Proof/Machine/LoopMath.lean ====
section
/-!
DEFINITION. The arithmetic of the Loop Engine (sections 10.2 and 10.3): Q32 terms, sums that count their saturations, sines,
transforms, and the shaper's step.
-/

namespace Sys2Proof.Machine

def sat32 (i : Int) : Int := clampInt (-0x80000000) 0x7FFFFFFF i

/-- A computation that counts the saturations that changed a value (R317). -/
abbrev Sat := StateM Nat

def satC (i : Int) : Sat Int := fun n => (sat32 i, if sat32 i = i then n else n + 1)

/-- The term of a coefficient with a shift (R316). -/
def termOf (k : Int) (sh : Nat) (x : Int) : Sat Int := satC ((k * x + (if 0 < sh then (2 ^ (sh - 1) : Nat) else 0)) / ((2 ^ sh : Nat) : Int))

/-- A Q8.24 product (R328). -/
def mul24 (k x : Int) : Sat Int := termOf k 24 x

/-- A quotient rounded half toward +∞ (R338); d is positive. -/
def roundDiv (n d : Int) : Int := (2 * n + d) / (2 * d)

/-- A quotient rounded toward 0. -/
def truncDiv (n d : Int) : Int := if (0 ≤ n) = (0 ≤ d) then ((n.natAbs / d.natAbs : Nat) : Int) else -((n.natAbs / d.natAbs : Nat) : Int)

def signOf (i : Int) : Int := if 0 < i then 1 else if i < 0 then -1 else 0

def absI (i : Int) : Int := (i.natAbs : Int)

def magOf (x : Int × Int) : Int := (isqrt (x.1 * x.1 + x.2 * x.2).toNat : Int)

/-! ## Sines (R318) -/

/-- π in units of 2⁻⁶⁴. -/
def piQ64 : Int := 57952155664616982739

/-- The Taylor series of the sine of x, in units of 2⁻⁶⁴, from term i on. -/
def sinSeries (x : Int) : Nat → Int → Int → Int → Int
  | 0, _, _, s => s
  | m + 1, i, t, s =>
    let t2 := -(t * x / 0x10000000000000000 * x / 0x10000000000000000) / (2 * i * (2 * i + 1))
    sinSeries x m (i + 1) t2 (s + t2)

/-- T[k] of R318 for k up to 1,024. -/
def sinQuarter (k : Nat) : Int :=
  let x := piQ64 * k / 2048
  (sinSeries x 15 1 x x + 0x200000000) / 0x400000000

/-- T[k] = round(2³⁰ sin(2πk / 4,096)). -/
def sinTable (k : Nat) : Int :=
  let m := k % 4096
  if m ≤ 1024 then sinQuarter m else if m ≤ 2048 then sinQuarter (2048 - m)
  else if m ≤ 3072 then -sinQuarter (m - 2048) else -sinQuarter (4096 - m)

/-- sin θ in Q2.30. -/
def sinOf (th : Nat) : Int :=
  let k := th % 0x100000000 / 0x100000
  let f : Int := (th % 0x100000 : Nat)
  sinTable k + ((sinTable (k + 1) - sinTable k) * f + 0x80000) / 0x100000

def cosOf (th : Nat) : Int := sinOf (th + 0x40000000)

/-- round(2³⁰ / √3) and round(2³⁰ √3 / 2). -/
def invSqrt3 : Int := 619925131
def sqrt3Half : Int := 929887697

/-- An angle moved by a signed amount. -/
def angleAdd (th : Nat) (d : Int) : Nat := wrapBits 32 ((th : Int) + d)

/-- ω × T_pulse in angle units (R328). -/
def advance (w : Int) (t : Nat) : Int := (w * t * 0x1000 + 500000000) / 1000000000

/-- 1.5 ω × T_pulse (R320). -/
def advance15 (w : Int) (t : Nat) : Int := (w * t * 0x1800 + 500000000) / 1000000000

/-! ## Transforms (R319, R320) -/

/-- Phase currents to α and β. -/
def clarke (ia ib : Int) : Sat (Int × Int) := do
  let s ← satC (ia + 2 * ib)
  return (ia, ← termOf invSqrt3 30 s)

/-- α and β to d and q at an angle. -/
def park (x : Int × Int) (th : Nat) : Sat (Int × Int) := do
  let c := cosOf th
  let s := sinOf th
  let d ← satC ((← termOf c 30 x.1) + (← termOf s 30 x.2))
  let q ← satC ((← termOf (-s) 30 x.1) + (← termOf c 30 x.2))
  return (d, q)

/-- d and q to α and β at an angle. -/
def parkInv (u : Int × Int) (th : Nat) : Sat (Int × Int) := do
  let c := cosOf th
  let s := sinOf th
  let a ← satC ((← termOf c 30 u.1) + (← termOf (-s) 30 u.2))
  let b ← satC ((← termOf s 30 u.1) + (← termOf c 30 u.2))
  return (a, b)

/-- Steps 1 and 2 of R320: bus compensation and the vector limit; the last part is LIMITED. -/
def vectorLimit (u : Int × Int) (b vmod : Int) : Sat ((Int × Int) × Bool) := do
  let md ← mul24 u.1 b
  let mq ← mul24 u.2 b
  let md2 := clampInt (-vmod) vmod md
  let lim : Int := (isqrt (vmod * vmod - md2 * md2).toNat : Int)
  let mq2 := clampInt (-lim) lim mq
  return ((md2, mq2), decide (md2 ≠ md) || decide (mq2 ≠ mq))

def dutyOf16 (v v0 : Int) : Nat := (clampInt 0 65535 (32768 + (v + v0 + 256) / 512)).toNat

/-- Steps 4 to 6 of R320: the duty cycles of the phases, and (m_α, m_β). -/
def dutyCycles (m : Int × Int) (th : Nat) : Sat ((Int × Int) × List Nat) := do
  let ab ← parkInv m th
  let va := ab.1
  let half ← termOf (-0x20000000) 30 ab.1
  let r ← termOf sqrt3Half 30 ab.2
  let vb ← satC (half + r)
  let vc ← satC (half - r)
  let hi := max va (max vb vc)
  let lo := min va (min vb vc)
  let v0 := (-(hi + lo) + 1) / 2
  return (ab, [dutyOf16 va v0, dutyOf16 vb v0, dutyOf16 vc v0])

/-! ## The shaper (R338) -/

structure ShaperIn where
  posMode : Bool
  pTgt : Int
  vFf : Int
  vTgt : Int
  vl : Int
  a : Int
  j : Int
  t : Int
  deriving DecidableEq, Repr

/-- Braking speed for a distance e. -/
def brakeSpeed (a j e : Int) : Int :=
  let h := roundDiv (a * a) (2 * j)
  (isqrt (h * h + 32 * a * e).toNat : Int) - h

/-- One Pulse of the shaper: p, v, a. -/
def shaperStep (c : ShaperIn) (p v a : Int) : Int × Int × Int :=
  let e := c.pTgt - p
  let vt0 := if c.posMode then c.vFf + signOf e * brakeSpeed c.a c.j (absI e) else c.vTgt
  let vt := clampInt (-c.vl) c.vl vt0
  let jt := roundDiv (16 * c.j * c.t) 1000000000
  let jtt := roundDiv (256 * c.j * c.t * c.t) 1000000000000000000
  let jttt := roundDiv (256 * c.j * c.t * c.t * c.t) 1000000000000000000000000000
  let vr := v + roundDiv (a * absI a) (2 * c.j)
  let a1 :=
    if vr < vt - jtt then min (a + jt) c.a
    else if vt + jtt < vr then max (a - jt) (-c.a)
    else if absI a ≤ jt then 0 else a - signOf a * jt
  let v1 := v + roundDiv (16 * (a + a1) * c.t) 2000000000
  let p1 := p + roundDiv ((v + v1) * c.t) 2000000000
  let settled := decide (absI (vt - v1) ≤ jtt) && decide (absI a1 ≤ jt)
  let v2 := if settled then vt else v1
  let a2 := if settled then 0 else a1
  let p2 := if c.posMode && decide (c.vFf = 0) && decide (absI (c.pTgt - p1) ≤ jttt) && decide (v2 = 0) then c.pTgt else p1
  (p2, v2, a2)

end Sys2Proof.Machine
end

