-- ==== Sys2Proof/Machine/LoopEngine.lean ====
section
/-!
DEFINITION. The Loop Engine (chapter 10): the safety limit word, the computation of a Pulse in the order of R313, the
Ostinato, injection and capture, and the LOOP page.
-/

namespace Sys2Proof.Machine

/-- A signed register of a LOOP page. -/
def State.lg (s : State) (n off : Nat) : Int := sext 32 (s.regN (loopP n) off)

def State.lf (s : State) (n off hi lo : Nat) : Nat := s.regF (loopP n) off hi lo

def State.law (s : State) (n : Nat) : Nat := s.lf n 0x1C0 2 0

/-- ANGLE_SRC: 0 ENCODER, 1 OBSERVER, 2 BLEND. -/
def State.angleSrc (s : State) (n : Nat) : Nat := s.lf n 0x040 3 2

def State.polePairs (s : State) (n : Nat) : Int := (s.lf n 0x040 15 8 : Nat)

/-- CMD of a safety limit word: 0 STO, 1 SS1, 2 SS2, 3 RUN; other values act as STO (Table 10-4). -/
def cmdOf (w : Word) : Nat := if fld w 31 29 ≤ 3 then fld w 31 29 else 0

def State.limitCmd (s : State) (n : Nat) : Nat := cmdOf (s.reg (loopP n) 0x1CC)

/-- Vl of R327. -/
def State.vLimit (s : State) (n : Nat) : Int := min (s.lg n 0x11C) (s.lg n 0x11C * (s.lf n 0x1CC 15 0 + 1 : Nat) / 65536)

/-- LOOP_I_MAX under word_ilim (R323, Table 10-4). -/
def State.iLimit (s : State) (n : Nat) : Int := min (s.lg n 0x0CC) (s.lg n 0x0CC * (s.lf n 0x1CC 23 16 + 1 : Nat) / 256)

/-! ## Changes of page state and law state -/

/-- The axis loses torque: duty cycles of 0, law OFF, and another page state (R314). -/
def State.leaveTorque (s : State) (n : Nat) (st : PageState) : State :=
  let s1 := ((s.dutyOff n).setRegF (loopP n) 0x1C0 2 0 0).injCut n
  (s1.modAxis n fun a => { a with stopping := false, still := 0, vPrev := (0, 0) }).toState (loopP n) st

/-- The page enters FAULT (Table 10-8). -/
def State.loopFault (s : State) (n code detail : Nat) : State :=
  let p := loopP n
  let s1 := (((s.loopLost n).leaveTorque n .fault).finishAll p 3 none).syndrome p code detail
  ((s1.raise p 8).note 10 0 n (2 ^ n) code).evalLevel

/-- Enters a law state with its event and interrupt (R330, R334). -/
def State.enterLaw (s : State) (n v : Nat) : State :=
  let p := loopP n
  let s1 := (s.setRegF p 0x1C0 2 0 v).modAxis n fun a => { a with low := 0, high := 0 }
  match v with
  | 4 => (s1.raise p 2).note 8 0 n (2 ^ n) 0
  | 5 => (s1.raise p 3).note 9 0 n (2 ^ n) 0
  | 6 => (s1.modAxis n fun a => { a with blendK := 0 }).note 0 0 n (2 ^ n) 6
  | _ => s1

/-- RIDE has lasted OBS_RIDE_TIME_US: BLEND or COAST (Table 10-6). -/
def State.rideEnd (s : State) (n : Nat) : State :=
  s.enterLaw n (if s.angleSrc n = 2 ∧ s.pageState (angleP n) = .running then 6 else 5)

/-- OBS_RIDE_TIMEOUT (R330, R331). -/
def execObsRideTimeout (n : Fin 16) (s : State) : Host.Outcome State Fault Refusal :=
  let k := n.val
  if s.torque k ∧ s.law k = 4 then
    done ((advanceTo ((s.axis k).rideAt + 1000 * s.lf k 0x10C 15 0) s).rideEnd k)
  else done s

/-! ## Writes -/

/-- Puts the waiting writes into force (R324). -/
def State.flushGains (s : State) (n : Nat) : State :=
  let s1 := (s.axis n).staged.foldl (fun s e =>
    if e.1 = 0x02C then s.modPage (loopP n) fun g => { g with cfgCrc := e.2 } else s.setReg (loopP n) e.1 e.2) s
  s1.modAxis n fun a => { a with staged := [] }

/-- A write to a gain or shift register (R324, R350): at the next Pulse boundary while the engine computes. -/
def loopGainWrite (n off : Nat) (v : Word) (s : State) : State × Bool :=
  if s.pageState (loopP n) = .fault then (s.refuseState (loopP n), false)
  else if s.gainsWait n then (s.stageGain n off (if 0x0B0 ≤ off then v &&& 0x1F1F1F1F else v), true)
  else (s.dropGain n off).plainWrite (loopP n) off v

/-- LOOP_GAIN_WRITE (R324): the register at 0x050 + 4k. -/
def execLoopGainWrite (r : Requester) (n : Fin 16) (k : Fin 30) (v : Word) (s : State) : Host.Outcome State Fault Refusal :=
  done (s.guardWrite r (loopP n.val) (0x050 + 4 * k.val) fun s _ => loopGainWrite n.val (0x050 + 4 * k.val) v s)

/-- A write to OST_TABLEi (R337, R350). -/
def ostTableWrite (n i : Nat) (v : Word) (s : State) : State × Bool :=
  if s.lf n 0x190 1 0 = 1 then ((s.countRefusal (loopP n)).syndrome (loopP n) 8 0, false)
  else if i < s.lf n 0x144 9 0 then s.plainWrite (loopP n) (0x800 + 4 * i) v
  else (s, false)

/-- OST_TABLE_WRITE (R337). -/
def execOstTableWrite (r : Requester) (n : Fin 16) (i : Fin 512) (v : Word) (s : State) : Host.Outcome State Fault Refusal :=
  done (s.guardWrite r (loopP n.val) (0x800 + 4 * i.val) fun s _ => ostTableWrite n.val i.val v s)

/-- A write to LOOP_TGT_COMMIT: the targets wait for the next Pulse boundary (R341). -/
def tgtCommit (n : Nat) (v : Word) (s : State) : State × Bool :=
  let s1 := (s.plainWrite (loopP n) 0x18C v).1
  (s1.modAxis n fun a => { a with commit := some (sext 64 (s.reg64 (loopP n) 0x180), s.lg n 0x188) }, true)

/-- LOOP_TGT_COMMIT (R341). -/
def execLoopTgtCommit (r : Requester) (n : Fin 16) (v : Word) (s : State) : Host.Outcome State Fault Refusal :=
  done (s.guardWrite r (loopP n.val) 0x18C fun s _ => tgtCommit n.val v s)

/-! ## Step 1: the safety limit word (R325, R326) -/

/-- CRC-8 of a safety limit word. -/
def limitCrc (w : Word) (seq : Bool) (n : Nat) : Nat :=
  crcMsb 8 0x2F 0xFF (leBytes 4 w.toNat ++ [BitVec.ofNat 8 ((if seq then 1 else 0) + 0x10 * n)]) ^^^ 0xFF

/-- The sequence bit that the next word is judged by: a bad word whose CRC fits has carried its own; a word that fails its CRC
or has not arrived was due to carry the other one (R325, R326; DEDUCED, log entry 86). -/
def LoopAxis.badSeq (a : LoopAxis) : Option Bool :=
  match a.recv with
  | some (_, q, true) => some q
  | _ => a.seq.map (!·)

/-- Latches the word of this Pulse. False: a second bad word in a row. -/
def State.latchWord (s : State) (n : Nat) : State × Bool :=
  let p := loopP n
  let a := s.axis n
  let good := match a.recv with
    | some (_, q, ok) => ok && decide (a.seq ≠ some q)
    | none => false
  let w := match a.recv with
    | some (w, _, _) => w
    | none => 0
  if good then
    let s1 := s.setAxis n { a with recv := none, seq := a.recv.map (·.2.1), bad := false }
    let s2 := if 3 < fld w 31 29 then s1.bumpF p 0x1D0 15 0 1 else s1
    let s3 := if s.lf n 0x1CC 31 29 ≠ fld w 31 29 then s2.raise p 9 else s2
    (((s3.setReg p 0x1CC w).setRegF p 0x1C0 6 4 (fld w 31 29)).setReg p 0x1C4 (setBit (s3.reg p 0x1C4) 5 false), true)
  else
    let s1 := (s.setAxis n { a with recv := none, seq := a.badSeq, bad := true }).note 11 0 n (2 ^ n) 0
    if a.bad then (s1, false)
    else (((s1.bumpF p 0x1D0 15 0 1).setReg p 0x1C4 (setBit (s1.reg p 0x1C4) 5 true)).raise p 5, true)

/-! ## Step 2: inputs -/

/-- Encoder angle, position and speed at the boundary; none where the tracker supplies no angle (R330, R376). -/
def State.encoder (s : State) (n : Nat) : Sat (Option (Nat × Int × Int)) := do
  if s.angleOk n then
    let x := (s.trk n).pulsePos
    let pos := x / 0x1000
    let speed ← match (s.axis n).encPrev with
      | some q => satC (roundDiv ((pos - q) * 1000000000) (s.tPulse : Nat))
      | none => pure 0
    return some (wrapBits 32 (s.polePairs n * x + s.regN (loopP n) 0x0E4), pos, speed)
  else return none

/-- A general analogue input of the axis's die, as a code. -/
def State.analogIn (s : State) (n ch : Nat) : Nat := s.regF (adcP (n / 8)) (0x280 + 4 * ch) 13 0

def State.adcServes (s : State) (n : Nat) : Bool := !s.inState (adcP (n / 8)) [.excused, .fault]

/-- Count of the pulse input that LOOP_CFG names (R343, R374). -/
def State.pulseCount (s : State) (n : Nat) : Int := sext 32 (s.regN (angleP (8 * (n / 8) + s.lf n 0x040 18 16)) 0x184)

/-- The bus compensation factor (R320). -/
def State.busFactor (s : State) (n : Nat) : Int :=
  if s.lf n 0x0E8 3 3 = 0 then 0x1000000
  else
    let mv := s.analogIn n (s.lf n 0x0E8 2 0) * s.lf n 0x0E8 31 16 / 0x100
    if mv = 0 then 0x4000000
    else clampInt 0x400000 0x4000000 ((s.lf n 0x0D0 23 0 * 0x1000000 / mv : Nat) : Int)

/-- Entry to RUNNING (R353); the observer and the Ostinato keep what they hold. -/
def State.enterRunning (s : State) (n : Nat) (enc : Option (Nat × Int × Int)) : State :=
  let p := loopP n
  let byEnc := decide (s.angleSrc n = 0)
  let m : Int × Int := match byEnc, enc with
    | true, some (_, pos, speed) => (pos, speed)
    | _, _ => ((s.axis n).obsPos, 0)
  let v := clampInt (-(s.vLimit n)) (s.vLimit n) m.2
  let s1 := ((s.toState p .running).setReg64 p 0x200 (wrapBits 64 m.1)).setRegN p 0x1F8 (wrapBits 32 v)
  let s2 := (List.range 12).foldl (fun s k => s.setReg p (0x210 + 4 * k) 0) (s1.setReg p 0x1FC 0)
  let tgt := ((s.axis n).last).getD (m.1, 0)
  let s3 := s2.modAxis n fun a => { a with
    pTgt := tgt.1, vTgt := tgt.2, vFf := tgt.2, since := 0, stale := false, clamped := false, stopping := false, hold := none,
    still := 0, diff := [], blocked := false, count := s.pulseCount n, obsPos := m.1 }
  (s3.enterLaw n (if byEnc then 1 else 2)).torqueTaken

/-- The angle in use at the sample instant (Table 10-6, R333). In the Pulse that finds the tracker without an angle it is the
one of the Pulse before (DESIGN CHOICE, log entry 86). -/
def State.angleInUse (s : State) (n : Nat) (enc : Option (Nat × Int × Int)) : Nat :=
  let a := s.axis n
  let e := match enc with
    | some (th, _, _) => th
    | none => s.regN (loopP n) 0x1E4
  match s.law n with
  | 2 => a.openTh
  | 3 | 5 => a.thHat
  | 4 => a.rideTh
  | 6 =>
    let b := s.lf n 0x118 15 0
    if b ≤ a.blendK + 1 then e
    else angleAdd a.rideTh (truncDiv (sext 32 (wrapBits 32 ((e : Int) - a.rideTh)) * (a.blendK + 1 : Nat)) (b : Nat))
  | _ => e

/-! ## Step 4: the observer (R328) -/

/-- One component of the observer: the residual and the new back-EMF. -/
def observerSide (r gl ge i v e meas : Int) : Sat (Int × Int) := do
  let x ← satC (v - (← mul24 r i) - e)
  let pred ← satC (i + (← mul24 gl x))
  let err ← satC (meas - pred)
  let e2 ← satC (e - (← mul24 ge err))
  return (err, e2)

/-- One Pulse of the observer, with conf. `free` is the quotient where E is 0. -/
def State.observe (s : State) (n : Nat) (meas : Int × Int) (free : Int) : Sat (LoopAxis × Nat) := do
  let a := s.axis n
  let x ← observerSide (s.lg n 0x0EC) (s.lg n 0x0F0) (s.lg n 0x0F4) a.iPrev.1 a.vPrev.1 a.emf.1 meas.1
  let y ← observerSide (s.lg n 0x0EC) (s.lg n 0x0F0) (s.lg n 0x0F4) a.iPrev.2 a.vPrev.2 a.emf.2 meas.2
  let emf := (x.2, y.2)
  let big := max (magOf emf) (s.lg n 0x104)
  let num ← satC ((← termOf (-(cosOf a.thHat)) 30 emf.1) + (← termOf (-(sinOf a.thHat)) 30 emf.2))
  let delta ← satC (if big = 0 then free else truncDiv (num * 0x1000000) big)
  let w ← satC (a.wHat + (← termOf (s.lg n 0x0FC) (s.lf n 0x0E0 20 16) delta))
  let kick ← termOf (s.lg n 0x0F8) (s.lf n 0x0E0 12 8) delta
  let r := magOf (x.1, y.1)
  let m ← mul24 (s.lg n 0x0F0) big
  let conf := if m ≤ r then 0 else (65535 - r * 65536 / m).toNat
  return ({ a with iPrev := meas, emf := emf, wHat := w, thHat := angleAdd a.thHat (advance w s.tPulse + kick) }, conf)

/-! ## Step 5: the law state (R329 to R333) -/

/-- Transitions of Table 10-6, with conf and the angle in use. -/
def State.lawStep (s : State) (n conf th : Nat) : State :=
  let a := s.axis n
  let good := decide (s.lf n 0x100 15 0 ≤ conf)
  let w := absI a.wHat
  let ho := s.lg n 0x114
  match s.law n with
  | 2 =>
    let k := if good then a.high + 1 else 0
    let s1 := s.setAxis n { a with high := k }
    if 32 ≤ k ∧ ho ≤ w then s1.enterLaw n 3 else s1
  | 3 =>
    let k := if !good && decide (ho ≤ 2 * w) then a.low + 1 else 0
    let s1 := s.setAxis n { a with low := k }
    if 8 ≤ k then
      (s1.modAxis n fun a => { a with rideTh := th, rideW := a.wHat, rideAt := now s }).enterLaw n 4
    else if 2 * absI (s.lg n 0x1F8) < ho ∧ 2 * w < ho then
      (s1.modAxis n fun a => { a with openTh := th }).enterLaw n 2
    else s1
  | 4 =>
    let k := if good then a.high + 1 else 0
    let s1 := s.setAxis n { a with high := k }
    let next := angleAdd th (advance a.rideW s.tPulse)
    if 8 ≤ k ∧ (sext 32 (wrapBits 32 ((a.thHat : Int) - next))).natAbs ≤ 0x10000000 then s1.enterLaw n 3
    else if a.rideAt + 1000 * s.lf n 0x10C 15 0 ≤ now s then s1.rideEnd n
    else s1
  | 6 =>
    let s1 := s.setAxis n { a with blendK := a.blendK + 1 }
    if s.lf n 0x118 15 0 ≤ a.blendK + 1 then s1.enterLaw n 1 else s1
  | _ => s

/-! ## Step 6: set-point sources and the shaper (R338 to R344) -/

/-- STALE starts or ends; its start raises the interrupt and sends an event. -/
def State.setStale (s : State) (n : Nat) (b : Bool) : State :=
  let a := s.axis n
  let s1 := s.setAxis n { a with stale := b }
  if b && !a.stale then (s1.raise (loopP n) 4).note 0 0 n (2 ^ n) 2 else s1

/-- SOURCE PLANNER with the commit of this Pulse (R341). -/
def State.plannerStep (s : State) (n : Nat) (taken : Option (Int × Int)) : State :=
  let a := s.axis n
  match taken with
  | some (p, v) => (s.setStale n false).modAxis n fun a => { a with pTgt := p, vTgt := v, vFf := v, since := 0 }
  | none =>
    let s1 := s.setAxis n { a with since := a.since + 1 }
    if a.stale || decide (s.lf n 0x134 15 0 ≤ a.since + 1) then
      (s1.setStale n true).modAxis n fun a => { a with vTgt := 0, vFf := 0 }
    else s1

/-- SOURCE ANALOG (R342). -/
def State.analogStep (s : State) (n : Nat) : Sat State := do
  let ok := s.adcServes n
  let c : Int := (s.analogIn n (s.lf n 0x040 22 20) : Int) - s.lf n 0x140 15 0
  let db : Int := (s.lf n 0x140 31 16 : Nat)
  let v ← if !ok || decide (absI c ≤ db) then pure 0 else satC ((c - signOf c * db) * s.lg n 0x13C)
  return (s.setStale n !ok).modAxis n fun a => { a with vTgt := v }

/-- SOURCE PULSE (R343). -/
def State.pulseStep (s : State) (n : Nat) : Sat State := do
  let c := s.pulseCount n
  let d := sext 32 (wrapBits 32 (c - (s.axis n).count)) * s.lg n 0x138
  let v ← satC (roundDiv (d * 1000000000) (s.tPulse : Nat))
  return s.modAxis n fun a => { a with count := c, pTgt := a.pTgt + d, vFf := v }

def State.sourceStep (s : State) (n : Nat) (taken : Option (Int × Int)) : Sat State :=
  match s.lf n 0x040 1 0 with
  | 0 => pure (s.plannerStep n taken)
  | 1 => s.analogStep n
  | _ => s.pulseStep n

/-- SETPOINT_TIMEOUT (R341): the Pulse in which the timeout falls brings no commit. -/
def execSetpointTimeout (n : Fin 16) (s : State) : Host.Outcome State Fault Refusal :=
  let a := s.axis n.val
  if s.torque n.val ∧ s.lf n.val 0x040 1 0 = 0 ∧ a.commit = none ∧ !a.stale ∧ s.lf n.val 0x134 15 0 ≤ a.since + 1 then
    done ((s.setStale n.val true).modAxis n.val fun a => { a with vTgt := 0, vFf := 0 })
  else done s

/-- The engine runs its stop profile: SS1, SS2, HOLD or STOP. -/
def State.stopProfile (s : State) (n : Nat) : Bool :=
  decide (s.limitCmd n = 1) || decide (s.limitCmd n = 2) || decide (s.pageState (loopP n) = .hold) || (s.axis n).stopping

/-- One Pulse of the shaper, with CLAMPED (R339). -/
def State.shaper (s : State) (n : Nat) : Sat State := do
  let p := loopP n
  let a := s.axis n
  let stop := s.stopProfile n
  let pm := decide (s.lf n 0x040 4 4 = 1)
  let vl := s.vLimit n
  let v := s.lg n 0x1F8
  let hold := if stop then a.hold else none
  let aReg := if stop then 0x128 else 0x120
  let base : ShaperIn := ⟨pm, a.pTgt, a.vFf, a.vTgt, vl, s.lg n aReg, s.lg n (aReg + 4), (s.tPulse : Nat)⟩
  let c := if stop then (match hold with
      | some q => { base with posMode := true, pTgt := q, vFf := 0 }
      | none => { base with posMode := false, vTgt := 0 }) else base
  let want := if stop then 0 else if pm then absI a.vFf else absI a.vTgt
  let clamped := decide (vl < want) || decide (vl < absI v)
  let x := shaperStep c (sext 64 (s.reg64 p 0x200)) v (s.lg n 0x1FC)
  let v2 ← satC x.2.1
  let a2 ← satC x.2.2
  let s1 := ((s.setReg64 p 0x200 (wrapBits 64 x.1)).setRegN p 0x1F8 (wrapBits 32 v2)).setRegN p 0x1FC (wrapBits 32 a2)
  let h2 := if stop && hold.isNone && decide (x.2.1 = 0) && decide (x.2.2 = 0) then some x.1 else hold
  let s2 := s1.setAxis n { a with hold := h2, clamped := clamped }
  return if clamped && !a.clamped then (s2.bumpF p 0x1C8 31 16 1).raise p 0 else s2

/-! ## Measured speed and position (R330) -/

structure Motion where
  speed : Int
  pos : Int
  /-- Electrical speed. -/
  we : Int
  deriving DecidableEq, Repr

/-- Speed and position after the shaper's step. In observer states position integrates the speed. -/
def State.motion (s : State) (n : Nat) (enc : Option (Nat × Int × Int)) : Sat (State × Motion) := do
  let a := s.axis n
  let pp := s.polePairs n
  let v := s.lg n 0x1F8
  let p := sext 64 (s.reg64 (loopP n) 0x200)
  match s.law n with
  | 2 => return (s.setAxis n { a with obsPos := p }, ⟨v, p, ← satC (v * pp)⟩)
  | 3 | 4 | 5 =>
    let sp := roundDiv a.wHat (max 1 pp)
    let pos := a.obsPos + roundDiv (sp * s.tPulse) 1000000000
    return (s.setAxis n { a with obsPos := pos }, ⟨sp, pos, if s.law n = 4 then a.rideW else a.wHat⟩)
  | _ =>
    match enc with
    | some (_, pos, sp) => return (s.setAxis n { a with obsPos := pos }, ⟨sp, pos, ← satC (sp * pp)⟩)
    | none => return (s, ⟨0, a.obsPos, 0⟩)

/-- The following error (R344). -/
def State.followError (s : State) (n : Nat) (m : Motion) : Int :=
  (if s.lf n 0x040 1 0 = 2 then (s.axis n).pTgt else sext 64 (s.reg64 (loopP n) 0x200)) - m.pos

/-! ## Step 7: the Ostinato (R335, R336) -/

def State.ostEntry (s : State) (n j : Nat) : Int := s.lg n (0x800 + 4 * j)

/-- Entry of the present position. -/
def State.ostIndex (s : State) (n : Nat) (pos : Int) : Nat := (pos % 0x100000).toNat * s.lf n 0x144 9 0 / 0x100000

def State.ostOut (s : State) (n : Nat) (pos : Int) : Int :=
  let lim := s.lg n 0x150
  let size := s.lf n 0x144 9 0
  if s.lf n 0x190 1 0 = 1 ∨ s.lf n 0x190 1 0 = 2 then
    clampInt (-lim) lim (s.ostEntry n ((s.ostIndex n pos + s.lf n 0x144 23 16) % size))
  else 0

/-- The learned entry. -/
def State.ostLearn (s : State) (n j : Nat) (e : Int) : Sat Int := do
  let lim := s.lg n 0x150
  let t := s.ostEntry n j
  let kept := t - (← termOf t 16 (s.lf n 0x14C 15 0 : Nat))
  return clampInt (-lim) lim (← satC (kept + (← termOf (s.lg n 0x148) (s.lf n 0x0E0 28 24) e)))

/-- The conditions of R336 that are known at step 7: all but LIMITED. -/
def State.ostMayLearn (s : State) (n : Nat) (m : Motion) (limit : Int) : Bool :=
  !(s.axis n).clamped && decide (limit = 0) &&
  decide (s.lf n 0x190 1 0 = 1) && decide (s.pageState (loopP n) = .running) && decide (s.limitCmd n = 3) &&
  (decide (s.law n = 1) || decide (s.law n = 3)) && decide (s.lg n 0x154 ≤ absI m.speed) && decide (absI m.speed ≤ s.lg n 0x158) &&
  decide (absI (s.lg n 0x1FC) ≤ s.lg n 0x15C)

/-! ## Injection (R346) -/

/-- One step of the LFSR x^15 + x^14 + 1. -/
def prbsStep (x : Nat) : Nat := x / 2 + (if (x % 2 + x / 2 % 2) % 2 = 1 then 0x4000 else 0)

/-- The injection signal of this Pulse and what follows it. -/
def State.injStep (s : State) (n : Nat) : Sat (Int × Option Inject) := do
  match (s.axis n).inj with
  | none => return (0, none)
  | some j =>
    let amp := s.lg n 0x198
    let f0 : Int := (s.regN (loopP n) 0x19C : Nat)
    let f1 : Int := (s.regN (loopP n) 0x1A0 : Nat)
    let total : Int := match (s.axis n).cap with
      | some c => (max 1 (c.count * (fld c.cfg 23 16 + 1)) : Nat)
      | none => 1
    match s.lf n 0x194 1 0 with
    | 0 => return (0, some { j with n := j.n + 1 })
    | 2 =>
      let out ← if j.lfsr % 2 = 1 then pure amp else satC (-amp)
      let step := decide ((j.n + 1) % (s.lf n 0x194 7 4 + 1) = 0)
      return (out, some { j with n := j.n + 1, lfsr := if step then prbsStep j.lfsr else j.lfsr })
    | w =>
      let f := if w = 1 then f0 else f0 + roundDiv ((f1 - f0) * min (j.n : Int) total) total
      let ph := angleAdd j.ph f
      return (← termOf amp 30 (sinOf ph), some { j with n := j.n + 1, ph := ph })

/-! ## Step 8: state slots and the law (R321 to R323) -/

/-- The state sources, by code (Table 10-2). -/
def State.sources (s : State) (n : Nat) (dq emf : Int × Int) (m : Motion) (ost inj : Int) : Sat (List Int) := do
  let v ← if s.lf n 0x194 3 2 = 0 then satC (s.lg n 0x1F8 + inj) else pure (s.lg n 0x1F8)
  let iqRef := if s.law n = 2 then signOf (s.lg n 0x1F8) * s.lg n 0x110 else 0
  let p := sext 64 (s.reg64 (loopP n) 0x200)
  return [0, 0x1000000, ← satC (dq.1 - s.lg n 0x0D8), ← satC (dq.2 - iqRef), ← satC (v - m.speed), ← satC (p - m.pos), v,
    s.lg n 0x1FC, m.speed, ← termOf m.we 20 dq.1, ← termOf m.we 20 dq.2, emf.1, emf.2, ost,
    if s.lf n 0x194 3 2 = 3 then inj else 0]

/-- Selector byte of a slot. -/
def State.selector (s : State) (n k : Nat) : Nat := s.lf n (0x044 + 4 * (k / 4)) (8 * (k % 4) + 7) (8 * (k % 4))

/-- The slots of this Pulse and the new DIFFERENCE memories. -/
def State.slots (s : State) (n : Nat) (src : List Int) : Nat → Sat (List Int × List Int)
  | 0 => return ([], [])
  | k + 1 => do
    let (xs, ds) ← s.slots n src k
    let sel := s.selector n k
    let v := src.getD (sel % 64) 0
    let old := s.lg n (0x210 + 4 * k)
    let a := s.axis n
    let x ← match sel / 64 with
      | 1 => do
        let frozen := decide (s.law n = 4) || decide (s.law n = 5)
        if frozen || (a.blocked && decide (old.natAbs ≤ (old + v).natAbs)) then pure old else satC (old + v)
      | 2 => satC (v - a.diff.getD k 0)
      | _ => pure v
    return (xs ++ [x], ds ++ [v])

/-- One row of the gain matrix: coefficients from kOff, shifts from shOff. -/
def State.lawRow (s : State) (n kOff shOff : Nat) : List Int → Nat → Int → Sat Int
  | [], _, acc => satC acc
  | x :: xs, k, acc => do
    let t ← termOf (s.lg n (kOff + 4 * k)) (s.lf n (shOff + 4 * (k / 4)) (8 * (k % 4) + 4) (8 * (k % 4))) x
    s.lawRow n kOff shOff xs (k + 1) (acc + t)

/-- The current-limit term of this Pulse; 0 where it does not act (R323, R327). -/
def State.limitTerm (s : State) (n : Nat) (iq : Int) : Sat Int :=
  let lim := if s.law n = 4 then min (s.iLimit n) (s.lg n 0x108) else s.iLimit n
  let e := absI iq - lim
  if 0 < e then termOf (s.lg n 0x0DC) (s.lf n 0x0E0 4 0) e else pure 0

/-- The voltages before injection, with the current-limit term (R323, R332). -/
def State.lawOut (s : State) (n : Nat) (xs : List Int) (dq emf : Int × Int) (limit : Int) : Sat (Int × Int) := do
  let u ← if s.law n = 5 then do
      let d ← satC (emf.1 + (← mul24 (s.lg n 0x168) (-dq.1)))
      let q ← satC (emf.2 + (← mul24 (s.lg n 0x168) (-dq.2)))
      pure (d, q)
    else do
      let d ← s.lawRow n 0x050 0x0B0 xs 0 0
      let q ← s.lawRow n 0x080 0x0BC xs 0 0
      pure (d, q)
  return (u.1, ← satC (u.2 - signOf dq.2 * limit))

/-! ## Capture (R345, R347) -/

/-- The value a capture code names: sources of the latest computation and the codes 0x20 to 0x24; other codes are reserved. -/
def State.captureValue (s : State) (n code : Nat) : Word :=
  match code with
  | 0x20 => s.reg (loopP n) 0x1DC
  | 0x21 => s.reg (loopP n) 0x1E0
  | 0x22 => s.reg (loopP n) 0x1E4
  | 0x23 => s.reg (loopP n) 0x1F4
  | 0x24 => s.reg (loopP n) 0x1CC
  | 1 => 0x1000000
  | _ => if code ≤ 14 then word (wrapBits 32 ((s.axis n).sig.getD code 0)) else Config.freeWord s.freeCtr code

/-- The capture sample of this Pulse; with the last record the capture and its injection end. -/
def State.captureStep (s : State) (n : Nat) : State :=
  let a := s.axis n
  match a.cap with
  | none => s
  | some c =>
    if c.ended then s
    else
      let take := decide (c.ticks % (fld c.cfg 23 16 + 1) = 0) && decide (c.written < c.count)
      let s1 := if take then s.writeGrant (s.page (loopP n)).owner (c.offset + 64 + 8 * c.written)
          (leBytes 4 (s.captureValue n (fld c.cfg 5 0)).toNat ++ leBytes 4 (s.captureValue n (fld c.cfg 13 8)).toNat) else s
      let w := if take then c.written + 1 else c.written
      let c2 := { c with ticks := c.ticks + 1, written := w, first := if c.ticks = 0 then now s else c.first, ended := decide (c.count ≤ w) }
      s1.modAxis n fun a => { a with cap := some c2, inj := if c2.ended then none else a.inj }

/-- LOOP_FLAGS from the bits of this Pulse, with INJ_ACTIVE and CAPTURING. -/
def State.setFlags (s : State) (n bits : Nat) : State :=
  let a := s.axis n
  let capturing := match a.cap with
    | some c => !c.ended
    | none => false
  s.setRegN (loopP n) 0x1C4 (bits + (if a.bad then 0x20 else 0) + (if a.inj.isSome then 0x40 else 0) + if capturing then 0x80 else 0)

/-! ## The computation of a Pulse (R313) -/

/-- What ends the torque of an axis at a Pulse: a fault with its syndrome, or ARMED, or IDLE after a STOP. -/
inductive LoopEnd where
  | fault (code : Nat)
  | armed
  | idle
  deriving DecidableEq, Repr

/-- Duty cycles of 0 at this computation, and the page leaves RUNNING or HOLD. -/
def State.endTorque (s : State) (n : Nat) : LoopEnd → State
  | .fault c => s.loopFault n c (if c = 2 then fld (s.reg (loopP n) 0x208) 31 16 else 0)
  | .armed => s.leaveTorque n .armed
  | .idle => (s.leaveTorque n .idle).finishPending (loopP n) 2 none

/-- A stop that is over: IDLE where a STOP ran, else ARMED (R327, Table 10-9). -/
def State.stopEnd (s : State) (n : Nat) : LoopEnd := if (s.axis n).stopping then .idle else .armed

/-- Adds the saturations of a computation to LOOP_EVENTS and raises SAT (R317). -/
def State.countSats (s : State) (n k : Nat) : State :=
  if k = 0 then s else (s.bumpF (loopP n) 0x1C8 15 0 k).raise (loopP n) 1

/-- LOOP_PULSE_EXCESS (R343); by a scale of 0 a free value. -/
def State.pulseExcess (s : State) (n : Nat) : Int :=
  let scale := s.lg n 0x138
  let gap := (s.axis n).pTgt - sext 64 (s.reg64 (loopP n) 0x200)
  if s.lf n 0x040 1 0 ≠ 2 then 0
  else if scale = 0 then sext 32 (Config.freeWord s.freeCtr 100).toNat
  else roundDiv (signOf scale * gap) (absI scale)

/-- Steps 7 to 11 but the capture sample: the state, and the bits of LOOP_FLAGS. With `fin` the computation writes duty cycles
of 0 and learns nothing. Step 7 stores the learned entry, and the law reads it; a Pulse that step 10 finds LIMITED takes the
entry back (R313, R336; DEDUCED, log entry 86). -/
def State.loopDrive (s : State) (n th : Nat) (dq emf : Int × Int) (conf : Nat) (m : Motion) (fin : Option LoopEnd) :
    Sat (State × Nat) := do
  let p := loopP n
  let a := s.axis n
  let j := s.ostIndex n m.pos
  let limit ← s.limitTerm n dq.2
  let (sig, inj) ← s.injStep n
  let src0 ← s.sources n dq emf m (s.ostOut n m.pos) sig
  let may := s.ostMayLearn n m limit && fin.isNone
  let t ← if may then s.ostLearn n j (src0.getD (s.lf n 0x144 29 24) 0) else pure (s.ostEntry n j)
  let s1 := if may then s.setRegN p (0x800 + 4 * j) (wrapBits 32 t) else s
  let src := src0.set 13 (s1.ostOut n m.pos)
  let (xs, ds) ← s1.slots n src 12
  let v ← s1.lawOut n xs dq emf limit
  let point := s.lf n 0x194 3 2
  let ud ← if point = 1 then satC (v.1 + sig) else pure v.1
  let uq ← if point = 2 then satC (v.2 + sig) else pure v.2
  let (md, limited) ← vectorLimit (ud, uq) (s.busFactor n) (s.lg n 0x0D4)
  let (ab, duty) ← dutyCycles md (angleAdd th (advance15 m.we s.tPulse))
  let learn := may && !limited
  let s2 := if may && limited then s1.setRegN p (0x800 + 4 * j) (wrapBits 32 (s.ostEntry n j)) else s1
  let blocked := limited || decide (limit ≠ 0) || decide (s.pageState (pstageP n) ≠ .running)
  let s3 := s2.setAxis n { a with
    inj := inj, diff := ds, vPrev := ab, blocked := blocked, sig := src,
    openTh := if s.law n = 2 then angleAdd a.openTh (advance m.we s.tPulse) else a.openTh,
    rideTh := if s.law n = 4 ∨ s.law n = 6 then angleAdd a.rideTh (advance a.rideW s.tPulse) else a.rideTh }
  let s4 := match fin with
    | some e => s3.endTorque n e
    | none => s3.dutyWrite n (duty.getD 0 0) (duty.getD 1 0) (duty.getD 2 0)
  let s5 := (List.range 12).foldl (fun s k => s.setRegN p (0x210 + 4 * k) (wrapBits 32 (xs.getD k 0))) s4
  let s6 := (((s5.setRegN p 0x1D4 (wrapBits 32 dq.1)).setRegN p 0x1D8 (wrapBits 32 dq.2)).setRegN p 0x1DC (wrapBits 32 ud)).setRegN p 0x1E0 (wrapBits 32 uq)
  let s7 := (((s6.setRegN p 0x1E4 th).setRegN p 0x1E8 (wrapBits 32 m.speed)).setReg64 p 0x1EC (wrapBits 64 m.pos)).setRegN p 0x1F4 conf
  let excess ← satC (s.pulseExcess n)
  let bits := (if a.clamped then 1 else 0) + (if limited then 2 else 0) + (if a.stale then 4 else 0) +
    (if limit ≠ 0 then 8 else 0) + if learn then 16 else 0
  return (s7.setRegN p 0x20C (wrapBits 32 excess), bits)

/-- Steps 2 to 6 for an axis with torque, then the rest. `fin` is what step 1 or 2 has found to end it. -/
def State.loopCompute (s : State) (n : Nat) (enc : Option (Nat × Int × Int)) (taken : Option (Int × Int)) (fin : Option LoopEnd) :
    Sat (State × Nat) := do
  let p := loopP n
  let th := s.angleInUse n enc
  let iab ← clarke (s.phaseCurrent n 0) (s.phaseCurrent n 1)
  let dq ← park iab th
  let (a, conf) ← s.observe n iab (sext 32 (Config.freeWord s.freeCtr 101).toNat)
  let emf ← park a.emf th
  let wasTrack := decide (s.law n = 3)
  let s1 := (s.setAxis n a).lawStep n conf th
  -- the observer goes on from the extrapolated angle (R331)
  let s2 := if wasTrack && decide (s1.law n = 4) then
      s1.modAxis n fun a => { a with thHat := angleAdd th (advance a.rideW s.tPulse) } else s1
  let s3 ← (← s2.sourceStep n taken).shaper n
  let (s4, m) ← s3.motion n enc
  let err := s4.followError n m
  let s5 := s4.setRegN p 0x208 (wrapBits 32 (← satC err))
  let stops := decide (s5.limitCmd n = 1) || (s5.axis n).stopping
  let rest := stops && decide (s5.lg n 0x1F8 = 0) && decide (absI m.speed ≤ s5.lg n 0x164)
  let k := if rest then (s5.axis n).still + 1 else 0
  let s6 := s5.modAxis n fun a => { a with still := k }
  let late := if s5.lg n 0x130 < absI err then some (LoopEnd.fault 2) else if 8 ≤ k then some (s5.stopEnd n) else none
  s6.loopDrive n th dq emf conf m (fin <|> late)

/-- Step 11, then: the saturations counted, the capture sample, the flags. -/
def State.loopFinish (s : State) (n sats bits : Nat) : State := (((s.countSats n sats).captureStep n).setFlags n bits).drawFree

/-- A computation of an axis with torque, to its end. -/
def State.loopRun (s : State) (n : Nat) (enc : Option (Nat × Int × Int)) (taken : Option (Int × Int)) (fin : Option LoopEnd)
    (sats : Nat) : State :=
  let r := s.loopCompute n enc taken fin sats
  r.1.1.loopFinish n r.2 r.1.2

/-- Whether an axis with torque that has latched its word loses the torque: STO, or the encoder it needs gives no angle
(R327, Table 10-8). -/
def State.earlyEnd (s : State) (n : Nat) (enc : Option (Nat × Int × Int)) : Option LoopEnd :=
  if s.limitCmd n = 0 then some (s.stopEnd n)
  else if (s.law n = 1 ∨ s.law n = 6) ∧ enc = none then some (.fault 5)
  else none

/-- The computation of Loop Engine n at a Pulse boundary (R313). Outside RUNNING and HOLD the port gets duty cycles of 0
(R314); a capture runs on in every state (R345). -/
def State.loopPulse (s : State) (n : Nat) : State :=
  let p := loopP n
  let s0 := s.flushGains n
  if !s0.inState p activeStates then
    let s1 := (s0.dutyOff n).modAxis n fun a => { a with recv := none }
    if s0.pageState p = .off then s1 else (s1.captureStep n).setFlags n 0
  else
    let (s1, ok) := s0.latchWord n
    let taken := (s1.axis n).commit
    let s2 := s1.modAxis n fun a => { a with commit := none, last := if taken.isSome then taken else a.last }
    let (enc, sats) := s2.encoder n 0
    let s3 := s2.modAxis n fun a => { a with encPrev := enc.map (·.2.1) }
    let cmd := s3.limitCmd n
    let s4 := if cmd ≠ 3 ∨ s3.pageState p ≠ .running then s3.injCut n else s3
    if s4.pageState p = .armed then
      if !ok then (s4.loopFault n 3 0).loopFinish n sats 0
      else if cmd ≠ 3 ∧ cmd ≠ 2 then (s4.dutyOff n).loopFinish n sats 0
      else if s4.angleSrc n = 0 ∧ enc = none then (s4.loopFault n 5 0).loopFinish n sats 0
      else (s4.enterRunning n enc).loopRun n enc taken none sats
    else s4.loopRun n enc taken (if ok then s4.earlyEnd n enc else some (.fault 3)) sats

/-- CAPTURE_DONE (R347): the header and the Cue, after the last record. -/
def execCaptureDone (n : Fin 16) (s : State) : Host.Outcome State Fault Refusal :=
  match (s.axis n.val).cap with
  | none => done s
  | some c =>
    if !c.ended then done s
    else
      let head := leBytes 4 c.written ++ leBytes 4 ((if c.inj then 1 else 0) + if c.cut then 2 else 0) ++ leBytes 8 c.first ++
        leBytes 4 c.cfg.toNat ++ List.replicate 44 0
      let s1 := s.writeGrant (s.page (loopP n.val)).owner c.offset head
      let s2 := s1.modAxis n.val fun a => { a with cap := none, inj := none }
      done ((s2.raise (loopP n.val) 6).hwSignal (0x60 + n.val) (now s))

/-! ## The LOOP page (Table 10-9) -/

def State.loopCfgOk (s : State) (n : Nat) : Bool :=
  let size := s.lf n 0x144 9 0
  let positive := fun (off : Nat) => decide (0 < s.lg n off)
  decide (s.lf n 0x040 1 0 ≠ 3) && decide (s.angleSrc n ≠ 3) && decide (s.lf n 0x144 29 24 ≤ 14) &&
  ((List.range 12).all fun k => decide (s.selector n k % 64 ≤ 14) && decide (s.selector n k / 64 ≠ 3)) &&
  decide (1 ≤ s.polePairs n) && decide (s.polePairs n ≤ 64) && [16, 32, 64, 128, 256, 512].contains size &&
  decide (s.regN (loopP n) 0x0D4 ≤ 0x1279A74) && decide (s.regN (loopP n) 0x0C8 ≠ 0) && decide (s.regN (loopP n) 0x0D0 ≠ 0) &&
  decide (s.regN (loopP n) 0x130 ≠ 0) && [0x0CC, 0x11C, 0x120, 0x124, 0x128, 0x12C].all positive &&
  !(decide (s.lf n 0x040 1 0 = 1) && decide (s.lf n 0x040 4 4 = 1)) && !(decide (s.lf n 0x040 1 0 = 2) && decide (s.lf n 0x040 4 4 = 0)) &&
  decide (0 ≤ s.lg n 0x150) && decide (0 ≤ s.lg n 0x160)

/-- The pulse input or ADC block named serves (SOURCE). -/
def State.loopSourceOk (s : State) (n : Nat) : Bool :=
  let d := n / 8
  (decide (s.lf n 0x040 1 0 ≠ 2) || !s.isExcused (96 + 8 * d + s.lf n 0x040 18 16)) &&
  ((decide (s.lf n 0x040 1 0 ≠ 1) && decide (s.lf n 0x0E8 3 3 = 0)) || !s.isExcused (144 + d))

def loopEnable (s : State) (n : Nat) : Ans × State :=
  let p := loopP n
  let s0 := s.flushGains n
  match s.pageState p with
  | .hold => crcGate s p (ansDone, (s.modAxis n fun a => { a with hold := none }).toState p .running)
  | .idle =>
    if !s0.loopCfgOk n then (ansArg 1 0, s0)
    else if !s0.loopSourceOk n then (ansArg 4 0, s0)
    else if s0.angleSrc n = 0 ∧ s0.pageState (angleP n) ≠ .running then (ansArg 5 0, s0)
    else crcGate s0 p (ansDone, (s0.modAxis n fun a =>
      { a with recv := none, seq := none, bad := false, encPrev := none }).toState p .armed)
  | _ => (ansState, s)

def loopDisable (s : State) (n : Nat) : Ans × State :=
  if s.inState (loopP n) [.armed, .hold] then (ansDone, s.leaveTorque n .idle) else (ansState, s)

def loopQuiesce (s : State) (n : Nat) : Ans × State :=
  if s.pageState (loopP n) = .running then
    (ansDone, ((s.injCut n).modAxis n fun a => { a with hold := none }).toState (loopP n) .hold)
  else (ansDone, s)

def loopStop (s : State) (n : Nat) : Ans × State :=
  match s.pageState (loopP n) with
  | .armed => (ansDone, s.leaveTorque n .idle)
  | .running | .hold => (ansAccepted, s.modAxis n fun a => { a with stopping := true, still := 0, hold := if s.pageState (loopP n) = .hold then a.hold else none })
  | _ => (ansDone, s)

/-- RESET_PAGE: status and RC registers are cleared; RW registers and the table are kept. -/
def loopReset (s : State) (n : Nat) : Ans × State :=
  let p := loopP n
  if !s.inState p [.idle, .fault] then (ansState, s)
  else (ansDone, if s.pageState p = .fault then (s.resetRegs p 0x1C0 0x23C).toState p .idle else s.resetRegs p 0x1C0 0x23C)

/-- CAPTURE (R345, R347). -/
def execCapture (r : Requester) (n : Fin 16) (arg : BitVec 24) (s : State) : Host.Outcome State Fault Refusal :=
  let k := n.val
  done (s.pageCmd r (loopP k) 0x10 arg fun s _ =>
    let inj := arg.getLsbD 0
    let count := s.lf k 0x1A8 15 0
    let off := 64 * s.lf k 0x1AC 23 0
    if !s.inState (loopP k) activeStates then (ansState, s)
    else if (s.axis k).cap.isSome then (ansArg 7 0, s)
    else if inj && !(decide (s.pageState (loopP k) = .running) && decide (s.limitCmd k = 3) && decide (absI (s.lg k 0x198) ≤ s.lg k 0x160)) then
      (ansArg 6 0, s)
    else if count = 0 ∨ !s.inGrant (s.page (loopP k)).owner off (64 + 8 * count) then (ansArg 7 0, s)
    else
      (ansDone, s.modAxis k fun a => { a with
        cap := some ⟨s.reg (loopP k) 0x1A4, count, off, 0, 0, 0, inj, false, false⟩,
        inj := if inj then some ⟨0, s.lf k 0x194 30 16, 0⟩ else none }))

/-- CAP_STOP (R345). -/
def execCapStop (r : Requester) (n : Fin 16) (arg : BitVec 24) (s : State) : Host.Outcome State Fault Refusal :=
  done (s.pageCmd r (loopP n.val) 0x11 arg fun s _ =>
    if s.inState (loopP n.val) [.off, .excused, .locked] then (ansState, s)
    else (ansDone, s.modAxis n.val fun a => { a with inj := none, cap := a.cap.map fun c => { c with ended := true } }))

/-- OST_CLEAR (R351, R337). -/
def execOstClear (r : Requester) (n : Fin 16) (arg : BitVec 24) (s : State) : Host.Outcome State Fault Refusal :=
  done (s.pageCmd r (loopP n.val) 0x12 arg fun s _ =>
    if s.inState (loopP n.val) [.off, .excused, .locked] ∨ s.lf n.val 0x190 1 0 = 1 then (ansState, s)
    else (ansDone, s.resetRegs (loopP n.val) 0x800 0xFFC))

end Sys2Proof.Machine
end

