-- ==== Sys2Proof/Machine/Rubric.lean ====
section
/-!
DEFINITION. The Rubric (section 12.3): its image, its sources, the rule kinds, the evaluation of R413, and the checks of
ENABLE (Table 12-14).
-/

namespace Sys2Proof.Machine

/-! ## The image (R410) -/

/-- The image the RUBRIC page holds. -/
def State.pageImage (s : State) : Image :=
  let head := (List.range 16).foldl (fun m k => tabSet 0 m (0x040 + 4 * k) (s.reg rubricP (0x040 + 4 * k))) []
  head ++ (s.regs.filter fun e => decide (regKey rubricP 0x400 ≤ e.1) && decide (e.1 < regKey rubricP 0x4000)).map fun e =>
    (e.1 - regKey rubricP 0, e.2)

/-- Bytes of n words of an image. -/
def imageBytes (img : Image) (off n : Nat) : List Byte := (List.range n).flatMap fun i => leBytes 4 (imgWord img (off + 4 * i)).toNat

/-- The CRC over offsets 0x400 to 0x3FFF that RUB_IMAGE_CRC holds. -/
def imageCrc (img : Image) : Word := crc32 (imageBytes img 0x400 3840)

/-- A source entry (Table 12-3). -/
structure Source where
  kind : Nat
  fmt : Nat
  sel : Nat
  addr : Nat
  hr : Nat
  axes : Nat
  /-- No reserved bit is set. -/
  clean : Bool
  deriving DecidableEq, Repr

def sourceAt (img : Image) (k : Nat) : Source :=
  let w := fun (j : Nat) => imgWord img (0x800 + 16 * k + 4 * j)
  { kind := fld (w 0) 3 0, fmt := fld (w 0) 7 4, sel := fld (w 0) 15 8, addr := (w 1).toNat + 0x100000000 * (w 2).toNat,
    hr := fld (w 3) 2 0, axes := fld (w 3) 31 16, clean := decide (fld (w 0) 31 16 = 0) && decide (fld (w 3) 15 3 = 0) }

/-- A rule record (Table 12-4). -/
structure Rule where
  kind : Nat
  verdict : Nat
  latch : Bool
  fast : Bool
  en : Bool
  a : Nat
  b : Nat
  hold : Nat
  axes : Nat
  lin : Nat
  jpm : Nat
  ilim : Nat
  maxN : Nat
  param : List Word
  clean : Bool
  deriving DecidableEq, Repr

def ruleAt (img : Image) (i : Nat) : Rule :=
  let w := fun (j : Nat) => imgWord img (0x2000 + 32 * i + 4 * j)
  { kind := fld (w 0) 2 0, verdict := fld (w 0) 6 4, latch := bit (w 0) 7, fast := bit (w 0) 8, en := bit (w 0) 9,
    a := fld (w 0) 15 10, b := fld (w 0) 21 16, hold := fld (w 0) 31 24, axes := fld (w 1) 15 0, lin := fld (w 1) 31 16,
    jpm := fld (w 2) 9 0, ilim := fld (w 2) 23 16, maxN := fld (w 2) 31 24, param := (List.range 5).map fun j => w (3 + j),
    clean := decide (fld (w 0) 3 3 = 0) && decide (fld (w 0) 23 22 = 0) && decide (fld (w 2) 15 10 = 0) }

def Rule.p (r : Rule) (k : Nat) : Word := r.param.getD k 0

/-- Rules evaluated: RUB_COUNT, at most 256. -/
def ruleCount (img : Image) : Nat := min (imgF img 0x040 8 0) 256

def axisKind (img : Image) (a : Nat) : Nat := imgF img (0x400 + 32 * a) 1 0
def axisScale (img : Image) (a : Nat) : Nat := (imgWord img (0x404 + 32 * a)).toNat
def axisZero (img : Image) (a : Nat) : Int := sext 32 (imgWord img (0x408 + 32 * a)).toNat
def axisStopMs (img : Image) (a : Nat) : Nat := imgF img (0x40C + 32 * a) 15 0
def axisWindow (img : Image) (a : Nat) : Int := sext 32 (imgWord img (0x410 + 32 * a)).toNat

/-! ## Sources (R411) -/

/-- A range of a source lies in its homeroom's grants and holds no poison. -/
def State.srcReads (s : State) (x : Source) (off n : Nat) : Bool :=
  s.reachesAll x.hr (x.addr + off) n && !s.rangePoison (x.addr + off) n

/-- The header of a detection list, where it can be judged: with its MAGIC, unpoisoned, POISON = 0 (R267). -/
def State.detHead (s : State) (x : Source) : Option (List Byte) :=
  if !s.srcReads x 0 64 then none
  else
    let h := s.readBytes x.addr 64
    if wordAt h 0 = 0x4C445044 ∧ !bit (wordAt h 12) 2 then some h else none

/-- The memory a rule reads through a source, where its homeroom's grants reach it. -/
def State.srcRanges (s : State) (r : Rule) (x : Source) : List (Nat × Nat) :=
  let l := match x.kind with
    | 1 => [(x.addr, if r.kind = 4 then (r.p 0).toNat + 4 else 4)]
    | 4 => [(x.addr, 32)]
    | 5 => match s.detHead x with
      | some h => if r.kind ≠ 5 ∧ halfAt h 4 ≤ r.maxN then [(x.addr, 64), (x.addr + 64, 16 * halfAt h 4)] else [(x.addr, 64)]
      | none => [(x.addr, 64)]
    | _ => []
  l.filter fun e => s.reachesAll x.hr e.1 e.2

/-- A rule meets poison in what it reads, or a detection list says that an input of it was poisoned: a CHECKSUM event (R171). -/
def State.srcPoison (s : State) (r : Rule) (x : Source) : Bool :=
  (s.srcRanges r x).any fun e => s.rangePoison e.1 e.2 ||
    (decide (x.kind = 5) && decide (s.readWord x.addr = 0x4C445044) && bit (s.readWord (x.addr + 12)) 2)

/-- An event of proc.events matches a source: its class, and its own axis where AXES names axes (R411). -/
def eventMatches (x : Source) (e : Nat × Nat × Nat) : Bool :=
  decide (x.kind = 6) && decide (e.1 = x.sel) && (decide (x.axes = 0) || (decide (e.2.1 ≠ 0xFFFF) && decide (e.2.1 &&& x.axes ≠ 0)))

/-- Events a rule counts: those since its previous evaluation of either kind (R411, R414). -/
def State.eventValue (s : State) (r : Rule) (x : Source) : Nat :=
  ((if r.fast then s.proc.events.drop s.proc.fastEvents else s.proc.events).filter (eventMatches x)).length

/-- Entries of a pair into DEMAND or FAULT since the rule's previous evaluation (Table 12-5). -/
def State.entryValue (s : State) (r : Rule) (x : Source) : Nat :=
  ((if r.fast then s.proc.entries.drop s.proc.fastEntries else s.proc.entries).filter fun k => decide (k = x.sel)).length

/-- State of a SAFE_IN pair: 0 RUN, 1 DEMAND, 2 FAULT, 3 UNUSED. -/
def State.pairState (s : State) (k : Nat) : Nat := s.regF safeioP 0x084 (2 * k + 1) (2 * k)

/-- The LOOP quantities of Table 12-3. -/
def State.loopQuantity (s : State) (n q : Nat) : Word :=
  match q with
  | 0 => s.reg (loopP n) 0x1E8
  | 1 => s.reg (loopP n) 0x208
  | 2 => s.reg (loopP n) 0x1D8
  | 3 => word (s.law n)
  | _ => s.reg (loopP n) 0x1F4

def State.axisThere (s : State) (a : Nat) : Bool := decide (a < s.chip.grade.axes) && !s.isExcused (96 + a)

/-- A byte of the latest accepted COMMAND; the manual gives none before any (free value). -/
def State.cansByte (s : State) (k : Nat) : Nat :=
  match s.proc.command with
  | some (f, _) => byteAt f k
  | none => (Config.freeWord s.freeCtr (200 + k)).toNat % 256

/-- Probation, PROC_STATE[4]. -/
def State.probation (s : State) : Bool := bit (s.reg procP 0x040) 4

/-- The value of a source as a word; none: unreadable. -/
def State.srcValue (s : State) (r : Rule) (x : Source) : Option Word :=
  match x.kind with
  | 1 => if s.srcReads x 0 4 then some (s.readWord x.addr) else none
  | 2 => if s.axisThere (x.sel % 16) then some (s.loopQuantity (x.sel % 16) (x.sel / 16)) else none
  | 3 => if s.pairState x.sel = 3 then none else some (word (s.pairState x.sel))
  | 6 => some (word (s.eventValue r x))
  | 7 => some (word (s.cansByte x.sel))
  | 8 => some (word (if x.sel = 0 then s.level else if x.sel = 1 then s.regF tempoP 0x080 1 0 else if s.probation then 1 else 0))
  | _ => none

def isFp (x : Source) : Bool := decide (x.kind = 1) && decide (x.fmt = 8)

/-! ## Rule kinds (Table 12-5) -/

def absFl : Fl → Fl
  | .fin _ m e => .fin false m e
  | .inf _ => .inf false
  | .nan => .nan

/-- RANGE. -/
def outOfRange (x : Source) (v lo hi : Word) : Bool :=
  if isFp x then (f32 v.toNat).isNan || (f32 v.toNat).lt (f32 lo.toNat) || (f32 hi.toNat).lt (f32 v.toNat)
  else decide (sext 32 v.toNat < sext 32 lo.toNat) || decide (sext 32 hi.toNat < sext 32 v.toNat)

/-- RATE: the difference is taken exactly. -/
def tooFast (x : Source) (v old lim : Word) : Bool :=
  if isFp x then
    let d := absFl ((f32 v.toNat).add (f32 old.toNat).neg)
    d.isNan || (f32 lim.toNat).lt d
  else decide (sext 32 lim.toNat < (((sext 32 v.toNat - sext 32 old.toNat).natAbs : Nat) : Int))

/-- A source value as binary32. -/
def asF32 (x : Source) (v : Word) : Nat := if isFp x then v.toNat else f32ofInt (sext 32 v.toNat)

/-- CROSS, in FP32 with one rounding for the product and one for the difference. -/
def crossed (xa xb : Source) (a b k tol : Word) : Bool :=
  let d := absFl (f32 (f32sub (asF32 xa a) (f32mul k.toNat (asF32 xb b))))
  d.isNan || (f32 tol.toNat).lt d

/-- A corner of the quadrilateral of an ENVELOPE rule. -/
def corner (r : Rule) (k : Nat) : Int × Int := ((fld (r.p (1 + k % 4)) 15 0 : Nat), (fld (r.p (1 + k % 4)) 31 16 : Nat))

def crossProduct (p q f : Int × Int) : Int := (q.1 - p.1) * (f.2 - p.2) - (q.2 - p.2) * (f.1 - p.1)

/-- The foot point lies inside (R412). -/
def footInside (r : Rule) (f : Int × Int) : Bool := (List.range 4).all fun k => decide (0 ≤ crossProduct (corner r k) (corner r (k + 1)) f)

/-- The corners turn one way (R412). -/
def quadOk (r : Rule) : Bool := (List.range 4).all fun k =>
  decide (0 ≤ crossProduct (corner r k) (corner r (k + 1)) (corner r (k + 2)))

/-- A detection entry counts for an ENVELOPE rule. -/
def entryIn (r : Rule) (e : List Byte) : Bool :=
  decide (byteAt e 12 < 32) && bit (r.p 0) (byteAt e 12) && footInside r ((((halfAt e 0 + halfAt e 4) / 2 : Nat)), (halfAt e 6 : Nat))

/-- Header and entries of a list with at most MAX_ENTRIES entries: none unreadable, some none too many. -/
def State.detList (s : State) (r : Rule) (x : Source) : Option (Option (List Byte × List Byte)) :=
  match s.detHead x with
  | none => none
  | some h =>
    let n := halfAt h 4
    if r.maxN < n then some none
    else if s.srcReads x 64 (16 * n) then some (some (h, s.readBytes (x.addr + 64) (16 * n)))
    else none

/-- CHECKSUM of a list or of memory. -/
def State.badChecksum (s : State) (r : Rule) (x : Source) : Bool :=
  match x.kind with
  | 5 => match s.detList r x with
    | some (some (h, es)) => decide (crc32 (h.take 0x3C ++ es) ≠ wordAt h 0x3C)
    | _ => true
  | 1 =>
    let n := (r.p 0).toNat
    !s.srcReads x 0 (n + 4) || decide (crc32 (s.readBytes x.addr n) ≠ s.readWord (x.addr + n))
  | _ => decide (s.eventValue r x ≠ 0)

def State.badEnvelope (s : State) (r : Rule) (x : Source) : Bool :=
  match s.detList r x with
  | some (some (h, es)) => (List.range (halfAt h 4)).any fun k => entryIn r ((es.drop (16 * k)).take 16)
  | _ => true

/-- FRESH. The age of a COMMAND before any was accepted is a free value. -/
def State.stale (s : State) (r : Rule) (x : Source) : Bool :=
  let lim := 1000 * fld (r.p 0) 23 0
  let old := fun (t : Nat) => decide (t + lim < now s)
  match x.kind with
  | 4 => !s.srcReads x 0 32 || old (s.readNat (x.addr + 8) 8)
  | 5 => match s.detHead x with
    | some h => old (leNat ((h.drop 0x10).take 8))
    | none => true
  | _ => match s.proc.command with
    | some (_, t) => old t
    | none => decide (lim < (Config.freeWord s.freeCtr 220).toNat)

/-- COUNT: the values of the latest WINDOW Beats, this one with the value of this evaluation. -/
def State.countRun (s : State) (r : Rule) (x : Source) (run : RuleRun) : Bool × RuleRun :=
  let b := s.proc.beats
  let v := if x.kind = 3 then s.entryValue r x else s.eventValue r x
  let recent := run.hist.filter fun e => decide (b < e.1 + fld (r.p 0) 23 8)
  let hist := if v = 0 then recent else (b, v) :: recent
  (decide (fld (r.p 0) 7 0 ≤ (hist.map (·.2)).sum) || (decide (x.kind = 3) && decide (s.pairState x.sel = 3)), { run with hist := hist })

/-- One rule at one boundary: violated or unreadable, and what it carries on. RATE compares with the previous Beat
evaluation. -/
def State.ruleBad (s : State) (img : Image) (r : Rule) (run : RuleRun) : Bool × RuleRun :=
  let x := sourceAt img r.a
  match r.kind with
  | 1 => match s.srcValue r x with
    | some v => (outOfRange x v (r.p 0) (r.p 1), run)
    | none => (true, run)
  | 2 => match s.srcValue r x with
    | some v => ((match run.prev with
        | some o => tooFast x v o (r.p 0)
        | none => false), { run with prev := some v })
    | none => (true, { run with prev := none })
  | 3 =>
    let y := sourceAt img r.b
    match s.srcValue r x, s.srcValue r y with
    | some a, some b => (crossed x y a b (r.p 0) (r.p 1), run)
    | _, _ => (true, run)
  | 4 => (s.badChecksum r x, run)
  | 5 => (s.stale r x, run)
  | 6 => (s.badEnvelope r x, run)
  | 7 => s.countRun r x run
  | _ => (true, run)

/-! ## Evaluation (R413) -/

def State.ruleRun (s : State) (i : Nat) : RuleRun := tabGet RuleRun.atReset s.proc.runs i

def State.setRuleRun (s : State) (i : Nat) (x : RuleRun) : State :=
  { s with proc := { s.proc with runs := tabSet RuleRun.atReset s.proc.runs i x } }

def State.ruleActive (s : State) (i : Nat) : Bool := bit (s.reg procP (0x050 + 4 * (i / 32))) (i % 32)
def State.ruleLatched (s : State) (i : Nat) : Bool := bit (s.reg procP (0x070 + 4 * (i / 32))) (i % 32)

def State.setRuleBits (s : State) (i : Nat) (active latched : Bool) : State :=
  let a := 0x050 + 4 * (i / 32)
  let l := 0x070 + 4 * (i / 32)
  (s.setReg procP a (setBit (s.reg procP a) (i % 32) active)).setReg procP l (setBit (s.reg procP l) (i % 32) latched)

/-- One evaluation of rule i (R413). A rule that becomes active is logged, a new latch raises LATCH_SET. -/
def State.evalRule (s : State) (img : Image) (fast : Bool) (i : Nat) : State :=
  let r := ruleAt img i
  let old := s.ruleRun i
  let x := if r.en then s.ruleBad img r old else (false, old)
  let bad := x.1
  let latched := s.ruleLatched i || (bad && r.latch)
  let active := bad || decide (0 < old.held) || latched
  let held := if bad then r.hold else if fast then old.held else old.held - 1
  let s1 := (s.setRuleRun i { x.2 with held := held, bad := bad }).setRuleBits i active latched
  let s2 := if active && !s.ruleActive i then s1.log 0 0 0 r.verdict i else s1
  if latched && !s.ruleLatched i then s2.raise procP 5 else s2

/-- The rules of a pass that read source k. -/
def readersOf (img : Image) (fast : Bool) (k : Nat) : List Rule :=
  ((List.range (ruleCount img)).map (ruleAt img)).filter fun r =>
    r.en && (!fast || r.fast) && (decide (r.a = k) || (decide (r.kind = 3) && decide (r.b = k)))

/-- Sources that the rules of a pass read and that meet poison, as CHECKSUM events (R171). -/
def State.poisonEvents (s : State) (img : Image) (fast : Bool) : List (Nat × Nat × Nat) :=
  ((List.range 64).filter fun k => (readersOf img fast k).any fun r => s.srcPoison r (sourceAt img k)).map fun k => (7, 0xFFFF, k)

/-- What a pass reads of memory meets the errors that stand in it (R177). -/
def State.lookSources (s : State) (img : Image) (fast : Bool) : State :=
  let all := (List.range 64).flatMap fun k => (readersOf img fast k).flatMap fun r => s.srcRanges r (sourceAt img k)
  all.eraseDups.foldl (fun s e => s.seeErrors e.1 e.2 engineSrc 0) s

/-- A pass over the rules in ascending index; at a Pulse boundary only over the FAST rules. -/
def State.evalPass (s : State) (img : Image) (fast : Bool) : State :=
  let s1 := s.lookSources img fast
  let s0 := { s1 with proc := { s1.proc with events := s1.proc.events ++ s1.poisonEvents img fast } }
  (List.range (ruleCount img)).foldl (fun s i => if fast && !(ruleAt img i).fast then s else s.evalRule img fast i) s0

def anyFast (img : Image) : Bool := (List.range (ruleCount img)).any fun i => (ruleAt img i).fast

/-- An event is covered (R415). -/
def covered (img : Image) (e : Nat × Nat × Nat) : Bool :=
  (List.range (ruleCount img)).any fun i => (ruleAt img i).en && eventMatches (sourceAt img (ruleAt img i).a) e

/-! ## Cost (R435) -/

def ruleCost (img : Image) (r : Rule) : Nat :=
  if !r.en then 0
  else 250 + (if r.kind = 6 then 40 * r.maxN
    else if r.kind = 4 then (if (sourceAt img r.a).kind = 5 then (64 + 16 * r.maxN) / 4 else (r.p 0).toNat / 4)
    else 0)

def rubricCost (img : Image) (fast : Bool) : Nat :=
  ((List.range (ruleCount img)).map fun i => if fast && !(ruleAt img i).fast then 0 else ruleCost img (ruleAt img i)).sum

/-! ## Checks of ENABLE (Table 12-14) -/

/-- Source kinds a rule kind reads (Table 12-5). -/
def kindReads : Nat → List Nat
  | 1 => [1, 2, 3, 6, 7, 8]
  | 2 => [1, 2]
  | 3 => [1, 2]
  | 4 => [5, 1, 6]
  | 5 => [4, 5, 7]
  | 6 => [5]
  | _ => [6, 3]

/-- PARAM words a rule kind uses, as masks. -/
def paramMasks (kind srcKind : Nat) : List Nat :=
  match kind with
  | 1 => [F32, F32]
  | 2 => [F32]
  | 3 => [F32, F32]
  | 4 => [if srcKind = 1 then F32 else 0]
  | 5 => [0xFFFFFF]
  | 6 => [F32, F32, F32, F32, F32]
  | _ => [0xFFFFFF]

/-- RULE_ARG. -/
def ruleArgOk (img : Image) (r : Rule) : Bool :=
  let x := sourceAt img r.a
  let len := (r.p 0).toNat
  r.clean && decide (1 ≤ r.kind) && decide (1 ≤ r.verdict) && decide (r.verdict ≤ 5) && (kindReads r.kind).contains x.kind &&
  (decide (r.kind ≠ 3) || [1, 2].contains (sourceAt img r.b).kind) &&
  (decide (r.kind ≠ 4) || decide (x.kind ≠ 6) || decide (x.sel = 7)) &&
  ((List.range 5).all fun k => decide ((r.p k).toNat &&& (F32 ^^^ (paramMasks r.kind x.kind).getD k 0) = 0)) &&
  (decide (r.kind ≠ 4) || decide (x.kind ≠ 1) || (decide (4 ≤ len) && decide (len ≤ 4096) && decide (len % 4 = 0))) &&
  (!(decide (r.kind = 6) || (decide (r.kind = 4) && decide (x.kind = 5))) || decide (1 ≤ r.maxN)) &&
  (decide (r.kind ≠ 7) || (decide (1 ≤ fld (r.p 0) 7 0) && decide (1 ≤ fld (r.p 0) 23 8)))

/-- SEL is no reserved code of its kind. -/
def selOk (x : Source) : Bool :=
  match x.kind with
  | 2 => decide (x.sel / 16 ≤ 4)
  | 3 => decide (x.sel ≤ 7)
  | 6 => decide (1 ≤ x.sel) && decide (x.sel ≤ 17)
  | 7 => decide (7 ≤ x.sel) && decide (x.sel ≤ 11)
  | 8 => decide (x.sel ≤ 2)
  | _ => decide (x.sel = 0)

/-- SOURCE_ARG. -/
def State.sourceArgOk (s : State) (x : Source) : Bool :=
  if x.kind = 0 then true
  else
    let memory := decide (x.kind = 1) || decide (x.kind = 4) || decide (x.kind = 5)
    x.clean && decide (x.kind ≤ 8) && selOk x && (if x.kind = 1 then decide (x.fmt = 3) || decide (x.fmt = 8) else decide (x.fmt = 0)) &&
    (!memory || (decide (x.addr % (if x.kind = 5 then 64 else 4) = 0) &&
      s.reachesAll x.hr x.addr (if x.kind = 1 then 4 else if x.kind = 4 then 32 else 64))) &&
    (decide (x.kind ≠ 3) || decide (s.regF safeioP (0x040 + 4 * x.sel) 1 0 ≠ 0))

/-- FAST_ARG (R414). -/
def fastOk (img : Image) (r : Rule) : Bool :=
  !r.fast || ((decide (r.kind = 1) || decide (r.kind = 7)) && [3, 6, 7].contains (sourceAt img r.a).kind)

/-- AXIS_ARG of an axis entry. -/
def axisEntryOk (img : Image) (a : Nat) : Bool :=
  decide (axisKind img a ≠ 3) && (decide (axisKind img a = 0) || (decide (axisScale img a ≠ 0) && decide (axisStopMs img a ≠ 0)))

/-- AXIS_ARG of a LIMIT rule. -/
def limitAxesOk (img : Image) (r : Rule) : Bool :=
  decide (r.verdict ≠ 2) || (List.range 16).all fun a => !r.axes.testBit a || decide (axisKind img a ≠ 0)

/-- The first check of Table 12-14 that an image fails: code and detail. -/
def State.rubricFails (s : State) (img : Image) : Option (Nat × Nat) :=
  let n := ruleCount img
  let firstRule := fun (ok : Rule → Bool) => (List.range n).find? fun i => !ok (ruleAt img i)
  let judge := imgF img 0x068 23 0
  let low := 2 ^ min s.chip.grade.axes 8
  let ids := imgWord img 0x05C
  if imageCrc img ≠ imgWord img 0x070 then some (1, 0)
  else if 256 < imgF img 0x040 8 0 then some (2, 256)
  else match firstRule (ruleArgOk img) with
  | some i => some (2, i)
  | none =>
  match (List.range 64).find? fun k => !s.sourceArgOk (sourceAt img k) with
  | some k => some (3, k)
  | none =>
  if low ≤ imgF img 0x044 15 0 then some (4, 0)
  else if judge < 250 ∨ 4000 < judge ∨ 1000 * judge < s.tBeat then some (5, 0)
  else if 60000 < rubricCost img false ∨ 2000 < rubricCost img true then some (6, 0)
  else match firstRule (fastOk img) with
  | some i => some (7, i)
  | none =>
  match (List.range 16).find? fun a => !axisEntryOk img a with
  | some a => some (8, a)
  | none =>
  match firstRule (limitAxesOk img) with
  | some i => some (8, i)
  | none =>
  match firstRule (fun r => decide (r.kind ≠ 6) || quadOk r) with
  | some i => some (9, i)
  | none =>
  if bit (imgWord img 0x058) 3 && decide (s.regF safeioP (0x040 + 4 * imgF img 0x058 2 0) 5 4 ≠ 2) then some (0xA, 0)
  else if (fld ids 26 16 = fld ids 10 0 ∧ ¬(fld ids 26 16 = 0 ∧ imgF img 0x060 31 8 = 0)) ∨ imgF img 0x060 7 0 = 0 then some (0xB, 0)
  else none

/-- CAN_S has identifiers: it is used (R461). -/
def cansUsed (img : Image) : Bool := decide (imgWord img 0x05C ≠ 0)

/-- The Rubric comes into force: the private copy, its costs, the start of CAN_S (R410, R435, R430). A latch stays until a reset
event (R420). -/
def State.rubricInForce (s : State) (img : Image) : State :=
  let s1 := (s.setRegF rubricP 0x078 0 0 1).setRegN rubricP 0x07C (min (rubricCost img true) 0xFFFF * 0x10000 + min (rubricCost img false) 0xFFFF)
  let s2 := ((s1.setReg procP 0x098 (imgWord img 0x070)).setRegF procP 0x040 6 6 1).resetRegs procP 0x050 0x06C
  let cans := if imgF img 0x060 31 8 = 0 then 0 else 1
  let s3 := if s2.regF procP 0x09C 2 0 = cans then s2 else (s2.setRegF procP 0x09C 2 0 cans).raise procP 4
  { s3 with proc := { s3.proc with
      rubric := some img, runs := [], line := 0, lineCrc := 0xFFFFFFFF, cansOn := cansUsed img, cansStart := now s3, resync := true, inRow := 0 } }

end Sys2Proof.Machine
end

