-- ==== Sys2Proof/Machine/Proctor.lean ====
section
/-!
DEFINITION. The Proctor (chapter 12): verdicts and limit words, latches, STO_A and the brakes, the monitoring of stops,
events, the checks at Beat boundaries, STATUS on CAN_S, and the PROCTOR and RUBRIC pages.
-/

namespace Sys2Proof.Machine

def State.modProc (s : State) (f : ProctorUnit → ProctorUnit) : State := { s with proc := f s.proc }

/-- CORE is ACTIVE and the cores run. -/
def State.proctorOn (s : State) : Bool := decide (s.regF procP 0x040 10 8 = 1) && !s.proc.hung

/-- A word of the Rubric in force; 0 with none. -/
def State.rubF (s : State) (off hi lo : Nat) : Nat :=
  match s.proc.rubric with
  | some img => imgF img off hi lo
  | none => 0

/-! ## Verdicts (R416, R417) -/

/-- Verdict codes of Table 12-4: 0 none, 1 NOTE, 2 LIMIT, 3 FERMATA, 4 STOP1, 5 STOP0. -/
def State.verdict (s : State) (a : Nat) : Nat := s.regF procP (0x044 + 4 * (a / 8)) (4 * (a % 8) + 2) (4 * (a % 8))

def State.setVerdict (s : State) (a v : Nat) : State := s.setRegF procP (0x044 + 4 * (a / 8)) (4 * (a % 8) + 2) (4 * (a % 8)) v

/-- Vlim in Q12.20 of a limit on an axis (R417). -/
def vlimOf (img : Image) (a lin jpm : Nat) : Option Nat :=
  match axisKind img a with
  | 1 => some (lin * axisScale img a / 1000 * 16)
  | 2 => some (jpm * axisScale img a / 1000 * 16)
  | _ => none

/-- The LIMIT and other verdicts of active rules on an axis: verdict, rule index. -/
def State.ruleVerdicts (s : State) (img : Image) (a : Nat) : List (Nat × Nat) :=
  ((List.range (ruleCount img)).filter fun i => s.ruleActive i && (ruleAt img i).axes.testBit a).map fun i => ((ruleAt img i).verdict, i)

/-- An enabled FRESH rule reads a CANS source (R431). -/
def freshCans (img : Image) : Bool :=
  (List.range (ruleCount img)).any fun i =>
    let r := ruleAt img i
    r.en && decide (r.kind = 5) && decide ((sourceAt img r.a).kind = 7)

/-- RUN_PERMIT of the latest COMMAND; 0 before any. -/
def State.runPermit (s : State) : Bool :=
  match s.proc.command with
  | some (f, _) => (byteAt f 6).testBit 0
  | none => false

/-- The CAN_S requests of R431 that do not latch. -/
def State.cansStop (s : State) (img : Image) : Bool :=
  decide (imgF img 0x060 31 8 ≠ 0) &&
    (!s.runPermit || (decide (s.regF procP 0x09C 2 0 = 3) && !freshCans img))

/-- The request of the host and of TEMPO: 0 none, 1 FERMATA, 2 STOP1 (R438). -/
def State.request (s : State) : Nat := max (s.regF procP 0x0A0 1 0) (s.regF procP 0x0A0 3 2)

/-- Verdicts on an axis beside those of rules: latches, the service level, requests, CAN_S. -/
def State.otherVerdicts (s : State) (a : Nat) : List Nat :=
  (s.proc.latches.filter fun l => l.axes.testBit a).map (·.verdict) ++
  (if s.proc.react ≤ 1 then [s.proc.reactStop]
   else if s.proc.react = 2 && !s.limpMask.testBit a then [4] else []) ++
  (if s.request ≠ 0 && s.inState (loopP a) activeStates then [if s.request = 1 then 3 else 4] else []) ++
  (match s.proc.rubric with
   | some img => if s.cansStop img then [4] else []
   | none => [])

/-- The speed limits on an axis: those of active LIMIT rules, of LIMP (R38) and of Probation (R453). -/
def State.speedLimits (s : State) (img : Image) (a : Nat) : List Nat :=
  ((s.ruleVerdicts img a).filter (fun e => decide (e.1 = 2))).filterMap (fun e => vlimOf img a (ruleAt img e.2).lin (ruleAt img e.2).jpm) ++
  (if s.proc.react = 2 && (imgF img 0x044 15 0).testBit a then (vlimOf img a (imgF img 0x050 15 0) (imgF img 0x050 25 16)).toList else []) ++
  (if s.probation then (vlimOf img a (min (imgF img 0x054 15 0) 250) (min (imgF img 0x054 25 16) 100)).toList else [])

def listMin : List Nat → Option Nat
  | [] => none
  | x :: xs => some (xs.foldl min x)

/-- What the Proctor judges for an axis. -/
structure Judged where
  verdict : Nat
  /-- Rule index of the verdict; 0xFF for a built-in one. -/
  rule : Nat
  lim : Option Nat
  ilim : Nat
  deriving DecidableEq, Repr

/-- The first entry with the most severe verdict. -/
def worstOf (l : List (Nat × Nat)) : Nat × Nat := l.foldl (fun m e => if m.1 < e.1 then e else m) (0, 0xFF)

/-- SPD counts of a limit, before 1 is taken off (R417). -/
def State.speedSteps (s : State) (a lim : Nat) : Nat := lim * 65536 / (s.lg a 0x11C).toNat

def State.judgeAxis (s : State) (a : Nat) : Judged :=
  let others := (s.otherVerdicts a).map fun v => (v, 0xFF)
  match s.proc.rubric with
  | none => let w := worstOf others; ⟨w.1, w.2, none, 0xFF⟩
  | some img =>
    let rules := s.ruleVerdicts img a
    let w := worstOf (rules ++ others)
    let lim := listMin (s.speedLimits img a)
    let ilim := ((rules.filter fun e => decide (e.1 = 2)).map fun e => (ruleAt img e.2).ilim).foldl min 0xFF
    let zero := match lim with
      | some v => s.inState (loopP a) activeStates && decide (0 < s.lg a 0x11C) && decide (s.speedSteps a v = 0)
      | none => false
    if zero && decide (w.1 < 3) then ⟨3, 0xFF, lim, ilim⟩ else ⟨w.1, w.2, lim, ilim⟩

/-! ## Permit and limit words (R421, Table 10-4) -/

/-- The Seat state permits motion (R464). -/
def State.seated (s : State) : Bool := decide (s.regF identP 0x054 2 0 = 1)

/-- The conditions of R421 that name no axis. -/
def State.devicePermit (s : State) : Bool :=
  s.proctorOn && s.proc.rubric.isSome && s.ticking && decide (2 ≤ s.level) && s.seated

/-- R421 for an axis, STOP0 aside. -/
def State.axisPermit (s : State) (a : Nat) : Bool :=
  s.devicePermit && s.axisThere a &&
  (match s.proc.rubric with
   | some img => decide (axisKind img a ≠ 0) && (decide (3 ≤ s.level) || (imgF img 0x044 15 0).testBit a)
   | none => false)

/-- The limit word of an axis (Table 12-7, R417, R421). -/
def State.limitWordOf (s : State) (a : Nat) (j : Judged) : Word :=
  let cmd := if j.verdict = 5 ∨ !s.axisPermit a then 0
    else if j.verdict = 4 then (if s.torque a then 1 else 0)
    else if j.verdict = 3 then 2
    else 3
  let spd := if !s.inState (loopP a) activeStates then 0
    else match j.lim with
      | none => 0xFFFF
      | some v => min (s.speedSteps a v - 1) 0xFFFF
  word (cmd * 0x20000000 + j.ilim * 0x10000 + spd)

/-! ## STO_A and the brakes (R418, R405) -/

/-- A bit of SAFEIO_OUT. -/
def State.setOut (s : State) (i : Nat) (b : Bool) : State := s.setReg safeioP 0x088 (setBit (s.reg safeioP 0x088) i b)

def State.outBit (s : State) (i : Nat) : Bool := bit (s.reg safeioP 0x088) i

/-- STO_B as the Hall Monitor drives it. -/
def State.setStoB (s : State) (b : Bool) : State := (s.setOut 2 b).setReg hallP 0x040 (setBit (s.reg hallP 0x040) 0 b)

/-- STO_A is de-energised, HM_STOP asserted, PERMIT cleared; HM_STOP takes STO_B with it (R425). -/
def State.dropSto (s : State) : State :=
  (((s.setOut 0 false).modProc fun p => { p with hmStop := true }).setRegF procP 0x040 7 7 0).setStoB false

/-- Axes of RUB_STO_AXES that the device has. -/
def State.stoAxes (s : State) (img : Image) : List Nat :=
  (List.range s.chip.grade.axes).filter fun a => (imgF img 0x048 15 0).testBit a

/-- No axis of RUB_STO_AXES is torque-enabled. -/
def State.noStoTorque (s : State) (img : Image) : Bool := (s.stoAxes img).all fun a => !s.torque a

/-- A case of R418 holds, or the SAFEIO page is not in RUNNING (R437). -/
def State.stoBad (s : State) : Bool :=
  match s.proc.rubric with
  | none => true
  | some img =>
    !s.proctorOn || decide (s.level ≤ 1) || decide (s.pageState safeioP ≠ .running) ||
    ((s.stoAxes img).any fun a => decide (s.verdict a = 5)) || (if s.ticking then s.proc.stoIdle else s.noStoTorque img)

/-- R418; a release only at a Beat boundary. -/
def State.stoCheck (s : State) (beat : Bool) : State :=
  if s.stoBad then s.dropSto
  else if beat && !s.outBit 0 && s.devicePermit then
    ((s.setOut 0 true).modProc fun p => { p with hmStop := false }).setRegF procP 0x040 7 7 1
  else s

/-- A brake command is high (R405). -/
def State.brakeHigh (s : State) (k : Nat) : Bool :=
  let mask := s.rubF 0x04C (16 * k + 15) (16 * k)
  let axes := (List.range 16).filter fun a => mask.testBit a
  s.proctorOn && (axes.any s.torque) && axes.all fun a =>
    decide (s.verdict a ≠ 5) && !(decide (s.verdict a = 4) && !s.torque a)

/-- The brakes follow at a Pulse boundary. -/
def State.brakes (s : State) : State := (s.setOut 4 (s.brakeHigh 0)).setOut 6 (s.brakeHigh 1)

/-! ## Stop and limit monitoring (R419) -/

/-- Whether a verdict is monitored as SS1 or SS2, or as a limit. -/
def monitored (v : Nat) : Bool := decide (2 ≤ v) && decide (v ≤ 4)

def State.mon (s : State) (a : Nat) : Option AxisMon := tabGet none s.proc.mons a

def State.setMon (s : State) (a : Nat) (m : Option AxisMon) : State := s.modProc fun p => { p with mons := tabSet none p.mons a m }

/-- Monitoring starts with the verdict on a judged axis that has torque. -/
def State.startMon (s : State) (img : Image) (a : Nat) (j : Judged) : State :=
  if axisKind img a = 0 ∨ !s.torque a ∨ !monitored j.verdict then s.setMon a none
  else
    let lim := if j.verdict = 2 then j.lim else none
    match s.mon a with
    | some m => if m.verdict = j.verdict ∧ m.limit = lim then s
      else s.setMon a (some ⟨j.verdict, lim, now s, s.lg a 0x1E8, none⟩)
    | none => s.setMon a (some ⟨j.verdict, lim, now s, s.lg a 0x1E8, none⟩)

/-- The verdict a break latches, and what monitoring holds after a Beat boundary. -/
def State.monStep (s : State) (img : Image) (a : Nat) (m : AxisMon) : Option Nat × AxisMon :=
  let speed := absI (s.lg a 0x1E8)
  let zero := axisZero img a
  let late := decide (m.since + 1000000 * axisStopMs img a ≤ now s)
  let pos := sext 64 (s.reg64 (loopP a) 0x1EC)
  if m.verdict = 2 then
    (match m.limit with
     | some v => if late && decide ((v : Int) + zero < speed) then (some 4, m) else (none, m)
     | none => (none, m))
  else if absI m.v0 + zero < speed ∨ (late ∧ zero < speed) then (some 5, m)
  else if m.verdict = 3 then
    (match m.hold with
     | some q => if axisWindow img a < absI (pos - q) then (some 5, m) else (none, m)
     | none => (none, if speed ≤ zero then { m with hold := some pos } else m))
  else (none, m)

/-! ## Judgement -/

/-- Verdicts, limit words and monitoring from what is in force; VERDICT is raised and signalled where a verdict of LIMIT or
more severe changes; then STO_A. -/
def State.judge (s : State) (beat : Bool) : State :=
  if !s.proctorOn then s
  else
    let js := (List.range 16).map s.judgeAxis
    let changed := (List.range 16).filter fun a => match js[a]? with
      | some j => decide (j.verdict ≠ s.verdict a)
      | none => false
    let loud := changed.any fun a => decide (2 ≤ s.verdict a) || (match js[a]? with
      | some j => decide (2 ≤ j.verdict)
      | none => false)
    let up := changed.any fun a => match js[a]? with
      | some j => decide (2 ≤ j.verdict)
      | none => false
    let words := (List.range 16).map fun a => match js[a]? with
      | some j => s.limitWordOf a j
      | none => 0
    let s1 := (List.range 16).foldl (fun s a => match js[a]? with
      | some j => (s.setVerdict a j.verdict).setReg procP (0x100 + 4 * a) (words.getD a 0)
      | none => s) s
    let s2 := match s1.proc.rubric with
      | some img => (List.range 16).foldl (fun (s : State) a => match js[a]? with
          | some j => s.startMon img a j
          | none => s) s1
      | none => s1.modProc fun p => { p with mons := [] }
    let s3 := if loud then s2.raise procP 0 else s2
    let s4 := if up then s3.hwSignal 7 (now s3) else s3
    s4.stoCheck beat

/-- Latches a verdict outside the rules. -/
def State.latchV (s : State) (v axes : Nat) (c : LatchCause) : State :=
  let l : Latch := ⟨v, axes, c⟩
  if s.proc.latches.contains l then s
  else (s.modProc fun p => { p with latches := p.latches ++ [l] }).raise procP 5

/-- A fault of the safety channels: STOP0 on every axis until power-on reset, SAFE-STOP (R400, R404, R426). -/
def State.fatal (s : State) (cls unit : Nat) : State :=
  if !s.proctorOn then s
  else
    let s1 := s.latchV 5 0xFFFF .por
    let s2 := if cls = 0 then s1 else s1.log cls 0 unit 5 0
    s2.capLevel.judge false

/-- The Proctor halts: STO_A low, HM_STOP, level 0x0, brakes applied (R398, Table 1-8). -/
def State.haltProctor (s : State) : State :=
  if !s.proctorOn then s
  else
    let s1 := (s.setRegF procP 0x040 10 8 2).toState procP .fault
    ((s1.dropLevel 0).dropSto.setOut 4 false).setOut 6 false

/-- LOCKSTEP_MISMATCH (R398). -/
def execLockstepMismatch (s : State) : Host.Outcome State Fault Refusal := done s.haltProctor

/-- PROCTOR_SRAM_UE (R400). -/
def execProctorSramUe (s : State) : Host.Outcome State Fault Refusal := done s.haltProctor

/-- The cores stop for good: STO_A and the brakes go low, the level is code 0x0 (R36), and nothing more comes from the Proctor,
so that no log record, lock or signal follows (DEDUCED, log entry 138). -/
def State.proctorLost (s : State) : State :=
  if !s.proctorOn then s
  else ((((s.modProc fun p => { p with hung := true }).setRegF procP 0x040 3 0 0).setOut 0 false).setOut 4 false).setOut 6 false

/-- PROCTOR_HANG (R401): the drive of STO_A stops, the output hardware applies the brakes; STO_B follows at the Hall
Monitor's first missed answer. -/
def execProctorHang (s : State) : Host.Outcome State Fault Refusal := done s.proctorLost

/-! ## Events (R415) -/

/-- Default verdict of a class: code, every axis rather than the event's, latched (Table 12-6). -/
def defaultOf (cls : Nat) : Nat × Bool :=
  match cls with
  | 7 => (4, false) | 13 => (4, false)
  | 9 => (5, true) | 15 => (5, true)
  | 10 => (4, true) | 12 => (4, true) | 17 => (4, true)
  | _ => (1, true)

/-- The Proctor receives an event: it counts for the rules, and it is logged with its own Metronome value and the verdict
it takes when uncovered. -/
def State.receive (s : State) (n : Note) : State :=
  let e : Nat × Nat × Nat := (n.cls, n.axes, n.unit)
  let cov := match s.proc.rubric with
    | some img => covered img e
    | none => false
  (s.modProc fun p => { p with events := p.events ++ [e] }).logAt n.time n.cls n.src n.unit (if cov then 0 else (defaultOf n.cls).1) n.info

/-- PROCTOR_EVENT (R415): the oldest note reaches the Proctor. -/
def execProctorEvent (s : State) : Host.Outcome State Fault Refusal :=
  match s.notes with
  | [] => done s
  | n :: rest =>
    let s1 := { s with notes := rest }
    done (if s.proctorOn then s1.receive n else s1)

/-- Every note that still waits reaches the Proctor before it judges. -/
def State.drainNotes (s : State) : State := s.notes.foldl (fun s n => s.receive n) { s with notes := [] }

/-- The latches of the uncovered events of this evaluation: default verdicts other than NOTE latch. -/
def State.defaultLatches (s : State) : List Latch :=
  s.proc.events.filterMap fun e =>
    let cov := match s.proc.rubric with
      | some img => covered img e
      | none => false
    let d := defaultOf e.1
    if cov || decide (d.1 = 1) then none else some ⟨d.1, if d.2 then 0xFFFF else e.2.1, .event⟩

/-- Default verdicts of uncovered events. -/
def State.takeDefaults (s : State) : State := s.defaultLatches.foldl (fun s l => s.latchV l.verdict l.axes l.cause) s

/-! ## Latch reset (R420) -/

/-- The cause of a latch no longer violates. -/
def State.causeGone (s : State) : LatchCause → Bool
  | .por => false
  | .event => true
  | .noRubric => s.proc.rubric.isSome
  | .cans b => match s.proc.command with
    | some (f, _) => !(byteAt f 6).testBit b
    | none => true
  | .brake k => s.outBit (4 + 2 * k) == s.outBit (5 + 2 * k)
  | .seat => s.proc.bodyLast == s.proc.bodyId
  | .thermal => !s.dyn.tripped

/-- A reset event: latches whose cause is gone clear, but for those that this evaluation has just taken again; a rule without
violation and HOLD becomes inactive. -/
def State.resetEvent (s : State) (taken : List Latch) : State :=
  let s1 := s.modProc fun p => { p with latches := p.latches.filter fun l => taken.contains l || !s.causeGone l.cause }
  (List.range 256).foldl (fun s i =>
    let x := s.ruleRun i
    if s.ruleLatched i && !x.bad then s.setRuleBits i (decide (0 < x.held)) false else s) s1

/-! ## Checks at Beat boundaries -/

/-- No Rubric is in force any more. -/
def State.endRubric (s : State) : State :=
  let s1 := (((s.modProc fun p => { p with rubric := none, cansOn := false }).setRegF procP 0x040 6 6 0).setRegN procP 0x098 0).setRegF rubricP 0x078 0 0 0
  if s1.regF procP 0x09C 2 0 = 0 then s1 else (s1.setRegF procP 0x09C 2 0 0).raise procP 4

/-- A page fails its check at two Beat boundaries in a row (R105). -/
def State.crcFault (s : State) (p : PageRef) : State :=
  let axis := match p.ty with
    | .loop | .pstage | .angle => true
    | _ => false
  let lost := decide (p.ty = .loop) && s.torque p.inst
  let s1 := if p.ty = .loop then ((s.loopLost p.inst).leaveTorque p.inst .locked).finishAll p 3 (some (0xFF, 6))
    else if capSafety p.ty then s.losePage p .locked
    else if p.ty = .weight then (s.bankEnd p.inst .fault).raise p 3
    else ((s.toState p .fault).finishAll p 3 none).abortWork p true
  let s2 := (s1.syndrome p 0xFF 2).note 7 0 p.inst (if axis then 2 ^ p.inst else 0xFFFF) (pageBase p)
  let s3 := if lost then s2.note 17 0 p.inst (2 ^ p.inst) p.inst else s2
  if axis then s3.evalLevel
  else if p.ty = .rubric then s3.endRubric.fatal 0 0
  else if p.ty = .safeio then s3.fatal 0 0
  else s3

/-- The check of R105 on one page. -/
def State.crcCheck (s : State) (p : PageRef) : State :=
  if !capCrc p.ty || !s.inState p activeStates then s.modPage p fun g => { g with mismatch := false }
  else if s.liveCrc p = s.wantCrc p then s.modPage p fun g => { g with crcOk := true, mismatch := false }
  else if (s.page p).mismatch then (s.modPage p fun g => { g with crcOk := false, mismatch := false }).crcFault p
  else s.modPage p fun g => { g with crcOk := false, mismatch := true }

/-- The Proctor re-checks one line of its copy; at the end of a pass it compares the CRC (R400). -/
def State.lineCheck (s : State) : State :=
  match s.proc.rubric with
  | none => s
  | some img =>
    let c := (imageBytes img (0x400 + 64 * s.proc.line) 16).foldl (fun c b => crcReflByte 0xEDB88320 8 (c ^^^ b.toNat)) s.proc.lineCrc
    if s.proc.line = 239 then
      let s1 := s.modProc fun p => { p with line := 0, lineCrc := 0xFFFFFFFF }
      if c ^^^ 0xFFFFFFFF = s.regN rubricP 0x070 then s1 else s1.fatal 0 0
    else s.modProc fun p => { p with line := p.line + 1, lineCrc := c }

/-- The latches of the axes that break their monitor at this boundary (R419). -/
def State.monBreaks (s : State) (img : Image) : List Latch :=
  (List.range 16).filterMap fun a => match s.mon a with
    | none => none
    | some m =>
      if axisKind img a = 0 || !s.torque a then none
      else (s.monStep img a m).1.map fun v => ⟨v, 2 ^ a, .event⟩

/-- Monitoring at a Beat boundary; a break latches and is logged (R419). -/
def State.monitorBeat (s : State) (img : Image) : State :=
  (List.range 16).foldl (fun s a => match s.mon a with
    | none => s
    | some m =>
      if axisKind img a = 0 || !s.torque a then s.setMon a none
      else match s.monStep img a m with
        | (some v, _) => ((s.setMon a none).latchV v (2 ^ a) .event).log 0x80 0 a v 0
        | (none, m2) => s.setMon a (some m2)) s

/-- The reaction to a drop of the service level starts (R37, Table 1-8). -/
def State.startReaction (s : State) : State :=
  let s0 := { s with lvl := { s.lvl with dropDue := false, sick := false } }
  if !s.lvl.dropDue then s0
  else
    let l := s.level
    let s1 := s0.modProc fun p =>
      { p with react := l, reactStop := if s.lvl.sick then 5 else 4 }
    if l = 3 then (List.range 8).foldl (fun s h => s.startReadmit h) s1
    else if l = 2 then
      s1.allActs.foldl (fun s e => match s.part? e.1 e.2 with
        | some p => if p.act.isSome && !p.group.isEmpty then s.takeLate e.1 e.2 3 else s
        | none => s) s1
    else s1

/-! ## STATUS on CAN_S (R427 to R429) -/

/-- The CRC of a CAN_S PDU: CRC-32C over a key and the bytes (R428). -/
def cansCrc (key : Word) (bs : List Byte) : Word :=
  BitVec.ofNat 32 (((leBytes 4 key.toNat ++ bs).foldl (fun c b => crcReflByte 0x82F63B78 8 (c ^^^ b.toNat)) 0xFFFFFFFF) ^^^ 0xFFFFFFFF)

def State.anyLatch (s : State) : Bool := !s.proc.latches.isEmpty || (List.range 8).any fun k => decide (s.reg procP (0x070 + 4 * k) ≠ 0)

/-- The STATUS PDU before its CRC (Table 12-8). `crc` is the RUB_IMAGE_CRC it carries. -/
def State.statusBody (s : State) (counter crc : Nat) : List Byte :=
  let b := fun (x : Bool) (n : Nat) => if x then n else 0
  let js := (List.range 16).map s.judgeAxis
  let w := worstOf (js.map fun j => (j.verdict, j.rule))
  let pairs := fun (v : Nat) => (List.range 8).foldl (fun n k => if s.pairState k = v then n + 2 ^ k else n) 0
  let echo := match s.proc.command with
    | some (f, _) => halfAt f 2
    | none => 0
  leBytes 2 0x0101 ++ leBytes 2 counter ++ leBytes 2 echo ++
  leBytes 1 (s.level + b s.probation 16 + b (bit (s.reg procP 0x040) 5) 32 + b (s.outBit 0) 64 + b (s.outBit 2) 128) ++
  leBytes 1 (b (s.outBit 4) 1 + b (s.outBit 6) 2 + b s.anyLatch 4 + b (decide (s.regF procP 0x09C 2 0 = 2)) 8) ++
  leBytes 1 w.1 ++ leBytes 1 w.2 ++ leBytes 1 (pairs 1) ++ leBytes 1 (pairs 2) ++ leBytes 4 crc ++ leBytes 4 (now s) ++ leBytes 8 0

/-- Sends a STATUS with the identifiers and the key of an image. -/
def State.sendStatus (s : State) (img : Image) (crc : Nat) : State :=
  if !s.proctorOn || !s.proc.cansOn || !cansUsed img then s
  else
    let c := if s.proc.counter = 65535 then 1 else s.proc.counter + 1
    let body := s.statusBody c crc
    let frame := body ++ leBytes 4 (cansCrc (imgWord img 0x064) body).toNat
    { s with proc := { s.proc with counter := c }, out := { s.out with canS := s.out.canS ++ [(imgF img 0x05C 10 0, frame)] } }

/-- STATUS at every STATUS_BEATS-th Beat boundary. -/
def State.beatStatus (s : State) : State :=
  match s.proc.rubric with
  | some img =>
    if s.tempo.nextK / s.nBeat % max (imgF img 0x060 7 0) 1 = 0 then s.sendStatus img (imgWord img 0x070).toNat else s
  | none => s

/-! ## The Proctor at the boundaries -/

/-- The Beat evaluation (R28, R413): the checks, the rules, default verdicts, CAN_S requests, a reset event, the reaction to a
level drop, the verdicts. -/
def State.proctorBeat (s : State) : State :=
  if !s.proctorOn || s.lvl.minimal then s
  else
    let s1 := ((allPages s.chip.grade).foldl (fun s p => s.crcCheck p) s).lineCheck
    if !s1.proctorOn then s1
    else
      let s2 := match s1.proc.rubric with
        | some img => (s1.modProc fun p => { p with stoIdle := s1.noStoTorque img }).monitorBeat img
        | none => s1
      let s3 := s2.drainNotes
      let s4 := match s3.proc.rubric with
        | some img => s3.evalPass img false
        | none => s3
      let took := (Config.freeWord s4.freeCtr 300).toNat
      let s5 := ((s4.incReg procP 0x090).setRegN procP 0x094 (max (s4.regN procP 0x094) took)).takeDefaults
      let cans := s5.rubF 0x060 31 8 ≠ 0
      let s6 := if cans && s5.proc.stop0 then s5.latchV 5 0xFFFF (.cans 3) else s5
      let s7 := if cans && s6.proc.stop1 then s6.latchV 4 0xFFFF (.cans 2) else s6
      let breaks := match s1.proc.rubric with
        | some img => s1.monBreaks img
        | none => []
      let s8 := if s7.proc.resetDue then s7.resetEvent (breaks ++ s4.defaultLatches) else s7
      let s9 := s8.startReaction.modProc fun p => { p with
        events := [], fastEvents := 0, entries := [], fastEntries := 0, beats := p.beats + 1, stop0 := false, stop1 := false, resetDue := false }
      ((s9.judge true).brakes.beatStatus).drawFree

/-- The Proctor at a Pulse boundary: the FAST rules unless a Beat falls there, the brakes, the locks that wait for torque, and
the next word's sequence bit. -/
def State.proctorPulse (s : State) (beat : Bool) : State :=
  if !s.proctorOn || s.lvl.minimal then s
  else
    let s1 := match s.proc.rubric with
      | some img => if !beat && anyFast img then
          ((s.evalPass img true).modProc fun p =>
            { p with fastEvents := p.events.length, fastEntries := p.entries.length }).judge false |>.drawFree
        else s
      | none => s
    let s2 := if beat then s1 else s1.brakes
    let s3 := if s2.lvl.lockDue then s2.lockAxes false else s2
    s3.modProc fun p => { p with seq := !p.seq }

/-- LIMIT_WORD (R325): the word of an axis goes to its Loop Engine. `errors` is what the channel turns: word [31:0], sequence
bit [32], CRC-8 [40:33]. -/
def execLimitWord (n : Fin 16) (errors : BitVec 41) (s : State) : Host.Outcome State Fault Refusal :=
  let k := n.val
  if !s.proctorOn || !s.ticking then done s
  else
    let w := s.limitWordOf k (s.judgeAxis k)
    let sent := limitCrc w s.proc.seq k
    let w2 := w ^^^ errors.truncate 32
    let seq2 := s.proc.seq != errors.getLsbD 32
    let ok := limitCrc w2 seq2 k = sent ^^^ (errors.toNat >>> 33)
    done ((s.setReg procP (0x100 + 4 * k) w).modAxis k fun a => { a with recv := some (w2, seq2, decide ok) })

/-! ## Requests and the PROCTOR page (R438) -/

/-- HOST_REQUEST_RELEASE (R438). -/
def execHostRequestRelease (r : Requester) (arg : BitVec 24) (s : State) : Host.Outcome State Fault Refusal :=
  done (s.pageCmd r procP 0x10 arg fun s _ => (ansDone, (s.setRegF procP 0x0A0 1 0 0).judge false))

/-- STOP in FAULT, and QUIESCE outside RUNNING, post DONE and change nothing (R102). -/
def procStop (s : State) : Ans × State :=
  (ansDone, if s.pageState procP = .fault then s else (s.setRegF procP 0x0A0 1 0 2).judge false)

def procQuiesce (s : State) : Ans × State :=
  (ansDone, if s.pageState procP ≠ .running ∨ s.regF procP 0x0A0 1 0 = 2 then s else (s.setRegF procP 0x0A0 1 0 1).judge false)

/-! ## The RUBRIC page (Table 12-15) -/

def rubricEnable (s : State) : Ans × State := if s.pageState rubricP = .idle then (ansAccepted, s) else (ansState, s)

/-- The checks of ENABLE complete: RUNNING with the Rubric in force, or a refusal. -/
def State.rubricEnableDone (s : State) : State :=
  match (s.page rubricP).pending with
  | none => s
  | some _ =>
    let img := s.pageImage
    match s.rubricFails img with
    | some (c, d) => s.finishPending rubricP 5 (some (c, d))
    | none =>
      if s.crcMatches rubricP then (((s.rubricInForce img).toState rubricP .running).finishPending rubricP 2 none).judge false
      else s.finishPending rubricP 5 (some (0xFF, 1))

/-- The page leaves RUNNING: STOP0 on every axis. -/
def State.rubricGone (s : State) : State := (s.endRubric.latchV 5 0xFFFF .noRubric).judge false

def rubricStop (s : State) : Ans × State :=
  if s.pageState rubricP = .running then (ansDone, (s.toState rubricP .idle).rubricGone) else (ansDone, s)

end Sys2Proof.Machine
end

