-- ==== Sys2Proof/Machine/SafetyIo.lean ====
section
/-!
DEFINITION. Safety outputs and inputs (section 12.2): the tests of STO_A, STO_B and the brakes, the SAFE_IN pairs and the
SAFEIO page; and the Hall Monitor (section 12.4).
-/

namespace Sys2Proof.Machine

/-! ## The Hall Monitor (R422 to R426) -/

/-- The challenge that follows (R422). -/
def nextChallenge (c : Nat) : Nat :=
  let b := (c.testBit 15 != c.testBit 14) != (c.testBit 12 != c.testBit 3)
  (2 * c) % 0x10000 + if b then 1 else 0

/-- The answer to a challenge with status byte S (R423). -/
def answerOf (c st : Nat) : Nat :=
  crcMsb 16 0x1021 0xFFFF [BitVec.ofNat 8 c, BitVec.ofNat 8 (c / 256), BitVec.ofNat 8 st, BitVec.ofNat 8 (st ^^^ 0xFF)]

/-- The status byte S: PERMIT, service level, most severe verdict. -/
def State.statusByte (s : State) : Nat :=
  s.regF procP 0x040 7 7 * 128 + s.level % 8 * 16 + ((List.range 16).map s.verdict).foldl max 0

def State.hmArmed (s : State) : Bool := bit (s.reg hallP 0x040) 3
def State.hmLatched (s : State) : Bool := bit (s.reg hallP 0x040) 2

/-- A Hall Monitor fault: 1 MISSED, 2 EARLY, 3 WRONG, 4 CLOCK, 5 SUPPLY, 6 FEEDBACK. STO_B is off until power-on reset; the
Proctor takes the report as a fault of the STO_B channel (R404, R424). -/
def State.hmFault (s : State) (cause : Nat) : State :=
  let st := s.reg hallP 0x040
  let w := setBit (setBit (if bit st 2 then st else setFld st 6 4 cause) 2 true) (7 + cause) true
  let s1 := (s.setReg hallP 0x040 w).setStoB false
  if s1.proctorOn then (s1.raise procP 6).fatal 0x82 cause else s1

/-- HM_CHALLENGE (R422): the next challenge. `cycles`: Proctor clock cycles, at 400 MHz, since the previous one, which both
sides judge (R424, R426). -/
def execHmChallenge (cycles : BitVec 32) (s : State) : Host.Outcome State Fault Refusal :=
  let first := s.regN hallP 0x044 = 0
  let c := nextChallenge s.hm.chal
  let s1 := ({ s with hm := { s.hm with chal := c, issued := true, answers := 0, counted := false } }).incReg hallP 0x044
  let s2 := (s1.setRegF hallP 0x048 15 0 c).setRegN hallP 0x04C (if first then 0 else cycles.toNat)
  if first ∨ (340000 ≤ cycles.toNat ∧ cycles.toNat ≤ 460000) then done s2
  else
    let s3 := if s2.hmArmed then s2.hmFault 4 else s2
    done (s3.fatal 0x82 4)

/-- HM_ANSWER (R423 to R425): the Proctor's answer arrives `ns` after the challenge, in Hall Monitor time. `errors` is what the
interface turns: A [15:0], S [23:16]. -/
def execHmAnswer (errors : BitVec 24) (ns : BitVec 20) (s : State) : Host.Outcome State Fault Refusal :=
  if !s.proctorOn || !s.hm.issued then done s
  else
    let st := s.statusByte ^^^ (errors.toNat / 0x10000)
    let a := answerOf s.hm.chal s.statusByte ^^^ (errors.toNat % 0x10000)
    let good := decide (a = answerOf s.hm.chal st)
    let second := decide (0 < s.hm.answers)
    let inside := decide (300000 ≤ ns.toNat) && decide (ns.toNat ≤ 800000)
    let s1 := { s with hm := { s.hm with answers := s.hm.answers + 1, counted := s.hm.counted || inside } }
    let s2 := (s1.setRegF hallP 0x048 31 16 a).setRegN hallP 0x050 (ns.toNat / 1000)
    let accept := fun (s : State) => if s.hmLatched then s else s.setStoB (st.testBit 7 && !s.proc.hmStop)
    if !s.hmArmed then
      (if good && inside && !second then done (accept (s2.setReg hallP 0x040 (setBit (s2.reg hallP 0x040) 3 true))) else done s2)
    else if second || decide (ns.toNat < 300000) then done (s2.hmFault 2)
    else if !inside then done s2
    else if !good then done (s2.hmFault 3)
    else done (accept s2)

/-- HM_ANSWER_WINDOW_EXPIRY (R424): 800 µs after a challenge without an answer that counts. -/
def execHmAnswerWindowExpiry (s : State) : Host.Outcome State Fault Refusal :=
  if !s.hm.issued then done s
  else
    let s1 := { s with hm := { s.hm with issued := false } }
    if s.hmArmed && !s.hm.counted then done (s1.hmFault 1) else done s1

/-- HM_SUPPLY_FAULT (R424). -/
def execHmSupplyFault (s : State) : Host.Outcome State Fault Refusal := if s.hmArmed then done (s.hmFault 5) else done s

/-! ## Tests of the outputs (R402 to R405) -/

/-- SAFEIO_FAULT with OUT_FAULT. -/
def State.outFault (s : State) (cause k : Nat) : State := (s.setRegN safeioP 0x08C (cause * 16 + k)).raise safeioP 2

/-- STO_TEST_PULSE (R402) on STO_A, or with `b` on STO_B. `seen`: the readback saw it. While the output is low there is none. -/
def execStoTestPulse (b seen : Bool) (s : State) : Host.Outcome State Fault Refusal :=
  if !s.outBit (if b then 2 else 0) || seen then done s
  else if b then (if s.hmArmed then done (s.hmFault 6) else done s)
  else done ((s.outFault 6 0).fatal 0x82 0)

/-- STO_FEEDBACK_CHECK (R403): 2 ms after a lasting change of STO_A, or with `b` of STO_B; `fb` is the state of the cut-off. -/
def execStoFeedbackCheck (b fb : Bool) (s : State) : Host.Outcome State Fault Refusal :=
  if b then
    let s1 := (s.setOut 3 fb).setReg hallP 0x040 (setBit (s.reg hallP 0x040) 1 fb)
    if fb != s1.outBit 2 && s1.hmArmed then done (s1.hmFault 6) else done s1
  else
    let s1 := s.setOut 1 fb
    if fb != s1.outBit 0 then done ((s1.outFault 5 0).fatal 0x82 0) else done s1

/-- BRAKE_FEEDBACK_TIMEOUT (R405): BRKk_FB as it has stood for FB_MS. -/
def execBrakeFeedbackTimeout (k : Fin 2) (fb : Bool) (s : State) : Host.Outcome State Fault Refusal :=
  let s1 := s.setOut (5 + 2 * k.val) fb
  if fb == s1.outBit (4 + 2 * k.val) || !s1.proctorOn then done s1
  else
    let mask := s1.rubF 0x04C (16 * k.val + 15) (16 * k.val)
    done (((((s1.outFault 7 k.val).latchV 4 mask (.brake k.val)).log 0x81 0 k.val 4 0)).judge false)

/-! ## SAFE_IN pairs (R406 to R408) -/

def State.pairF (s : State) (k hi lo : Nat) : Nat := s.regF safeioP (0x040 + 4 * k) hi lo

/-- MODE: 0 unused, 1 EQUIVALENT, 2 ANTIVALENT. -/
def State.pairMode (s : State) (k : Nat) : Nat := s.pairF k 1 0

def State.pairFilter (s : State) (k : Nat) : Nat := 10000 * s.pairF k 15 8

def State.pairTp (s : State) (k : Nat) : Bool := decide (s.pairF k 2 2 = 0)

def State.spair (s : State) (k : Nat) : SafePair := tabGet SafePair.atReset s.safein.pairs k

def State.setSpair (s : State) (k : Nat) (x : SafePair) : State :=
  { s with safein := { s.safein with pairs := tabSet SafePair.atReset s.safein.pairs k x } }

def State.setPairState (s : State) (k v : Nat) : State := s.setRegF safeioP 0x084 (2 * k + 1) (2 * k) v

/-- Raw level of a channel: 2k A, 2k + 1 B. -/
def State.rawLevel (s : State) (c : Nat) : Bool := bit (s.reg safeioP 0x080) c

/-- When the mask of a channel ends (R407). -/
def State.maskEnd (s : State) (k : Nat) (chB : Bool) : Nat := if s.pairTp k then (if chB then s.safein.maskB else s.safein.maskA) else 0

/-- A low level that a mask has hidden counts from the mask's end. -/
def State.settlePair (s : State) (k t : Nat) : State :=
  let x := s.spair k
  let ma := s.maskEnd k false
  let mb := s.maskEnd k true
  let x1 := if ma ≤ t ∧ x.a ≠ s.rawLevel (2 * k) then { x with a := s.rawLevel (2 * k), sinceA := ma } else x
  let x2 := if mb ≤ t ∧ x1.b ≠ s.rawLevel (2 * k + 1) then { x1 with b := s.rawLevel (2 * k + 1), sinceB := mb } else x1
  s.setSpair k x2

/-- The channels show DEMAND: A low, and B low or, ANTIVALENT, high. -/
def State.showsA (s : State) (k : Nat) : Bool := !(s.spair k).a
def State.showsB (s : State) (k : Nat) : Bool := (s.spair k).b == decide (s.pairMode k = 2)

/-- A pair enters DEMAND. -/
def State.pairDemand (s : State) (k t : Nat) : State :=
  let s1 := ((s.setPairState k 1).bumpF safeioP 0x090 15 0 1).raise safeioP 0
  (s1.setSpair k { s1.spair k with demandAt := t }).modProc fun p => { p with entries := p.entries ++ [k] }

/-- A pair enters FAULT with a cause of Table 12-16. -/
def State.pairFault (s : State) (k cause : Nat) : State :=
  if s.pairState k ≥ 2 then s.setRegN safeioP 0x08C (cause * 16 + k)
  else
    let s1 := ((s.setPairState k 2).setRegN safeioP 0x08C (cause * 16 + k)).raise safeioP 1
    let s2 := (s1.setSpair k { s1.spair k with demandShown := false }).modProc fun p => { p with entries := p.entries ++ [k] }
    if s2.proctorOn then s2.evalLevel else s2

/-- A return to RUN; of the reset pair it is a reset event after 100 ms to 2 s of DEMAND (R420). -/
def State.pairRun (s : State) (k t : Nat) : State :=
  let held := t - (s.spair k).demandAt
  let isReset := decide (s.pairState k = 1) && decide (s.rubF 0x058 3 3 = 1) && decide (s.rubF 0x058 2 0 = k) &&
    decide (s.pairF k 5 4 = 2) && decide (100000000 ≤ held) && decide (held ≤ 2000000000)
  let s1 := s.setPairState k 0
  if isReset then s1.modProc fun p => { p with resetDue := true } else s1

def State.pairOn (s : State) (k : Nat) : Bool := decide (s.pageState safeioP = .running) && decide (s.pairMode k ≠ 0)

/-- SAFE_IN_EDGE: a channel of pair k goes to a level. A short low pulse is one an OSSD sends (R408). -/
def execSafeInEdge (k : Fin 8) (chB high : Bool) (time : Dword) (s : State) : Host.Outcome State Fault Refusal :=
  let j := k.val
  let t := time.toNat
  let c := 2 * j + if chB then 1 else 0
  let s1 := (advanceTo t s).settlePair j t
  let s2 := s1.setReg safeioP 0x080 (setBit (s1.reg safeioP 0x080) c high)
  let x := s2.spair j
  let masked := decide (t < s2.maskEnd j chB) && !high
  if masked then done s2
  else if chB then
    let pulse := x.pulseB || (high && !x.b && decide (t - x.sinceB < s2.pairFilter j))
    done (if x.b = high then s2 else s2.setSpair j { x with b := high, sinceB := t, pulseB := pulse })
  else
    let pulse := x.pulseA || (high && !x.a && decide (t - x.sinceA < s2.pairFilter j))
    done (if x.a = high then s2 else s2.setSpair j { x with a := high, sinceA := t, pulseA := pulse })

/-- SAFE_IN_FILTER_EXPIRY (R406): both channels have held DEMAND or RUN for FILTER. A pair in FAULT returns to RUN only after
both channels have shown DEMAND together and then RUN together. -/
def execSafeInFilterExpiry (k : Fin 8) (time : Dword) (s : State) : Host.Outcome State Fault Refusal :=
  let j := k.val
  let t := time.toNat
  let s1 := (advanceTo t s).settlePair j t
  let x := s1.spair j
  if !s1.pairOn j ∨ t < x.sinceA + s1.pairFilter j ∨ t < x.sinceB + s1.pairFilter j then done s1
  else if s1.showsA j && s1.showsB j then
    (if s1.pairState j = 2 then done (s1.setSpair j { x with demandShown := true })
     else if s1.pairState j = 0 then done (s1.pairDemand j t)
     else done s1)
  else if !s1.showsA j && !s1.showsB j then
    (if s1.pairState j = 2 ∧ !x.demandShown then done s1
     else if s1.pairState j = 0 then done s1
     else done (s1.pairRun j t))
  else done s1

/-- DISCREPANCY_EXPIRY (R406): the channels have disagreed for longer than DISC_MS. -/
def execDiscrepancyExpiry (k : Fin 8) (time : Dword) (s : State) : Host.Outcome State Fault Refusal :=
  let j := k.val
  let t := time.toNat
  let s1 := (advanceTo t s).settlePair j t
  let x := s1.spair j
  if s1.pairOn j && decide (s1.showsA j ≠ s1.showsB j) && decide (max x.sinceA x.sinceB + 1000000 * s1.pairF j 23 16 < t) then
    done (s1.pairFault j 1)
  else done s1

/-- TP_TEST_PULSE (R407): TP0, or with `tp1` TP1, goes low at `time`. `during` are the levels the channels show within 50 µs,
`after` those after the pulse. The channels of the source are masked for the pulse and 50 µs. -/
def execTpTestPulse (tp1 : Bool) (during after : BitVec 16) (time : Dword) (s : State) : Host.Outcome State Fault Refusal :=
  if s.pageState safeioP ≠ .running then done s
  else
    let t := time.toNat
    let s0 := (List.range 8).foldl (fun s k => s.settlePair k t) (advanceTo t s)
    let s1 := { s0 with safein := if tp1 then { s0.safein with maskB := t + 150000 } else { s0.safein with maskA := t + 150000 } }
    done ((List.range 8).foldl (fun s k =>
      if s.pairMode k = 0 ∨ !s.pairTp k then s
      else
        let own := 2 * k + if tp1 then 1 else 0
        let other := 2 * k + if tp1 then 0 else 1
        if during.getLsbD own then s.pairFault k 2
        else if s.rawLevel other && !during.getLsbD other && after.getLsbD other then s.pairFault k 3
        else s) s1)

/-- OSSD_INTERVAL_EXPIRY (R408): an OSSD_MS interval of a channel ends. A channel that is high must have shown a short low
pulse. -/
def execOssdIntervalExpiry (k : Fin 8) (chB : Bool) (s : State) : Host.Outcome State Fault Refusal :=
  let j := k.val
  if !s.pairOn j || s.pairTp j || decide (s.pairF j 31 24 = 0) then done s
  else
    let x := s.spair j
    let seen := if chB then x.pulseB else x.pulseA
    let level := if chB then x.b else x.a
    let s1 := s.setSpair j (if chB then { x with pulseB := false } else { x with pulseA := false })
    if level && !seen then done (s1.pairFault j 4) else done s1

/-! ## The SAFEIO page (R437) -/

/-- Outside RUNNING every used pair reads FAULT, the others UNUSED. -/
def State.parkPairs (s : State) : State :=
  (List.range 8).foldl (fun s k => s.setPairState k (if s.pairMode k = 0 then 3 else 2)) s

/-- The first pair with a reserved code, FILTER 0 or DISC_MS 0, or with OSSD_MS set in TP mode. -/
def State.safeioFails (s : State) : Option (Nat × Nat) :=
  match (List.range 8).find? fun k =>
      decide (s.pairMode k = 3) || decide (s.pairF k 5 4 = 3) ||
      (decide (s.pairMode k ≠ 0) && (decide (s.pairF k 15 8 = 0) || decide (s.pairF k 23 16 = 0))) with
  | some k => some (1, k)
  | none =>
    if s.regF safeioP 0x060 7 0 = 0 then some (1, 8)
    else ((List.range 8).find? fun k => decide (s.pairMode k ≠ 0) && s.pairTp k && decide (s.pairF k 31 24 ≠ 0)).map fun k => (2, k)

/-- At ENABLE each used pair takes its state from the levels as they stand; channels that disagree read DEMAND. -/
def State.startPairs (s : State) : State :=
  (List.range 8).foldl (fun s k =>
    if s.pairMode k = 0 then s.setPairState k 3
    else
      let t := now s
      let s1 := s.setSpair k { SafePair.atReset with a := s.rawLevel (2 * k), b := s.rawLevel (2 * k + 1), sinceA := t, sinceB := t }
      if !s1.showsA k && !s1.showsB k then s1.setPairState k 0 else s1.pairDemand k t) s

def safeioEnable (s : State) : Ans × State :=
  if s.pageState safeioP ≠ .idle then (ansState, s)
  else match s.safeioFails with
    | some (c, d) => (ansArg c d, s)
    | none => crcGate s safeioP (ansDone, ((s.toState safeioP .running).startPairs).judge false)

def safeioStop (s : State) : Ans × State :=
  if s.pageState safeioP = .running then (ansDone, (((s.toState safeioP .idle).parkPairs).evalLevel).judge false) else (ansDone, s)

/-- DISABLE in IDLE has nothing to do. -/
def safeioDisable (s : State) : Ans × State := if s.pageState safeioP = .idle then (ansDone, s) else (ansState, s)

/-- RESET_PAGE in IDLE. -/
def safeioReset (s : State) : Ans × State := if s.pageState safeioP = .idle then (ansDone, s) else (ansState, s)

/-- Writes to a pair's configuration in IDLE show in SAFEIO_PAIR_STATE. -/
def safeioWrite (off : Nat) (v : Word) (s : State) : State × Bool :=
  let x := s.plainWrite safeioP off v
  (if off < 0x060 then x.1.parkPairs else x.1, x.2)

/-! ## Clocks and supplies -/

/-- REF_CLOCK_LOSS (R56, R528): the reference oscillator fails. Ticks stop; the Proctor latches STOP0 and lowers the level to
SAFE-STOP (Table 12-11). -/
def execRefClockLoss (s : State) : Host.Outcome State Fault Refusal :=
  let s1 := ((s.dropChange.modTempo fun t => { t with oscOk := false, stopping := false, quiet := false, quietDue := false }).toState tempoP .fault).ticksStop.restartWindows
  let s2 := ((s1.finishAll tempoP 3 none).syndrome tempoP 0 0x10).raise tempoP 4
  done (s2.fatal 0 0)

/-- BEAT_TIMING_FAULT (R57): the Proctor finds a Beat interval off by more than 1 %, or a gap of more than 1.5 × T_beat. -/
def execBeatTimingFault (s : State) : Host.Outcome State Fault Refusal := if s.ticking then done (s.fatal 0 0) else done s

/-- SUPPLY_MONITOR_FAULT (R524): a rail outside its window for 10 µs. With `vddSafe`, VDD_SAFE is below 0.80 V: the Proctor
domain is reset and drives nothing any more. -/
def execSupplyMonitorFault (vddSafe : Bool) (s : State) : Host.Outcome State Fault Refusal :=
  if vddSafe then done s.proctorLost else done (s.fatal 0x86 0)

end Sys2Proof.Machine
end

