-- ==== Sys2Proof/Machine/CanS.lean ====
section
/-!
DEFINITION. CAN_S on receipt (R430, R431), Body IDs and the Seat state (sections 12.5 and 13.7).
-/

namespace Sys2Proof.Machine

/-- A change of CAN_S's state raises CANS_CHANGE. -/
def State.setCans (s : State) (v : Nat) : State :=
  if s.regF procP 0x09C 2 0 = v then s else (s.setRegF procP 0x09C 2 0 v).raise procP 4

def State.cansState (s : State) : Nat := s.regF procP 0x09C 2 0

/-- A discarded frame. -/
def State.cansDiscard (s : State) : State := s.bumpF procP 0x09C 31 16 1

/-- Length, CRC with the COMMAND key, TYPE and VERSION of a received PDU. -/
def pduGood (img : Image) (type len : Nat) (f : List Byte) : Bool :=
  decide (f.length = len) && decide (cansCrc (imgWord img 0x064 ^^^ 0xFFFFFFFF) (f.take (len - 4)) = wordAt f (len - 4)) &&
  decide (byteAt f 0 = type) && decide (byteAt f 1 = 1)

/-- The counter after a counter: 65,535 is followed by 1. -/
def counterAfter (c : Nat) : Nat := if c = 65535 then 1 else c + 1

/-- ECHO lies within 8 counts behind the present STATUS COUNTER. -/
def State.echoOk (s : State) (e : Nat) : Bool :=
  let c := s.proc.counter
  if e = 0 then decide (c ≤ 8) else decide (c ≠ 0) && decide ((c + 65535 - e) % 65535 ≤ 8)

/-- A COMMAND is accepted (R430, R431): its requests are judged at the next Beat boundary. -/
def State.acceptCommand (s : State) (f : List Byte) : State :=
  let old := match s.proc.command with
    | some (g, _) => (byteAt g 6).testBit 1
    | none => false
  let b := byteAt f 6
  let p := s.proc
  let s1 := { s with proc := { p with
    command := some (f, now s), resync := false, inRow := p.inRow + 1, stop0 := p.stop0 || b.testBit 3, stop1 := p.stop1 || b.testBit 2,
    resetDue := p.resetDue || (b.testBit 1 && !old && decide (s.rubF 0x058 4 4 = 1)) } }
  if s.cansState = 1 ∨ (s.cansState = 3 ∧ 2 ≤ s1.proc.inRow) then s1.setCans 2 else s1

/-- CANS_COMMAND (R430): a frame of 16 bytes on an identifier. -/
def execCansCommand (id : BitVec 11) (frame : List Byte) (s : State) : Host.Outcome State Fault Refusal :=
  match s.proc.rubric with
  | none => done s
  | some img =>
    if !s.proctorOn || !s.proc.cansOn || decide (id.toNat ≠ imgF img 0x05C 26 16) || decide (imgF img 0x060 31 8 = 0) then done s
    else
      let inOrder := match s.proc.command with
        | some (g, _) => s.proc.resync || decide (halfAt frame 2 = counterAfter (halfAt g 2))
        | none => true
      if pduGood img 2 16 frame && inOrder && s.echoOk (halfAt frame 4) then done ((s.acceptCommand frame).wakeBy 8)
      else done s.cansDiscard

/-- CANS_TIMEOUT (R430): TIMEOUT_US without an accepted COMMAND. -/
def execCansTimeout (s : State) : Host.Outcome State Fault Refusal :=
  let lim := 1000 * s.rubF 0x060 31 8
  if lim = 0 ∨ !s.proctorOn ∨ ¬(s.cansState = 1 ∨ s.cansState = 2) then done s
  else
    let t := match s.proc.command with
      | some (_, t) => max t s.proc.cansStart
      | none => s.proc.cansStart
    done (((advanceTo (t + lim) s).modProc fun p => { p with resync := true, inRow := 0 }).setCans 3)

/-- CANS_STATUS_TIMER (R443): while no ticks run, and in ROM recovery, a STATUS every 10 ms of the Proctor's clock. -/
def execCansStatusTimer (time : Dword) (s : State) : Host.Outcome State Fault Refusal :=
  let s1 := advanceTo time.toNat s
  match s1.proc.rubric, s1.proc.spare with
  | some img, _ => if s1.ticking then done s1 else done (s1.sendStatus img (imgWord img 0x070).toNat)
  | none, some img => done (s1.sendStatus img 0)
  | none, none => done s1

/-! ## The Seat state (R464) -/

/-- A change of ID_SEAT.STATE. -/
def State.setSeat (s : State) (v : Nat) : State :=
  if s.regF identP 0x054 2 0 = v then s
  else ((s.setRegF identP 0x054 2 0 v).raise identP 1).setRegF procP 0x040 5 5 (if v = 2 then 1 else 0)

/-- SEATED or NEW_SEAT, for the Body ID read. -/
def State.judgeSeat (s : State) (body : List Byte) : State :=
  match s.boot.seat with
  | some r => s.setSeat (if (r.drop 0x20).take 16 = body then 1 else 2)
  | none => s.setSeat 2

/-- BODY_PDU (R460, R465): the first good one gives the Body ID; a further one with another Body ID latches STOP1. -/
def execBodyPdu (id : BitVec 11) (frame : List Byte) (s : State) : Host.Outcome State Fault Refusal :=
  match s.proc.rubric with
  | none => done s
  | some img =>
    if !s.proctorOn || !s.proc.cansOn || decide (id.toNat ≠ imgF img 0x05C 26 16) then done s
    else if !pduGood img 3 32 frame then done s.cansDiscard
    else
      let body := (frame.drop 4).take 16
      let s1 := (s.modProc fun p => { p with bodyLast := some body }).wakeBy 8
      match s.proc.bodyId with
      | none =>
        let s2 := (List.range 4).foldl (fun s k => s.setReg identP (0x060 + 4 * k) (wordAt body (4 * k)))
          (s1.modProc fun p => { p with bodyId := some body })
        done (s2.judgeSeat body)
      | some b => if b = body then done s1 else done (((s1.latchV 4 0xFFFF .seat).log 0x84 0 0 4 0).judge false)

/-- NO_BODY_TIMEOUT (Table 13-11): 2 s after CAN_S started. -/
def execNoBodyTimeout (s : State) : Host.Outcome State Fault Refusal :=
  if s.proc.cansOn && decide (s.regF identP 0x054 2 0 = 0) && s.proc.bodyId.isNone then
    done ((advanceTo (s.proc.cansStart + 2000000000) s).setSeat 3)
  else done s

end Sys2Proof.Machine
end

