-- ==== Sys2Proof/Machine/Crypto.lean ====
section
/-!
DEFINITION. SHA-256 and ECDSA verification on curve P-256 (R448), over byte strings and natural numbers.
-/

namespace Sys2Proof.Machine

/-! ## SHA-256 (FIPS 180-4) -/

def shaK : List Word :=
  [0x428A2F98, 0x71374491, 0xB5C0FBCF, 0xE9B5DBA5, 0x3956C25B, 0x59F111F1, 0x923F82A4, 0xAB1C5ED5] ++
  [0xD807AA98, 0x12835B01, 0x243185BE, 0x550C7DC3, 0x72BE5D74, 0x80DEB1FE, 0x9BDC06A7, 0xC19BF174] ++
  [0xE49B69C1, 0xEFBE4786, 0x0FC19DC6, 0x240CA1CC, 0x2DE92C6F, 0x4A7484AA, 0x5CB0A9DC, 0x76F988DA] ++
  [0x983E5152, 0xA831C66D, 0xB00327C8, 0xBF597FC7, 0xC6E00BF3, 0xD5A79147, 0x06CA6351, 0x14292967] ++
  [0x27B70A85, 0x2E1B2138, 0x4D2C6DFC, 0x53380D13, 0x650A7354, 0x766A0ABB, 0x81C2C92E, 0x92722C85] ++
  [0xA2BFE8A1, 0xA81A664B, 0xC24B8B70, 0xC76C51A3, 0xD192E819, 0xD6990624, 0xF40E3585, 0x106AA070] ++
  [0x19A4C116, 0x1E376C08, 0x2748774C, 0x34B0BCB5, 0x391C0CB3, 0x4ED8AA4A, 0x5B9CCA4F, 0x682E6FF3] ++
  [0x748F82EE, 0x78A5636F, 0x84C87814, 0x8CC70208, 0x90BEFFFA, 0xA4506CEB, 0xBEF9A3F7, 0xC67178F2]

def shaInit : List Word :=
  [0x6A09E667, 0xBB67AE85, 0x3C6EF372, 0xA54FF53A, 0x510E527F, 0x9B05688C, 0x1F83D9AB, 0x5BE0CD19]

/-- The eight working words. -/
structure Sha where
  a : Word
  b : Word
  c : Word
  d : Word
  e : Word
  f : Word
  g : Word
  h : Word
  deriving DecidableEq, Repr

def ror (x : Word) (n : Nat) : Word := x.rotateRight n

/-- The schedule: from the last 16 words, newest first, n further words are made. -/
def shaSchedule : Nat → List Word → List Word
  | 0, ws => ws
  | n + 1, ws =>
    let w := fun (k : Nat) => ws.getD (k - 1) 0
    let s0 := ror (w 15) 7 ^^^ ror (w 15) 18 ^^^ (w 15 >>> 3)
    let s1 := ror (w 2) 17 ^^^ ror (w 2) 19 ^^^ (w 2 >>> 10)
    shaSchedule n ((s1 + w 7 + s0 + w 16) :: ws)

def shaRound (v : Sha) (kw : Word) : Sha :=
  let t1 := v.h + (ror v.e 6 ^^^ ror v.e 11 ^^^ ror v.e 25) + ((v.e &&& v.f) ^^^ (~~~v.e &&& v.g)) + kw
  let t2 := (ror v.a 2 ^^^ ror v.a 13 ^^^ ror v.a 22) + ((v.a &&& v.b) ^^^ (v.a &&& v.c) ^^^ (v.b &&& v.c))
  ⟨t1 + t2, v.a, v.b, v.c, v.d + t1, v.e, v.f, v.g⟩

def shaWords : Nat → List Byte → List Word
  | 0, _ => []
  | n + 1, bs => BitVec.ofNat 32 (beNat (bs.take 4)) :: shaWords n (bs.drop 4)

/-- One block of 64 bytes. -/
def shaBlock (v : Sha) (bs : List Byte) : Sha :=
  let ws := (shaSchedule 48 (shaWords 16 bs).reverse).reverse
  let r := (List.zipWith (· + ·) shaK ws).foldl shaRound v
  ⟨v.a + r.a, v.b + r.b, v.c + r.c, v.d + r.d, v.e + r.e, v.f + r.f, v.g + r.g, v.h + r.h⟩

def shaBlocks : Nat → Sha → List Byte → Sha
  | 0, v, _ => v
  | n + 1, v, bs => shaBlocks n (shaBlock v (bs.take 64)) (bs.drop 64)

/-- The n bytes of a value, most significant first. -/
def beBytes (n v : Nat) : List Byte := (leBytes n v).reverse

/-- SHA-256, as 32 bytes. -/
def sha256 (bs : List Byte) : List Byte :=
  let n := bs.length
  let m := bs ++ [0x80] ++ List.replicate ((119 - n % 64) % 64) 0 ++ beBytes 8 (8 * n)
  let i := fun (k : Nat) => shaInit.getD k 0
  let v := shaBlocks (m.length / 64) ⟨i 0, i 1, i 2, i 3, i 4, i 5, i 6, i 7⟩ m
  [v.a, v.b, v.c, v.d, v.e, v.f, v.g, v.h].flatMap fun w => beBytes 4 w.toNat

/-! ## P-256 (FIPS 186-4) -/

def p256p : Nat := 0xFFFFFFFF00000001000000000000000000000000FFFFFFFFFFFFFFFFFFFFFFFF
def p256n : Nat := 0xFFFFFFFF00000000FFFFFFFFFFFFFFFFBCE6FAADA7179E84F3B9CAC2FC632551
def p256b : Nat := 0x5AC635D8AA3A93E7B3EBBD55769886BC651D06B0CC53B0F63BCE3C3E27D2604B
def p256gx : Nat := 0x6B17D1F2E12C4247F8BCE6E563A440F277037D812DEB33A0F4A13945D898C296
def p256gy : Nat := 0x4FE342E2FE1A7F9B8EE7EB4A7C0F9E162BCE33576B315ECECBB6406837BF51F5

/-- Euclid's algorithm on the remainders r0 and r1, with the coefficients t0 and t1 of the number to invert. -/
def invLoop (m : Nat) : Nat → Nat → Nat → Nat → Nat → Nat
  | 0, _, _, t0, _ => t0
  | n + 1, r0, r1, t0, t1 => if r1 = 0 then t0 else invLoop m n r1 (r0 % r1) t1 ((t0 + (m - r0 / r1 * t1 % m)) % m)

/-- Inverse modulo a prime of 256 bits; of 0 it is 0. -/
def invMod (m a : Nat) : Nat := invLoop m 512 m (a % m) 0 1

/-- A point of the curve in Jacobian coordinates: x = X / Z², y = Y / Z³ modulo p; the point at infinity has Z = 0. -/
structure EcPoint where
  x : Nat
  y : Nat
  z : Nat
  deriving DecidableEq, Repr

def ecInfinity : EcPoint := ⟨1, 1, 0⟩

/-- x − y modulo p, both below p. -/
def subP (x y : Nat) : Nat := (x + p256p - y) % p256p

def mulP (x y : Nat) : Nat := x * y % p256p

/-- 2·P on a curve with a = −3. -/
def ecDouble (q : EcPoint) : EcPoint :=
  let d := mulP q.z q.z
  let g := mulP q.y q.y
  let b := mulP q.x g
  let a := mulP (3 * subP q.x d) (q.x + d)
  let x3 := subP (mulP a a) (8 * b % p256p)
  ⟨x3, subP (mulP a (subP (4 * b % p256p) x3)) (8 * mulP g g % p256p), mulP (2 * q.y) q.z⟩

/-- P + (x, y). -/
def ecAdd (q : EcPoint) (x y : Nat) : EcPoint :=
  if q.z = 0 then ⟨x, y, 1⟩
  else
    let zz := mulP q.z q.z
    let h := subP (mulP x zz) q.x
    let r := subP (mulP (mulP y zz) q.z) q.y
    if h = 0 then (if r = 0 then ecDouble q else ecInfinity)
    else
      let hh := mulP h h
      let v := mulP q.x hh
      let x3 := subP (subP (mulP r r) (mulP hh h)) (2 * v % p256p)
      ⟨x3, subP (mulP r (subP v x3)) (mulP q.y (mulP hh h)), mulP q.z h⟩

/-- j·G + k·(x, y) from the n low bits of j and k, most significant first. -/
def ecMul (j k x y : Nat) : Nat → EcPoint → EcPoint
  | 0, acc => acc
  | n + 1, acc =>
    let d := ecDouble acc
    let e := if j.testBit n then ecAdd d p256gx p256gy else d
    ecMul j k x y n (if k.testBit n then ecAdd e x y else e)

/-- A point with coordinates below p that satisfies the curve's equation. -/
def onCurve (x y : Nat) : Bool :=
  decide (x < p256p) && decide (y < p256p) && decide (y * y % p256p = (x * x * x + (p256p - 3) * x + p256b) % p256p)

/-- ECDSA: the signature r, s over a message verifies under the key x, y (each 32 bytes, most significant first). -/
def ecdsaOk (key sig msg : List Byte) : Bool :=
  let x := beNat (key.take 32)
  let y := beNat ((key.drop 32).take 32)
  let r := beNat (sig.take 32)
  let s := beNat ((sig.drop 32).take 32)
  if r = 0 ∨ p256n ≤ r ∨ s = 0 ∨ p256n ≤ s ∨ !onCurve x y then false
  else
    let e := beNat (sha256 msg)
    let w := invMod p256n s
    let q := ecMul (e * w % p256n) (r * w % p256n) x y 256 ecInfinity
    decide (q.z ≠ 0) && decide (mulP q.x (invMod p256p (mulP q.z q.z)) % p256n = r)

end Sys2Proof.Machine
end

