-- ==== Sys2Proof/Machine/Boot.lean ====
section
/-!
DEFINITION. Power-on reset, boot, the flash and its records, signed images, the Seat record, and the IMAGE and IDENTITY
pages (chapter 13).
-/

namespace Sys2Proof.Machine

/-! ## Flash (R444, R445) -/

/-- n bytes from address a of a sorted list of cells that starts at a or above; what is not listed reads d. -/
def readRun (d : Byte) : Nat → Nat → List Host.Cell → List Byte
  | 0, _, _ => []
  | n + 1, a, [] => d :: readRun d n (a + 1) []
  | n + 1, a, (k, v) :: m => if k = a then v :: readRun d n (a + 1) m else d :: readRun d n (a + 1) ((k, v) :: m)

/-- Bytes as cells from address a, those equal to d left out. -/
def runCells (d : Byte) : Nat → List Byte → List Host.Cell
  | _, [] => []
  | a, b :: bs => if b = d then runCells d (a + 1) bs else (a, b) :: runCells d (a + 1) bs

/-- Replaces the bytes from address a. -/
def writeRun (d : Byte) (m : List Host.Cell) (a : Nat) (bs : List Byte) : List Host.Cell :=
  m.filter (fun e => decide (e.1 < a)) ++ runCells d a bs ++ m.filter (fun e => decide (a + bs.length ≤ e.1))

/-- An erased flash byte. -/
def erased : Byte := 0xFF

def State.flashRead (s : State) (a n : Nat) : List Byte := readRun erased n a (s.boot.flash.filter fun e => decide (a ≤ e.1))

def State.modBoot (s : State) (f : BootUnit → BootUnit) : State := { s with boot := f s.boot }

def State.flashWrite (s : State) (a : Nat) (bs : List Byte) : State := s.modBoot fun b => { b with flash := writeRun erased b.flash a bs }

/-- Erases n bytes. -/
def State.flashErase (s : State) (a n : Nat) : State := s.modBoot fun b =>
  { b with flash := b.flash.filter fun e => decide (e.1 < a) || decide (a + n ≤ e.1) }

def slotBase (slot : Nat) : Nat := 0x400000 * (1 + slot)

/-! ## Boot control record (R446, R447) -/

/-- Table 13-3. -/
structure Bcr where
  preferred : Nat
  trial : Bool
  left : Nat
  boots : Nat
  gen : Nat
  deriving DecidableEq, Repr

def bcrAddr (copy : Nat) : Nat := 0x10000 * copy

/-- A copy, where it is valid. -/
def State.bcrCopy (s : State) (copy : Nat) : Option Bcr :=
  let b := s.flashRead (bcrAddr copy) 64
  let w := fun (k : Nat) => wordAt b k
  if w 0 = 0x4C544342 ∧ crc32 (b.take 0x3C) = w 0x3C then
    some ⟨fld (w 8) 0 0, bit (w 8) 1, fld (w 8) 7 4, (w 12).toNat, (w 4).toNat⟩
  else none

/-- The record in force and its copy; with no valid copy the defaults, and none. -/
def State.bcr (s : State) : Bcr × Option Nat :=
  match s.bcrCopy 0, s.bcrCopy 1 with
  | some a, some b => if a.gen < b.gen then (b, some 1) else (a, some 0)
  | some a, none => (a, some 0)
  | none, some b => (b, some 1)
  | none, none => (⟨0, false, 0, 0, 0⟩, none)

def bcrBytes (r : Bcr) : List Byte :=
  let body := leBytes 4 0x4C544342 ++ leBytes 4 r.gen ++ leBytes 4 (r.preferred + (if r.trial then 2 else 0) + 16 * r.left) ++
    leBytes 4 r.boots ++ List.replicate 0x2C 0
  body ++ leBytes 4 (crc32 body).toNat

/-- Writes a record into the copy not in force, with GEN one higher, its sector erased first. A failed write leaves that copy
erased. -/
def State.writeBcr (s : State) (r : Bcr) (ok : Bool) : State :=
  let x := s.bcr
  let a := bcrAddr (match x.2 with
    | some c => 1 - c
    | none => 0)
  let s1 := s.flashErase a 0x10000
  if ok then s1.flashWrite a (bcrBytes { r with gen := (x.1.gen + 1) % 0x100000000 }) else s1

/-- IMG_BOOT_COUNT and IMG_CTRL show the record in force. -/
def State.showBcr (s : State) : State :=
  let r := s.bcr.1
  (s.setRegN imageP 0x048 r.boots).setRegN imageP 0x04C (r.preferred + (if r.trial then 2 else 0) + 16 * r.left + r.gen % 0x10000 * 0x10000)

def State.showFuses (s : State) : State :=
  let f := s.boot.fuses
  s.setRegN imageP 0x0A0 (f.svnS + f.svnC * 0x100 + f.revoked * 0x10000)

/-- The trial rule (R447) and BOOTS. -/
def trialRule (r : Bcr) : Bcr :=
  let r1 := if r.trial then (if r.left = 0 then { r with preferred := 1 - r.preferred, trial := false } else { r with left := r.left - 1 })
    else r
  { r1 with boots := (r1.boots + 1) % 0x100000000 }

/-! ## Signed images (R448, R449) -/

def imageAddr (slot kind : Nat) : Nat := slotBase slot + (if kind = 2 then 0x80000 else 0)

def imageLimit (kind : Nat) : Nat := if kind = 2 then 1572864 else 458752

def State.imageHead (s : State) (slot kind : Nat) : List Byte := s.flashRead (imageAddr slot kind) 512

def headF (h : List Byte) (off hi lo : Nat) : Nat := fld (wordAt h off) hi lo

/-- Every reserved bit of the header is 0. -/
def headClean (h : List Byte) : Bool :=
  decide (headF h 0x004 31 24 = 0) && decide (headF h 0x010 31 6 = 0) && decide (headF h 0x014 31 2 = 0) &&
  decide (headF h 0x01C 31 2 = 0) && decide (headF h 0x020 31 4 = 0) && ((h.drop 0x024).take 28).all (· == 0) &&
  ((h.drop 0x0A0).take 96).all (· == 0) &&
  (List.range (headF h 0x020 3 0)).all fun k => decide (headF h (0x100 + 16 * k) 31 8 = 0)

/-- STEPPINGS bit of a stepping (Table 0-4). -/
def steppingBit (n : Nat) : Nat := if n = 0x10 then 1 else 0

/-- The first check of Table 13-5 that an image fails. -/
def State.imageCause (s : State) (slot kind : Nat) (readFail : Bool) : Option Nat :=
  let h := s.imageHead slot kind
  let f := s.boot.fuses
  let key := headF h 0x014 1 0
  let n := (wordAt h 0x018).toNat
  if readFail then some 8
  else if wordAt h 0 ≠ 0x4D49515A then some 1
  else if headF h 0x004 15 0 ≠ 1 ∨ headF h 0x004 23 16 ≠ kind ∨ !headClean h ∨ 12 < headF h 0x020 3 0 ∨ imageLimit kind < 512 + n then some 2
  else if f.romKeys[key]? ≠ some (sha256 ((h.drop 0x060).take 64)) ∨ f.revoked.testBit key then some 3
  else if !ecdsaOk ((h.drop 0x060).take 64) (h.drop 0x1C0) (h.take 0x1C0) then some 4
  else if sha256 (s.flashRead (imageAddr slot kind + 512) n) ≠ (h.drop 0x040).take 32 then some 5
  else if headF h 0x010 5 0 < (if kind = 1 then f.svnS else f.svnC) then some 6
  else if !(headF h 0x01C 1 0).testBit (steppingBit s.chip.stepping) then some 7
  else none

/-- An image lists its partner (R451). -/
def lists (h partner : List Byte) : Bool :=
  (List.range (headF h 0x020 3 0)).any fun k =>
    let e := h.drop (0x100 + 16 * k)
    decide (byteAt e 0 = byteAt partner 6) && decide (wordAt e 4 = wordAt partner 8) &&
    decide ((wordAt e 8).toNat ≤ (wordAt partner 12).toNat) && decide ((wordAt partner 12).toNat ≤ (wordAt e 12).toNat)

/-- The decision on a slot (Table 13-7): 1 TESTED, 2 UNTESTED, 3 REFUSED with cause and KIND. -/
structure SlotResult where
  outcome : Nat
  cause : Nat
  image : Nat
  deriving DecidableEq, Repr

def State.decideSlot (s : State) (slot : Nat) (failS failC : Bool) : SlotResult :=
  match s.imageCause slot 1 failS with
  | some c => ⟨3, c, 1⟩
  | none =>
    match s.imageCause slot 2 failC with
    | some c => ⟨3, c, 2⟩
    | none =>
      let a := s.imageHead slot 1
      let b := s.imageHead slot 2
      if lists a b && lists b a then ⟨1, 0, 0⟩ else ⟨2, 0, 0⟩

/-- Bytes of a hash in registers, the byte of lowest index in bits [7:0] (R466). -/
def State.setBytes (s : State) (p : PageRef) (off : Nat) (bs : List Byte) : State :=
  (List.range (bs.length / 4)).foldl (fun s j => s.setReg p (off + 4 * j) (wordAt bs (4 * j))) s

def State.regBytes (s : State) (p : PageRef) (off n : Nat) : List Byte :=
  (List.range n).flatMap fun j => leBytes 4 (s.reg p (off + 4 * j)).toNat

/-- Writes Commons or Locker from outside the fabric: bytes with valid check bits. -/
def State.loadSram (s : State) (a : Nat) (bs : List Byte) : State :=
  let out := fun (w : Nat) => decide (w < a / 8) || decide (a + bs.length ≤ 8 * w)
  { s with mem := writeRun memReset s.mem a bs,
           sram := { s.sram with poison := s.sram.poison.filter fun e => out e.1, errs := s.sram.errs.filter fun e => out e.1 } }

/-- Step 5 of R439 reads a Conductor image into Commons granules 0 to 23. -/
def State.loadConductor (s : State) (slot : Nat) : State :=
  let n := 512 + (wordAt (s.imageHead slot 2) 0x018).toNat
  s.loadSram 0x2000000 (s.flashRead (imageAddr slot 2) (min n (imageLimit 2)))

/-! ## Identity and the Seat record (R458, R463) -/

def State.deviceId (s : State) : List Byte := (sha256 s.boot.fuses.pubKey).take 16

/-- The form of a record of Table 13-10. -/
def recordForm (enrol : Bool) (r : List Byte) : Bool :=
  let zero := fun (off n : Nat) => ((r.drop off).take n).all (· == 0)
  decide (wordAt r 0 = if enrol then 0x45544C46 else 0x54414553) && decide (wordAt r 4 = 1) &&
  (if enrol then decide (wordAt r 8 = 0) && zero 0x20 16 else decide (wordAt r 8 ≠ 0)) &&
  zero 0x0C 4 && zero 0x30 16 && zero 0x80 64

def recordKey (r : List Byte) : List Byte := (r.drop 0x40).take 64

def recordSigned (r : List Byte) : Bool := ecdsaOk (recordKey r) ((r.drop 0xC0).take 64) (r.take 0xC0)

def State.recordOwn (s : State) (r : List Byte) : Bool := decide ((r.drop 0x10).take 16 = s.deviceId)

def State.recordFleet (s : State) (r : List Byte) : Bool := decide (s.boot.fuses.fleet = some (sha256 (recordKey r)))

def seatAddr (copy : Nat) : Nat := 0x20000 + 0x10000 * copy

/-- A valid Seat copy. -/
def State.seatCopy (s : State) (copy : Nat) : Option (List Byte) :=
  let r := s.flashRead (seatAddr copy) 256
  if recordForm false r && s.recordOwn r && s.recordFleet r && recordSigned r then some r else none

def seatSeq (r : List Byte) : Nat := (wordAt r 8).toNat

/-- The Seat copy in force: the valid one with the higher SEAT_SEQ. -/
def State.seatInForce (s : State) : Option (Nat × List Byte) :=
  match s.seatCopy 0, s.seatCopy 1 with
  | some a, some b => if seatSeq a < seatSeq b then some (1, b) else some (0, a)
  | some a, none => some (0, a)
  | none, some b => some (1, b)
  | none, none => none

/-- The registers of the Seat record in force. -/
def State.showSeat (s : State) : State :=
  let s1 := s.setRegF identP 0x054 8 8 (if s.boot.fuses.fleet.isSome then 1 else 0)
  match s1.boot.seat with
  | none => ((s1.setRegF identP 0x054 9 9 0).setRegN identP 0x058 0).setBytes identP 0x070 (List.replicate 16 0)
  | some r => ((s1.setRegF identP 0x054 9 9 1).setRegN identP 0x058 (seatSeq r)).setBytes identP 0x070 ((r.drop 0x20).take 16)

/-! ## Power-on reset (R526, R454) -/

/-- Every unit is reset; fuses, flash and what is fixed at assembly stay. Commands that wait come from outside, and what has
been sent is sent. -/
def State.powerOn (s : State) (cause : Nat) : State :=
  let b := BootUnit.atReset
  { State.reset with
    chip := s.chip, pending := s.pending, freeCtr := s.freeCtr, out := s.out,
    boot := { b with fuses := s.boot.fuses, flash := s.boot.flash, flashMib := s.boot.flashMib } }.setRegN imageP 0x044 cause

/-- PORST_N_ASSERT (R526): a low level of `ns` nanoseconds; shorter than 1 µs it is ignored. -/
def execPorstNAssert (ns : Word) (s : State) : Host.Outcome State Fault Refusal :=
  if ns.toNat < 1000 then done s else done (s.powerOn 1)

/-! ## Boot (R439) -/

/-- State of a page at the end of boot, its unit healthy. -/
def bootState (p : PageRef) : PageState :=
  match p.ty with
  | .homeroom => if p.inst = 0 then .running else .idle
  | .cue | .sect | .locker | .dpp | .codec | .adc | .proctor | .hallmon | .image | .identity | .dynamics | .pcie => .running
  | _ => .idle

/-- The pages that are in a state of their own at the end of boot already. -/
def bootKeeps (p : PageRef) : Bool :=
  match p.ty with
  | .tempo | .proctor | .rubric | .hallmon | .dynamics => true
  | _ => false

/-- Units that fail boot BIST become Excused from OFF (step 6); every other page leaves OFF. -/
def State.bootBist (s : State) (failed : BitVec 256) : State :=
  let bad := (presentBits s.chip.grade).filter fun b => failed.getLsbD b
  let s2 := (List.range 4).foldl (fun s q =>
    let pass := (List.range 8).foldl (fun n k => if failed.getLsbD (8 * q + k) then n else n + 2 ^ k) 0
    s.setRegN (sectP q) 0x04C (0xFF00 + pass)) s
  let s3 := ((bad.filter fun b => decide (b < 32)).foldl (fun s t => s.excuseTile t 3) s2).excuse (bad.filter fun b => decide (32 ≤ b))
  (allPages s.chip.grade).foldl (fun s p => if bootKeeps p || decide (s.pageState p = .excused) then s else s.toState p (bootState p)) s3

/-- The flash Rubric (Table 13-2): the words of the RUBRIC span. -/
def State.flashRubric (s : State) : Image :=
  let bs := s.flashRead 0x40000 0x4000
  ((List.range 0x1000).filterMap fun i =>
    let w := wordAt (bs.drop (4 * i)) 0
    if (i < 0x10 ∨ 0x20 ≤ i ∧ i < 0x100) ∨ w = 0 then none else some (4 * i, w))

/-- Step 4: the flash Rubric comes into the fields of the RUBRIC page; with its checks passed it is in force, else the
registers keep their reset values (log entry 125). -/
def State.bootRubric (s : State) : State :=
  let img := s.flashRubric
  let store := fun (s : State) (e : Nat × Word) => match regFind .rubric e.1 with
    | some d => s.setReg rubricP e.1 (e.2 &&& word d.rw)
    | none => s
  let s1 := (img.foldl store s).modPage rubricP fun g => { g with cfgCrc := wordAt (s.flashRead 0x4002C 4) 0 }
  match s1.rubricFails s1.pageImage with
  | some _ => s.toState rubricP .idle
  | none =>
    if s1.crcMatches rubricP then (s1.rubricInForce s1.pageImage).toState rubricP .running
    else s.toState rubricP .idle

/-- What every boot shows of the device: its identity, fuses, flash and records. -/
def State.bootIdentity (s : State) : State :=
  let f := s.boot.fuses
  let s1 := ((s.setBytes identP 0x040 s.deviceId).setRegN identP 0x0A0 f.cert.length).setBytes identP 0x400
    (f.cert ++ List.replicate ((4 - f.cert.length % 4) % 4) 0)
  let s2 := s1.modBoot fun b => { b with seat := s1.seatInForce.map (·.2) }
  (s2.showSeat.showFuses.showBcr).setRegN imageP 0x0B8 s.boot.flashMib

/-- Publication of the Roll Book and the service level at the end of boot; the first violation windows start (R126). -/
def State.endBoot (s : State) (level : Nat) : State :=
  let s1 := { s with lvl := { s.lvl with published := true, generation := s.lvl.generation + 2, dropDue := false } }
  let s2 := (((s1.setRegF procP 0x040 3 0 level).raise procP 1).log 0x83 0 level 0 level).hwSignal 5 (now s1)
  ({ s2 with proc := { s2.proc with react := level } }).restartWindows

/-- The running pair shows in the IMAGE page. -/
def State.showImages (s : State) (slot : Nat) : State :=
  let a := s.imageHead slot 1
  let b := s.imageHead slot 2
  let s1 := s.modBoot fun x => { x with headS := a, headC := b }
  let s2 := ((s1.setReg imageP 0x050 (wordAt a 8)).setReg imageP 0x054 (wordAt a 12)).setReg imageP 0x058 (wordAt b 8)
  ((s2.setReg imageP 0x05C (wordAt b 12)).setBytes imageP 0x060 (sha256 a)).setBytes imageP 0x080 (sha256 b)

/-- Boot with an accepted pair: steps 3 to 7. -/
def State.bootPair (s : State) (slot outcome : Nat) (failed : BitVec 256) : State :=
  let s1 := ((s.loadConductor slot).showImages slot).bootBist failed
  let s2 := (s1.setRegF procP 0x040 10 8 1).toState procP .running
  let s3 := s2.bootRubric
  let s4 := if outcome = 2 then s3.setRegF procP 0x040 4 4 1 else s3
  (s4.endBoot s4.healthLevel).judge false

/-- ROM recovery (R442). -/
def State.bootRecovery (s : State) : State :=
  let s1 := ([procP, imageP, identP, (⟨.pcie, 0⟩ : PageRef)].foldl (fun s p => s.toState p .running) s).setRegF procP 0x040 10 8 1
  let img := s.flashRubric
  let good := decide (imageCrc img = imgWord img 0x070)
  let s2 := { s1 with lvl := { s1.lvl with minimal := true }, proc := { s1.proc with
    spare := if good then some img else none, cansOn := good && cansUsed img, cansStart := now s1 } }
  s2.endBoot 1

/-- BOOT_START (R439). `failed`: units that fail boot BIST; `readFail`: flash reads that fail, Sahard and Conductor image of
slot A, then of slot B; `recFail`: the write of the boot control record fails; `time`: Metronome at the end of boot. -/
def execBootStart (failed : BitVec 256) (readFail : BitVec 4) (recFail : Bool) (time : Dword) (s : State) :
    Host.Outcome State Fault Refusal :=
  if s.regF procP 0x040 10 8 ≠ 0 then done s
  else
    let r := trialRule s.bcr.1
    let s1 := ((advanceTo time.toNat s).writeBcr r (!recFail)).bootIdentity
    let fail := fun (slot kind : Nat) => readFail.getLsbD (2 * slot + kind - 1)
    let slot := r.preferred
    let other := 1 - slot
    let a := s1.decideSlot slot (fail slot 1) (fail slot 2)
    if a.outcome ≠ 3 then
      done ((s1.setRegN imageP 0x040 (slot + (if a.outcome = 2 then 8 else 0))).bootPair slot a.outcome failed)
    else
      let s2 := if a.image = 2 ∧ a.cause ≠ 8 then s1.loadConductor slot else s1
      let b := s2.decideSlot other (fail other 1) (fail other 2)
      let causes := a.cause * 0x10 + a.image * 0x100
      if b.outcome ≠ 3 then
        done ((s2.setRegN imageP 0x040 (other + 2 + (if b.outcome = 2 then 8 else 0) + causes)).bootPair other b.outcome failed)
      else
        let s3 := if b.image = 2 ∧ b.cause ≠ 8 then s2.loadConductor other else s2
        done ((s3.setRegN imageP 0x040 (2 + 4 + causes + b.cause * 0x1000 + b.image * 0x10000)).bootRecovery)

/-! ## The IMAGE page (Table 13-12) -/

def State.inRecovery (s : State) : Bool := bit (s.reg imageP 0x040) 2

/-- DONE of a command raises CMD_DONE. -/
def cmdDone (p : PageRef) (s : State) : Ans × State := (ansDone, s.raise p 0)

/-- A command of the page in RUNNING. -/
def State.imageCmd (s : State) (r : Requester) (p : PageRef) (code : Nat) (arg : BitVec 24) (body : State → Ans × State) : State :=
  s.pageCmd r p code arg fun s _ => if s.pageState p = .running then body s else (ansState, s)

/-- The range touches the boot control or Seat regions, or the slot the running images came from (R456). -/
def State.protectedRange (s : State) (a n : Nat) : Bool :=
  overlaps a n 0 0x40000 || (!s.boot.headS.isEmpty && overlaps a n (slotBase (s.regF imageP 0x040 0 0)) 0x400000)

/-- The registers of a flash command are taken with it. -/
def State.takeJob (s : State) : State := s.modBoot fun b =>
  { b with jobAddr := s.regN imageP 0x0A8, jobSrc := s.reg64 imageP 0x0AC, jobLen := s.regN imageP 0x0B4 }

def State.flashRange (s : State) (unit : Nat) : Option Ans :=
  let a := s.regN imageP 0x0A8
  let n := s.regN imageP 0x0B4
  if a % unit ≠ 0 ∨ n % unit ≠ 0 ∨ s.boot.flashMib * 0x100000 < a + n then some (ansArg 1 0)
  else if s.protectedRange a n then some (ansArg 2 0)
  else none

/-- FLASH_ERASE. -/
def execFlashErase (r : Requester) (arg : BitVec 24) (s : State) : Host.Outcome State Fault Refusal :=
  done (s.imageCmd r imageP 0x10 arg fun s => match s.flashRange 0x10000 with
    | some a => (a, s)
    | none => (ansAccepted, s.takeJob))

/-- The source of FLASH_WRITE lies in Commons block 0, outside granules 0 to 23 while a Conductor image runs. -/
def State.flashSrcOk (s : State) : Bool :=
  let a := s.reg64 imageP 0x0AC
  decide ((if s.boot.headC.isEmpty then 0x2000000 else 0x2180000) ≤ a) && decide (a + s.regN imageP 0x0B4 ≤ 0x2200000)

/-- FLASH_WRITE. -/
def execFlashWrite (r : Requester) (arg : BitVec 24) (s : State) : Host.Outcome State Fault Refusal :=
  done (s.imageCmd r imageP 0x11 arg fun s => match s.flashRange 0x100 with
    | some a => (a, s)
    | none => if s.flashSrcOk then (ansAccepted, s.takeJob) else (ansArg 3 0, s))

/-- VERIFY_SLOT. -/
def execVerifySlot (r : Requester) (arg : BitVec 24) (s : State) : Host.Outcome State Fault Refusal :=
  done (s.imageCmd r imageP 0x12 arg fun s => (ansAccepted, s))

/-- SET_PREFERRED. -/
def execSetPreferred (r : Requester) (arg : BitVec 24) (s : State) : Host.Outcome State Fault Refusal :=
  done (s.imageCmd r imageP 0x13 arg fun s => (ansAccepted, s))

/-- CONFIRM: DONE at once without a trial. -/
def execConfirm (r : Requester) (arg : BitVec 24) (s : State) : Host.Outcome State Fault Refusal :=
  done (s.imageCmd r imageP 0x14 arg fun s => if s.bcr.1.trial then (ansAccepted, s) else cmdDone imageP s)

/-- COMMIT_SVN (R457): fuse values never decrease. -/
def execCommitSvn (r : Requester) (arg : BitVec 24) (s : State) : Host.Outcome State Fault Refusal :=
  done (s.imageCmd r imageP 0x15 arg fun s =>
    if s.probation || s.inRecovery then (ansStateSyn 5 0, s)
    else cmdDone imageP (s.modBoot fun b => { b with fuses := { b.fuses with
      svnS := max b.fuses.svnS (headF b.headS 0x010 5 0), svnC := max b.fuses.svnC (headF b.headC 0x010 5 0) } }).showFuses)

/-- REVOKE_KEY. -/
def execRevokeKey (r : Requester) (arg : BitVec 24) (s : State) : Host.Outcome State Fault Refusal :=
  done (s.imageCmd r imageP 0x16 arg fun s =>
    let k := arg.toNat % 4
    let used := fun (h : List Byte) => !h.isEmpty && decide (headF h 0x014 1 0 = k)
    let left := (List.range 4).any fun j => decide (j ≠ k) && !s.boot.fuses.revoked.testBit j
    if used s.boot.headS || used s.boot.headC || !left then (ansArg 8 0, s)
    else cmdDone imageP (s.modBoot fun b => { b with fuses := { b.fuses with revoked := b.fuses.revoked ||| 2 ^ k } }).showFuses)

/-- A state stands that clears only at power-on reset (R455). -/
def State.porOnly (s : State) : Bool :=
  decide (s.regF procP 0x040 10 8 = 2) || (s.proc.latches.any fun l => l.cause == .por) || s.hmLatched

/-- DEVICE_RESET (R454, R455). -/
def execDeviceReset (r : Requester) (arg : BitVec 24) (s : State) : Host.Outcome State Fault Refusal :=
  done (s.imageCmd r imageP 0x17 arg fun s =>
    if s.anyTorque then (ansStateSyn 6 0, s)
    else if s.porOnly then (ansStateSyn 7 0, s)
    else (ansAccepted, s))

/-- The record a pending SET_PREFERRED or CONFIRM writes. -/
def State.newBcr (s : State) (c : PendCmd) : Bcr :=
  let r := s.bcr.1
  if c.code = 0x13 then
    { r with preferred := c.arg.toNat % 2, trial := c.arg.toNat.testBit 1, left := c.arg.toNat / 16 % 16 }
  else { r with trial := false, left := 0 }

def State.finishDone (s : State) (p : PageRef) : State := (s.finishPending p 2 none).raise p 0

/-- The flash effect of a pending command over its first n units. -/
def State.flashUnits (s : State) (c : PendCmd) (n : Nat) : State :=
  if c.code = 0x10 then s.flashErase s.boot.jobAddr (min s.boot.jobLen (0x10000 * n))
  else
    let len := min s.boot.jobLen (0x100 * n)
    (s.seeErrors s.boot.jobSrc len engineSrc 0).flashWrite s.boot.jobAddr (s.readBytes s.boot.jobSrc len)

/-- COMMAND_COMPLETION on the IMAGE page. `detail` 1 is a flash error; for VERIFY_SLOT bits 0 and 1 are the failed reads. -/
def State.imageComplete (s : State) (detail : Nat) : State :=
  match (s.page imageP).pending with
  | none => s
  | some c =>
    if c.code = 0x12 then
      let k := c.arg.toNat % 2
      let x := s.decideSlot k (detail.testBit 0) (detail.testBit 1)
      (s.setRegN imageP 0x0A4 (x.outcome + 16 * x.cause + 0x100 * x.image + 0x1000 * k)).finishDone imageP
    else if c.code = 0x17 then s.powerOn 2
    else if c.code = 0x13 ∨ c.code = 0x14 then
      let s1 := (s.writeBcr (s.newBcr c) (decide (detail = 0))).showBcr
      if detail = 0 then s1.finishDone imageP else s1.finishPending imageP 5 (some (4, 0))
    else if detail = 0 then (s.flashUnits c 0x1000000).finishDone imageP
    else s.finishPending imageP 5 (some (4, 0))

/-- STOP abandons a pending command after its current sector or record write (R467): how far it had come is free. -/
def imageStop (old : Option PendCmd) (s : State) : Ans × State :=
  match old with
  | none => (ansDone, s)
  | some c =>
    let f := (Config.freeWord s.freeCtr 400).toNat
    let s1 := s.drawFree
    if c.code = 0x10 ∨ c.code = 0x11 then
      let units := s.boot.jobLen / (if c.code = 0x10 then 0x10000 else 0x100)
      (ansDone, s1.flashUnits c (if units = 0 then 0 else 1 + f % units))
    else if c.code = 0x13 ∨ c.code = 0x14 then (ansDone, if f % 2 = 1 then (s1.writeBcr (s.newBcr c) true).showBcr else s1)
    else (ansDone, s1)

/-! ## The IDENTITY page (Table 13-14) -/

/-- QUOTE (R459). -/
def execQuote (r : Requester) (arg : BitVec 24) (s : State) : Host.Outcome State Fault Refusal :=
  done (s.imageCmd r identP 0x10 arg fun s => (ansAccepted, s))

/-- The quote before its signature (Table 13-8). -/
def State.quoteBody (s : State) : List Byte :=
  let f := s.boot.fuses
  let img := fun (k : Nat) => if bit (s.reg imageP 0x040) k then 1 else 0
  leBytes 4 0x544F5551 ++ leBytes 4 (1 + s.chip.stepping * 0x100 + s.chip.grade.code * 0x10000 + (if s.chip.hot then 2 else 1) * 0x1000000) ++
  leBytes 4 ((if s.probation then 1 else 0) + 2 * img 1 + 4 * img 2 + 16 * s.regF identP 0x054 2 0 + 0x100 * s.level) ++
  leBytes 4 (f.svnS + f.svnC * 0x100 + s.regN imageP 0x048 % 0x10000 * 0x10000) ++
  s.regBytes identP 0x040 4 ++ s.regBytes identP 0x080 8 ++ s.regBytes imageP 0x060 8 ++ s.regBytes imageP 0x080 8 ++
  leBytes 32 s.excused.toNat ++ s.regBytes identP 0x060 4 ++
  leBytes 4 (match s.boot.seat with
    | some r => seatSeq r
    | none => 0) ++
  leBytes 4 (s.reg procP 0x098).toNat ++ leBytes 8 (now s)

/-- The signature needs the device's private key, which nothing shows: a free value. -/
def State.quoteBytes (s : State) : List Byte :=
  s.quoteBody ++ (List.range 16).flatMap fun k => leBytes 4 (Config.freeWord s.freeCtr (410 + k)).toNat

/-- The record in ID_SUBMIT. -/
def State.submitted (s : State) : List Byte := s.regBytes identP 0xC00 64

/-- SEAT_ACCEPT (R463). -/
def execSeatAccept (r : Requester) (arg : BitVec 24) (s : State) : Host.Outcome State Fault Refusal :=
  done (s.imageCmd r identP 0x11 arg fun s =>
    let x := s.submitted
    if !recordForm false x then (ansArg 1 0, s)
    else if !s.recordOwn x then (ansArg 2 0, s)
    else if s.proc.bodyId ≠ some ((x.drop 0x20).take 16) then (ansArg 3 0, s)
    else if !s.recordFleet x then (ansArg 4 0, s)
    else if !recordSigned x then (ansArg 5 0, s)
    else if seatSeq x ≤ (match s.boot.seat with
      | some o => seatSeq o
      | none => 0) then (ansArg 6 0, s)
    else (ansAccepted, s.modBoot fun b => { b with submit := x }))

/-- FLEET_ENROL (R462). -/
def execFleetEnrol (r : Requester) (arg : BitVec 24) (s : State) : Host.Outcome State Fault Refusal :=
  done (s.imageCmd r identP 0x12 arg fun s =>
    let x := s.submitted
    if !recordForm true x then (ansArg 1 0, s)
    else if !s.recordOwn x then (ansArg 2 0, s)
    else if !recordSigned x then (ansArg 5 0, s)
    else if s.boot.fuses.fleet.isSome then (ansStateSyn 7 0, s)
    else cmdDone identP (s.modBoot fun b => { b with fuses := { b.fuses with fleet := some (sha256 (recordKey x)) } }).showSeat)

/-- The record goes into the Seat copy not in force. -/
def State.writeSeat (s : State) : State :=
  let a := seatAddr (match s.seatInForce with
    | some (c, _) => 1 - c
    | none => 0)
  ((s.flashErase a 0x10000).flashWrite a s.boot.submit).modBoot fun b => { b with seat := some s.boot.submit }

/-- COMMAND_COMPLETION on the IDENTITY page. `detail` 1 is a flash error. -/
def State.identComplete (s : State) (detail : Nat) : State :=
  match (s.page identP).pending with
  | none => s
  | some c =>
    if c.code = 0x10 then ((s.setBytes identP 0x800 s.quoteBytes).drawFree).finishDone identP
    else if c.code = 0x11 then
      (if detail ≠ 0 then s.finishPending identP 5 (some (8, 0))
       else ((s.writeSeat.showSeat).modBoot fun b => { b with seatDue := true }).finishDone identP)
    else s.finishDone identP

/-- STOP of the IDENTITY page: a Seat record whose write has begun is written. -/
def identStop (old : Option PendCmd) (s : State) : Ans × State :=
  match old with
  | none => (ansDone, s)
  | some c =>
    if c.code = 0x11 && (Config.freeWord s.freeCtr 400).getLsbD 0 then (ansDone, s.drawFree.writeSeat.showSeat) else (ansDone, s.drawFree)

end Sys2Proof.Machine
end

