-- ==== Sys2Proof/Machine/Pixel.lean ====
section
/-!
DEFINITION. The arithmetic of the Pixel Front End (R253, R254), the sample shuffle (R259) and the data types of Table 8-1, as
plain functions.
-/

namespace Sys2Proof.Machine

/-- The image data types of Table 8-1. -/
def imageTypes : List Nat := [0x2A, 0x2B, 0x2C, 0x2D, 0x1E, 0x24]

/-- Bits per pixel of an image data type. -/
def bitsPerPixel (dt : Nat) : Nat :=
  match dt with
  | 0x2A => 8 | 0x2B => 10 | 0x2C => 12 | 0x2D => 14 | 0x1E => 16 | 0x24 => 24 | _ => 0

def isRaw (dt : Nat) : Bool := decide (0x2A ≤ dt) && decide (dt ≤ 0x2D)

/-- Bytes of one line. -/
def lineBytes (dt w : Nat) : Nat := (w * bitsPerPixel dt + 7) / 8

/-- A RAW component, as CSI-2 packs it (PRESUMED, log entry 30), before alignment. -/
def rawAt (dt : Nat) (line : List Byte) (x : Nat) : Nat :=
  let b := byteAt line
  match dt with
  | 0x2A => b x
  | 0x2B => b (x / 4 * 5 + x % 4) * 4 + b (x / 4 * 5 + 4) / 4 ^ (x % 4) % 4
  | 0x2C => b (x / 2 * 3 + x % 2) * 16 + b (x / 2 * 3 + 2) / 16 ^ (x % 2) % 16
  | 0x2D => b (x / 4 * 7 + x % 4) * 64 + leNat ((line.drop (x / 4 * 7 + 4)).take 3) / 64 ^ (x % 4) % 64
  | _ => 0

/-- A RAW pixel aligned to 16 bits, less the black level. -/
def rawPixel (dt black : Nat) (line : List Byte) (x : Nat) : Nat := rawAt dt line x * 2 ^ (16 - bitsPerPixel dt) - black

/-- Neighbours beyond an edge mirror. -/
def mirror (n : Nat) (i : Int) : Nat :=
  if i < 0 then (-i).toNat else if (n : Int) ≤ i then (2 * (n : Int) - 2 - i).toNat else i.toNat

/-- Colour of a site: 0 red, 1 green, 2 blue (PFE_SRC.BAYER). -/
def bayerSite (pat y x : Nat) : Nat :=
  let t := match pat with
    | 0 => [0, 1, 1, 2]
    | 1 => [1, 0, 2, 1]
    | 2 => [1, 2, 0, 1]
    | _ => [2, 1, 1, 0]
  t.getD (2 * (y % 2) + x % 2) 1

/-- What a source frame is: size, data type, pattern, black level and its lines. -/
structure SrcImage where
  w : Nat
  h : Nat
  dt : Nat
  bayer : Nat
  black : Nat
  lines : List (List Byte)

def SrcImage.raw (q : SrcImage) (y x : Int) : Nat :=
  rawPixel q.dt q.black (q.lines.getD (mirror q.h y) []) (mirror q.w x)

/-- Component c of the debayered pixel (R253). -/
def SrcImage.debayer (q : SrcImage) (c y x : Nat) : Nat :=
  let p := fun (dy dx : Int) => q.raw ((y : Int) + dy) ((x : Int) + dx)
  let site := bayerSite q.bayer y x
  if site = c then p 0 0
  else if c = 1 then (p (-1) 0 + p 1 0 + p 0 1 + p 0 (-1) + 2) / 4
  else if site ≠ 1 then (p (-1) (-1) + p (-1) 1 + p 1 (-1) + p 1 1 + 2) / 4
  else if bayerSite q.bayer y (x + 1) = c then (p 0 (-1) + p 0 1 + 1) / 2
  else (p (-1) 0 + p 1 0 + 1) / 2

/-- The three inputs of the colour stage: (R, G, B) or (Y, Cb, Cr). -/
def SrcImage.comps (q : SrcImage) (y x : Nat) : List Nat :=
  let line := q.lines.getD y []
  if isRaw q.dt then [q.debayer 0 y x, q.debayer 1 y x, q.debayer 2 y x]
  else if q.dt = 0x1E then [256 * byteAt line (2 * x + 1), 256 * byteAt line (x / 2 * 4), 256 * byteAt line (x / 2 * 4 + 2)]
  else [256 * byteAt line (3 * x + 2), 256 * byteAt line (3 * x + 1), 256 * byteAt line (3 * x)]

/-- Colour output of a channel: the row of M, its offset (R253). -/
def colourOut (m : List Int) (off : Int) (ins : List Nat) : Nat :=
  let s := (m.zip ins).foldl (fun a e => a + e.1 * (e.2 : Int)) 0
  (clampInt 0 65535 ((s + off * 4096 + 2048) / 4096)).toNat

/-- What the output stages take besides the source (R254). -/
structure OutCfg where
  ow : Nat
  oh : Nat
  g : Nat
  mesh : List Word
  fill : Nat
  fp16 : Bool
  zp : Int
  mean : List Nat
  scale : List Nat
  aug : Option (List Word)

def OutCfg.mw (o : OutCfg) : Nat := (o.ow + 2 ^ o.g - 1) / 2 ^ o.g + 1
def OutCfg.mh (o : OutCfg) : Nat := (o.oh + 2 ^ o.g - 1) / 2 ^ o.g + 1

/-- Output coordinate of a pixel in Q.8 (R254). -/
def OutCfg.coord (o : OutCfg) (u v : Nat) : Int × Int :=
  match o.aug with
  | none => (256 * (u : Int), 256 * (v : Int))
  | some r =>
    let f := r.getD 0 0
    let u0 : Int := if bit f 0 then (o.ow : Int) - 1 - u else u
    let v0 : Int := if bit f 1 then (o.oh : Int) - 1 - v else v
    let a := fun k => sext 32 (r.getD (k + 1) 0).toNat
    ((a 0 * u0 + a 1 * v0 + a 2 + 128) / 256, (a 3 * u0 + a 4 * v0 + a 5 + 128) / 256)

/-- Source position in Q12.8 of an output pixel: bilinear mesh interpolation (R254). -/
def OutCfg.source (o : OutCfg) (u v : Nat) : Nat × Nat :=
  let (ua, va) := o.coord u v
  let w := 2 ^ (o.g + 8)
  let ua := (clampInt 0 (((o.mw - 1) * w : Nat) : Int) ua).toNat
  let va := (clampInt 0 (((o.mh - 1) * w : Nat) : Int) va).toNat
  let i := min (ua / w) (o.mw - 2)
  let j := min (va / w) (o.mh - 2)
  let fu := ua - i * w
  let fv := va - j * w
  let m := fun (dj di hi : Nat) => fld (o.mesh.getD ((j + dj) * o.mw + i + di) 0) (16 * hi + 15) (16 * hi)
  let at' := fun hi =>
    ((m 0 0 hi * (w - fu) * (w - fv) + m 0 1 hi * fu * (w - fv) + m 1 0 hi * (w - fu) * fv + m 1 1 hi * fu * fv) * 16 + w * w / 2) /
      2 ^ (2 * (o.g + 8))
  (at' 0, at' 1)

/-- The sample of a channel at an output pixel, before photometric augmentation. -/
def OutCfg.sampleAt (o : OutCfg) (w h : Nat) (q : Nat → Nat → Nat) (u v : Nat) : Nat :=
  let (sx, sy) := o.source u v
  if (w - 1) * 256 < sx ∨ (h - 1) * 256 < sy then o.fill
  else
    let (x0, fx, x1) := (sx / 256, sx % 256, min (sx / 256 + 1) (w - 1))
    let (y0, fy, y1) := (sy / 256, sy % 256, min (sy / 256 + 1) (h - 1))
    (q y0 x0 * (256 - fx) * (256 - fy) + q y0 x1 * fx * (256 - fy) + q y1 x0 * (256 - fx) * fy + q y1 x1 * fx * fy + 32768) / 65536

/-- Photometric augmentation and normalisation of a channel. -/
def OutCfg.finish (o : OutCfg) (c p : Nat) : Nat :=
  let p := match o.aug with
    | some r =>
      let w7 := r.getD 7 0
      (clampInt 0 65535 (((p * fld w7 15 0 + 2048) / 4096 : Nat) + sext 16 (fld w7 31 16))).toNat
    | none => p
  let t := fF32.encode false ((ofInt ((p : Int) - (o.mean.getD c 0 : Nat))).mul (f32 (o.scale.getD c 0)))
  if o.fp16 then fF16.encode true (f32 t)
  else wrapBits 8 (clampInt (-128) 127 ((f32 t).toIntSat (-(2 ^ 40)) (2 ^ 40) + o.zp))

/-- The lowest source line an output row needs (one more for the debayer), and the last it waits for (R255); none: it samples
no source pixel. -/
def OutCfg.rowNeeds (o : OutCfg) (w h v : Nat) : Option (Nat × Nat) :=
  (List.range o.ow).foldl (fun acc u =>
    let (sx, sy) := o.source u v
    if (w - 1) * 256 < sx ∨ (h - 1) * 256 < sy then acc
    else
      let y0 := sy / 256
      let lo := y0 - 1
      let hi := min (y0 + 2) (h - 1)
      match acc with
      | none => some (lo, hi)
      | some (a, b) => some (min a lo, max b hi)) none

/-- The tail of R256 in pixels. -/
def OutCfg.tail (o : OutCfg) (w h : Nat) : Nat :=
  match (List.range o.oh).find? fun v => (List.range o.ow).any fun u =>
      let (sx, sy) := o.source u v
      decide (sx ≤ (w - 1) * 256) && decide (sy ≤ (h - 1) * 256) && decide (h - 3 ≤ sy / 256) with
  | some v => o.ow * (o.oh - v)
  | none => 0

/-! ## The shuffle (R259) -/

def mix32 (v : Word) : Word :=
  let v := (v ^^^ (v >>> 16)) * 0x7FEB352D#32
  let v := (v ^^^ (v >>> 15)) * 0x846CA68B#32
  v ^^^ (v >>> 16)

/-- The even width b with 2^b ≥ n. -/
def shuffleBits (n : Nat) : Nat := ((List.range 16).map fun k => 2 * k + 2).find? (fun b => decide (n ≤ 2 ^ b)) |>.getD 32

def roundKey (seed : Nat) (epoch r : Nat) : Word :=
  mix32 (word seed ^^^ mix32 (word (seed / 2 ^ 32) ^^^ mix32 (word (epoch + r))))

/-- One pass of the 4-round Feistel network on h-bit halves. -/
def feistel (h : Nat) (keys : List Word) (x : Nat) : Nat :=
  let m := 2 ^ h - 1
  let p := keys.foldl (fun (p : Nat × Nat) k => (p.2, p.1 ^^^ ((mix32 (word p.2 ^^^ k)).toNat &&& m))) (x / 2 ^ h, x &&& m)
  p.1 * 2 ^ h + p.2

/-- Cycle-walks back below n. -/
def shuffleWalk (h : Nat) (keys : List Word) (n : Nat) : Nat → Nat → Nat
  | 0, x => x
  | fuel + 1, x => let y := feistel h keys x; if y < n then y else shuffleWalk h keys n fuel y

def shuffle (i n seed epoch : Nat) : Nat :=
  let b := shuffleBits n
  let keys := (List.range 4).map (roundKey seed epoch)
  shuffleWalk (b / 2) keys n (2 ^ b + 1) i

end Sys2Proof.Machine
end

