-- ==== Sys2Proof/Machine/FnTable.lean ====
section
/-!
DEFINITION. The function tables of the Vector Engine (R197): a table result is a free value within 2^-14 of the function. The
function is computed in fixed point with 160 bits behind the point, far finer than that bound.
-/

namespace Sys2Proof.Machine

/-- 1 in fixed point. -/
def fxOne : Nat := 2 ^ 160

/-- The natural logarithm of 2 in fixed point. -/
def fxLn2 : Nat := 0xb17217f7d1cf79abc9e3b39803f2f6af40f34326

/-- e^t in fixed point for 0 ≤ t < 1: the first 40 terms of its series. -/
def fxExp (t : Nat) : Nat := (List.range 40).foldl (fun acc k => fxOne + t * acc / (fxOne * (40 - k))) fxOne

/-- e^r for r in fixed point, as a fixed-point number from 1 up to 2 and a power of 2. -/
def expOf (r : Int) : Nat × Int := (fxExp (Int.emod r fxLn2).toNat, Int.fdiv r fxLn2)

/-- The base-2 logarithm of y from 1 up to 2, both in fixed point: 120 bits, each by a squaring. -/
def fxLog2 (y : Nat) : Nat :=
  ((List.range 120).foldl (fun (p : Nat × Nat) _ =>
    let q := p.1 * p.1 / fxOne
    if 2 * fxOne ≤ q then (q / 2, 2 * p.2 + 1) else (q, 2 * p.2)) (y, 0)).2 * 2 ^ 40

/-- A value in fixed point, and shifted up by a power of 2. -/
def fxOf (m : Nat) (e : Int) : Nat := if 0 ≤ e + 160 then m * 2 ^ (e + 160).toNat else m / 2 ^ (-(e + 160)).toNat

def signed (neg : Bool) (n : Nat) : Int := if neg then -(n : Int) else n

/-- A quotient of fixed-point numbers, times a power of 2. -/
def fxQuot (neg : Bool) (a b : Nat) (k : Int) : Fl := .fin neg (a * fxOne / b) (k - 160)

/-- e^-a in fixed point, for a in fixed point. -/
def fxDecay (a : Nat) : Nat :=
  let p := expOf (-(a : Int))
  p.1 / 2 ^ (-p.2).toNat

/-- The function at ±m · 2^e; none: so far out that the result lies beyond FP32's normal numbers. -/
def fnValue (op : VxFnOp) (neg : Bool) (m : Nat) (e : Int) : Option Fl :=
  let a := fxOf m e
  let near := decide (a < 128 * fxOne)
  match op with
  | .exp => if near then some (let p := expOf (signed neg a); .fin false p.1 (p.2 - 160)) else none
  | .exp2 => if near then some (let p := expOf (signed neg (a * fxLn2 / fxOne)); .fin false p.1 (p.2 - 160)) else none
  | .recip => some (.fin neg (2 ^ 200 / m) (-200 - e))
  | .rsqrt =>
    let m2 := if e % 2 = 0 then m else 2 * m
    some (.fin false (isqrt (2 ^ 300 / m2)) (-150 - Int.fdiv e 2))
  | .log2 =>
    let k := e + (Nat.log2 m : Int)
    let v := k * fxOne + (fxLog2 (m * 2 ^ (160 - Nat.log2 m)) : Int)
    some (.fin (decide (v < 0)) v.natAbs (-160))
  | .sigmoid =>
    if !near then (if neg then none else some (.fin false 1 0))
    else if neg then
      let p := expOf (-(a : Int))
      some (fxQuot false p.1 (fxOne + p.1 / 2 ^ (-p.2).toNat) p.2)
    else some (fxQuot false fxOne (fxOne + fxDecay a) 0)
  | .tanh =>
    if !near then some (.fin neg 1 0)
    else if a < 2 ^ 140 then some (.fin neg m e)
    else some (fxQuot neg (fxOne - fxDecay (2 * a)) (fxOne + fxDecay (2 * a)) 0)

/-- An exact result of FP32's normal range, or zero. -/
def Fl.normal32 : Fl → Bool
  | .fin _ m e => m = 0 || (decide (-126 ≤ e + (Nat.log2 m : Int)) && decide (e + (Nat.log2 m : Int) < 128))
  | _ => false

/-- y is within 2^-14 of a, relative to a, but for the last bits of the fixed point. -/
def withinTable (y a : Fl) : Bool :=
  match y, a with
  | .fin ny my ey, .fin na ma ea =>
    let e := min ey ea
    let x := alignTo e na ma ea
    decide ((alignTo e ny my ey - x).natAbs * 2 ^ 40 ≤ x.natAbs * (2 ^ 26 + 1))
  | _, _ => false

/-- The table value at ±m · 2^e (R197): the free value where it keeps the error bound, else the function rounded. A function's
normal input range is read as the operands whose result is a normal number (log entry 22). -/
def fnTable (op : VxFnOp) (x : Nat) : Nat :=
  let free := (Config.vxFn op (BitVec.ofNat 32 x)).toNat
  match f32 x with
  | .fin neg m e =>
    match fnValue op neg m e with
    | some a => if a.normal32 && !withinTable (f32 free) a then fF32.encode false a else free
    | none => free
  | _ => free

end Sys2Proof.Machine
end

