-- ==== Sys2Proof/Machine/Memory.lean ====
section
/-!
DEFINITION. Scratchpads, Commons and Locker (chapter 5 up to section 5.5): port classes, tags, errors, poison, scrubbing,
the LOCKER page and the memory registers of the TILE page.
-/

namespace Sys2Proof.Machine

/-! ## Banks and port classes (R160, R161) -/

def clsStream : Nat := 0
def clsWide : Nat := 1
def clsNarrow : Nat := 2

def State.bankClass (s : State) (t bank : Nat) : Nat := s.regF (tileP t) 0x0C0 (2 * (bank % 16) + 1) (2 * (bank % 16))

/-- An access of n bytes at a scratchpad offset meets a bank that is not bound to its class. -/
def State.clashes (s : State) (t off n cls : Nat) : Bool :=
  decide (s.bankClass t (off / 0x10000) ≠ cls) || decide (s.bankClass t ((off + n - 1) / 0x10000) ≠ cls)

/-- A clash is recorded, counted and raised (R161). -/
def State.recordClash (s : State) (t off cls : Nat) : State :=
  ((s.setRegN (tileP t) 0x0C4 (memErrWord 1 off cls)).bumpF (tileP t) 0x0C8 7 0 1).raise (tileP t) 8

/-! ## Tags (section 5.3.3) -/

def State.tag (s : State) (t slot : Nat) : Nat := tabGet 0 s.sram.tags (8192 * t + slot % 8192)

def State.setTag (s : State) (t slot v : Nat) : State :=
  { s with sram := { s.sram with tags := tabSet 0 s.sram.tags (8192 * t + slot % 8192) (v % 4) } }

/-- The slots a range of a scratchpad touches. -/
def slotsOf (off n : Nat) : List Nat := (List.range ((off % 128 + n + 127) / 128)).map fun i => off / 128 + i

/-- The slot halves a range touches. -/
def halvesOf (off n : Nat) : List Nat := (List.range ((off % 64 + n + 63) / 64)).map fun i => off / 64 + i

/-- The first slot a read of a tag mode has to wait for (Table 5-5). -/
def State.readWaits (s : State) (mode t : Nat) (slots : List Nat) : Option Nat :=
  if mode = 0 then none else slots.find? fun k => decide (s.tag t k ≠ 3)

def State.halfFull (s : State) (t half : Nat) : Bool := (s.tag t (half / 2)).testBit (half % 2)

/-- The first slot a write of a tag mode has to wait for. -/
def State.writeWaits (s : State) (mode t : Nat) (halves : List Nat) : Option Nat :=
  if mode = 0 then none else (halves.find? (s.halfFull t)).map (· / 2)

/-- The tags after a read: CONSUME empties every slot touched. -/
def State.afterRead (s : State) (mode t : Nat) (slots : List Nat) : State :=
  if mode = 2 then slots.foldl (fun s k => s.setTag t k 0) s else s

/-- The tags after a write: FILL sets the bit of every half written. -/
def State.afterWrite (s : State) (mode t : Nat) (halves : List Nat) : State :=
  if mode = 1 then halves.foldl (fun s k => s.setTag t (k / 2) (s.tag t (k / 2) ||| 2 ^ (k % 2))) s else s

/-! ## Stream accesses by any requester -/

/-- What a read brings: its data, whether it is poisoned, whether it clashed. -/
structure Got where
  data : List Byte
  poisoned : Bool
  clash : Bool
  deriving DecidableEq, Repr

/-- A violating SRAM access (R124). -/
def State.sramViolation (s : State) (src h a : Nat) : State :=
  s.violateBy h 4 2 0 src (a % 0x100000000) (a / 0x100000000)

/-- A flit of the access failed all its resends: its data is delivered poisoned, once (R182). -/
def State.flitBad (s : State) (src a : Nat) (write : Bool) : Bool := s.sram.flits.contains (src, write, a / 64)

def State.flitDone (s : State) (src a : Nat) (write : Bool) : State :=
  if s.flitBad src a write then { s with sram := { s.sram with flits := s.sram.flits.filter fun e => e ≠ (src, write, a / 64) } } else s

/-- The address lies in a scratchpad of a gated Section, which no access reaches (Table 5-15). -/
def State.gatedAt (s : State) (a : Nat) : Bool :=
  match levelAt s.chip.grade a with
  | .tile t _ => s.gated (t / 8)
  | _ => false

/-- A read of n bytes that lie in one access unit, by a source code, over the Stream port where they lie in a scratchpad. Outside
the grants a tile or DMA channel reads zeros marked poisoned, the host plain zeros (R124). A gated Section holds no data to read (free
value, log entry 10). -/
def State.readBy (s : State) (src h a n : Nat) : Got × State :=
  let bad := s.flitBad src a false
  let got : Got × State :=
    if !s.reachesAll h a n then (⟨List.replicate n 0, decide (src ≠ 0x40), false⟩, s.sramViolation src h a)
    else if s.gatedAt a then (⟨(List.range n).map fun i => (Config.freeWord s.freeCtr (400 + i)).truncate 8, false, false⟩, s.drawFree)
    else match levelAt s.chip.grade a with
      | .tile t off =>
        if s.clashes t off n clsStream then (⟨List.replicate n 0, true, true⟩, s.recordClash t off clsStream)
        else (⟨s.readBytes a n, s.rangePoison a n, false⟩, s.seeErrors a n src clsStream)
      | _ => (⟨s.readBytes a n, s.rangePoison a n, false⟩, s.seeErrors a n src clsStream)
  ({ got.1 with poisoned := got.1.poisoned || bad }, got.2.flitDone src a false)

/-- A write of bytes that lie in one access unit; whether it clashed. -/
def State.writeBy (s : State) (src h a : Nat) (bs : List Byte) (poisoned : Bool) : Bool × State :=
  let po := poisoned || s.flitBad src a true
  let s0 := s.flitDone src a true
  if !s0.reachesAll h a bs.length || s0.weightGuarded a bs.length then (false, s0.sramViolation src h a)
  else if s0.gatedAt a then (false, s0)
  else match levelAt s0.chip.grade a with
    | .tile t off =>
      if s0.clashes t off bs.length clsStream then (true, s0.recordClash t off clsStream)
      else
        let s1 := (s0.storeBytes a bs po src clsStream).takeCondemned
        (false, if src < 0x20 then s1.touch a bs.length else s1)
    | _ => (false, (s0.storeBytes a bs po src clsStream).takeCondemned)

def State.streamRead (s : State) (r : Requester) (h a n : Nat) : Got × State := s.readBy (sourceCode r) h a n

def State.streamWrite (s : State) (r : Requester) (h a : Nat) (bs : List Byte) (poisoned : Bool) : Bool × State :=
  s.writeBy (sourceCode r) h a bs poisoned

/-- Reads n bytes as an engine, in accesses of at most 64 bytes. -/
def State.engineLoad (s : State) (h a n : Nat) : List Byte × Bool × State :=
  let lead := min n ((64 - a % 64) % 64)
  let pieces := (if lead = 0 then [] else [(a, lead)]) ++
    (List.range ((n - lead + 63) / 64)).map fun k => (a + lead + 64 * k, min 64 (n - lead - 64 * k))
  pieces.foldl (fun x e =>
    let g := x.2.2.readBy engineSrc h e.1 e.2
    (x.1 ++ g.1.data, x.2.1 || g.1.poisoned, g.2)) ([], false, s)

/-! ## The commands -/

/-- SCRUB_READ (R176): the scrubber reads a word of Commons or Locker. A stack's pass completes with its last word. -/
def execScrubRead (addr : Word) (ecc : Ecc) (s : State) : Host.Outcome State Fault Refusal :=
  let a := addr.toNat / 8 * 8
  let found := match ecc with
    | .clean => s.errAt a
    | .single => max (s.errAt a) 1
    | .double => 2
  match memUnit s.chip.grade a with
  | none => done s
  | some b =>
    if s.isExcused b || decide (3 ≤ s.regF dynP 0x040 2 0) then done s
    else
      let s1 := if found = 1 then (s.setErr a 0).memError a 0xF0 1
        else if found = 2 then ((s.setErr a 0).setPoison a true).memError a 0xF0 3
        else s
      let k := (a - 0x4000000) / 0x4000000
      done (if 48 ≤ b ∧ a % 0x4000000 = 0x3FFFFF8 then s1.incReg (lockerP k) 0x070 else s1)

/-- A flit as received: header and payload, then its CRC-16, low byte first (R175; log entry 151). -/
def flitOk (flit : List Byte) : Bool :=
  let n := flit.length - 2
  decide (66 ≤ flit.length) && decide (crc16 (flit.take n) = leNat (flit.drop n))

/-- LOCKER_LINK_DOWN (R175): the transmissions of one flit, as received, the first four of them. Each one that fails its CRC and is
followed by another counts as a retransmission. After four failures in a row the link is down. -/
def execLockerLinkDown (flit : LinkFlit) (s : State) : Host.Outcome State Fault Refusal :=
  let k := flit.stack.val
  let p := lockerP k
  let fails := ((flit.copies.take 4).takeWhile fun f => !flitOk f).length
  if s.pageState p ≠ .running ∨ !present s.chip.grade p ∨ fails = 0 then done s
  else
    let s1 := (s.setRegN p 0x048 (min (s.regN p 0x048 + min fails 3) 0xFFFFFFFF)).raise p 2
    if fails < 4 then done s1
    else
      let s2 := { s1 with lvl := { s1.lvl with linkDown := s1.lvl.linkDown ++ [2 + k] } }
      let s3 := ((s2.setReg p 0x044 (setBit (s2.reg p 0x044) 8 true)).toState p .fault).raise p 3
      done ((s3.note 3 0 k 0xFFFF 0x175).excuseMem ((List.range 8).map fun c => 48 + 8 * k + c))

/-- CORRIDOR_PARITY_FAIL (R182): a flit of a requester's next access to a unit of 64 bytes still fails after three resends. Its
data is delivered poisoned: what a read returns, what a write stores. -/
def execCorridorParityFail (flit : CorridorFlit) (s : State) : Host.Outcome State Fault Refusal :=
  let e := (sourceCode flit.source, flit.write, flit.addr.toNat / 64)
  let s1 := { s with sram := { s.sram with flits := s.sram.flits.filter (fun x => x ≠ e) ++ [e] } }
  done (s1.note 6 (sourceCode flit.source) 0 0xFFFF (flit.addr.toNat / 64 * 64))

/-- SET_TAGS (R173). -/
def execSetTags (r : Requester) (t : Fin 32) (arg : BitVec 24) (s : State) : Host.Outcome State Fault Refusal :=
  done (s.pageCmd r (tileP t.val) 0x20 arg fun s _ =>
    let first := s.regF (tileP t.val) 0x0CC 12 0
    let count := s.regF (tileP t.val) 0x0CC 29 16
    if s.pageState (tileP t.val) ≠ .idle then (ansState, s)
    else if count = 0 ∨ 8192 < first + count then (ansArg 0x41 0, s)
    else (ansDone, (List.range count).foldl (fun s i => s.setTag t.val (first + i) (arg.toNat % 4)) s))

/-- INJECT (R178). -/
def execInject (r : Requester) (k : Fin 4) (arg : BitVec 24) (s : State) : Host.Outcome State Fault Refusal :=
  done (s.pageCmd r (lockerP k.val) 0x10 arg fun s _ =>
    let c := arg.toNat / 0x100000 % 8
    if s.pageState (lockerP k.val) ≠ .running then (ansState, s)
    else if s.anyTorque then (ansArg 1 0, s)
    else if s.isExcused (48 + 8 * k.val + c) then (ansArg 2 0, s)
    else (ansDone, s.setErr (0x4000000 + k.val * 0x4000000 + c * 0x800000 + 8 * (arg.toNat % 0x100000))
      (if arg.toNat / 0x800000 = 1 then 2 else 1)))

def bankMapOk (v : Word) : Bool := (List.range 16).all fun b => decide (fld v (2 * b + 1) (2 * b) ≠ 3)

/-- TILE_BANKMAP_WRITE (R172). -/
def execTileBankmapWrite (r : Requester) (t : Fin 32) (v : Word) (s : State) : Host.Outcome State Fault Refusal :=
  done (s.guardWrite r (tileP t.val) 0x0C0 fun s _ =>
    if bankMapOk v then (s.setReg (tileP t.val) 0x0C0 v, true)
    else ((s.countRefusal (tileP t.val)).syndrome (tileP t.val) 0x40 0, false))

end Sys2Proof.Machine
end

