-- ==== Sys2Proof/Machine/Dma.lean ====
section
/-!
DEFINITION. The DMA channels (section 5.6): descriptors, their rows and tags, statuses, and the DMA page.
A descriptor moves as many of its 64-byte accesses as its tags and its host data let it; the rest waits for the next
DMA_DESCRIPTOR_END or for the tag timeout.
-/

namespace Sys2Proof.Machine

/-! ## Descriptors (Table 5-10, R183) -/

def parseDesc (index : Nat) (bs : List Byte) : DmaJob :=
  let w := fun o => wordAt bs o
  { index := index, src := leNat (bs.take 8), dst := leNat ((bs.drop 8).take 8), rowBytes := fld (w 0x10) 23 0,
    srcMode := fld (w 0x10) 25 24, dstMode := fld (w 0x10) 27 26, srcHost := bit (w 0x10) 28, dstHost := bit (w 0x10) 29,
    done := bit (w 0x10) 30, signalEn := bit (w 0x10) 31, rows := fld (w 0x14) 15 0, cue := fld (w 0x14) 31 16,
    srcStride := (w 0x18).toNat, dstStride := (w 0x1C).toNat, hostRows := [], epRows := [], pos := 0, viol := false, poisoned := false,
    hostErr := false }

/-- The levels of Table 5-2: the scratchpads, the Commons, the Locker; none: reserved. -/
def mapLevel (a : Nat) : Option Nat :=
  if a < 0x2000000 then some 0
  else if a < 0x3000000 then some 1
  else if 0x4000000 ≤ a ∧ a < 0x14000000 then some 2
  else none

def sameLevel (a n : Nat) : Bool := (mapLevel a).isSome && decide (mapLevel a = mapLevel (a + n - 1))

/-- A row of a tag mode lies in one scratchpad, aligned to 128. -/
def taggedRow (a n : Nat) : Bool := decide (a % 128 = 0) && decide (a < 0x2000000) && decide (a / 0x100000 = (a + n - 1) / 0x100000)

/-- One side of a descriptor passes R183. -/
def sideOk (j : DmaJob) (host : Bool) (addr stride mode : Nat) : Bool :=
  decide (addr % 64 = 0) && decide (stride % 64 = 0) &&
  (host || ((List.range j.rows).all fun r => sameLevel (addr + r * stride) j.rowBytes)) &&
  (decide (mode = 0) || (!host && decide (j.rowBytes % 128 = 0) &&
    ((List.range j.rows).all fun r => taggedRow (addr + r * stride) j.rowBytes)))

def descOk (j : DmaJob) : Bool :=
  decide (64 ≤ j.rowBytes) && decide (j.rowBytes % 64 = 0) && decide (1 ≤ j.rows) && decide (j.srcMode ≤ 2) && decide (j.dstMode ≤ 1) &&
  sideOk j j.srcHost j.src j.srcStride j.srcMode && sideOk j j.dstHost j.dst j.dstStride j.dstMode

/-! ## Moving -/

/-- How one 64-byte access of a descriptor ends. -/
inductive Move where
  | moved | waits | clash
  deriving DecidableEq, Repr

/-- Tag state of one side: the first slot it has to wait for. -/
def State.sideWaits (s : State) (write : Bool) (mode a : Nat) : Bool :=
  match levelAt s.chip.grade a with
  | .tile t off => if write then (s.writeWaits mode t [off / 64]).isSome else (s.readWaits mode t [off / 128]).isSome
  | _ => false

/-- A side would clash. -/
def State.sideClashes (s : State) (a : Nat) : Bool :=
  match levelAt s.chip.grade a with
  | .tile t off => s.clashes t off 64 clsStream
  | _ => false

def State.afterSide (s : State) (write : Bool) (mode a : Nat) : State :=
  match levelAt s.chip.grade a with
  | .tile t off => if write then s.afterWrite mode t [off / 64] else
      -- both halves of a slot have been read when its second half has been
      if off % 128 = 64 then s.afterRead mode t [off / 128] else s
  | _ => s

/-- The stream ID of a homeroom's host requests (R122). -/
def State.hostPasid (s : State) (h : Nat) : Option Nat := if h = 0 ∨ !s.msix.pasidEn then none else some (s.regF (hrP h) 0x048 19 0)

/-- One 64-byte access: the read of the source, then the write of the destination. -/
def State.dmaMove (s : State) (c : Fin 8) (h : Nat) (j : DmaJob) : Move × DmaJob × State :=
  let per := j.rowBytes / 64
  let row := j.pos / per
  let col := 64 * (j.pos % per)
  let a := j.src + row * j.srcStride + col
  let b := j.dst + row * j.dstStride + col
  let hostRow := (j.hostRows.find? fun e => decide (e.1 = row)).map (·.2)
  if j.srcHost && hostRow.isNone then (.waits, j, s)
  else if !j.srcHost && s.reachesAll h a 64 && !s.sideClashes a && s.sideWaits false j.srcMode a then (.waits, j, s)
  else if !j.dstHost && s.reachesAll h b 64 && !s.sideClashes b && s.sideWaits true j.dstMode b then (.waits, j, s)
  else
    let reach := j.srcHost || s.reachesAll h a 64
    let got : Got × State :=
      if j.srcHost then
        match hostRow with
        | some (some bs) => (⟨(bs.drop col).take 64 ++ List.replicate (64 - (bs.drop col).length) 0, j.epRows.contains row, false⟩, s)
        | _ => (⟨List.replicate 64 0, true, false⟩, s)
      else s.streamRead (.dma c) h a 64
    let bad := j.srcHost && (match hostRow with
      | some (some _) => false
      | _ => true)
    if got.1.clash then (.clash, j, got.2)
    else
      let s1 := if j.srcHost || !reach then got.2 else got.2.afterSide false j.srcMode a
      let reachB := j.dstHost || s1.reachesAll h b 64
      let wr : Bool × State :=
        if j.dstHost then
          (false, s1.sendHost ⟨b, s1.hostPasid h, got.1.data, got.1.poisoned⟩)
        else s1.streamWrite (.dma c) h b got.1.data got.1.poisoned
      if wr.1 then (.clash, j, wr.2)
      else
        let s2 := if j.dstHost || !reachB then wr.2 else wr.2.afterSide true j.dstMode b
        (.moved, { j with pos := j.pos + 1, viol := j.viol || !reach || !reachB,
                          poisoned := j.poisoned || got.1.poisoned, hostErr := j.hostErr || bad }, s2)

/-- Moves accesses until the descriptor is through, waits, or clashes. -/
def State.dmaRun (s : State) (c : Fin 8) (h : Nat) (j : DmaJob) : Nat → Move × DmaJob × State
  | 0 => (.moved, j, s)
  | k + 1 => match s.dmaMove c h j with
    | (.moved, j', s') => s'.dmaRun c h j' k
    | r => r

/-- Moves chunks of 4 KiB with their busy times while the owner's share lasts (R65, R186); more remain where the times end. -/
def State.dmaChunks (s : State) (c : Fin 8) (h : Nat) (j : DmaJob) : List Nat → Move × DmaJob × State
  | [] => (if j.rows * (j.rowBytes / 64) ≤ j.pos then .moved else .waits, j, s)
  | ns :: l =>
    let left := j.rows * (j.rowBytes / 64) - j.pos
    if left = 0 then (.moved, j, s)
    else if s.shareSpent h then (.waits, j, s)
    else
      let r := s.dmaRun c h j (min left (64 - j.pos % 64))
      let s1 := r.2.2.modHr h fun q => { q with engineUsed := q.engineUsed + ns }
      -- a violation may have put the owner's homeroom in FAULT, which stops the channel
      if r.1 = .moved ∧ s1.inState (dmaP c) [.running] then s1.dmaChunks c h r.2.1 l else (r.1, r.2.1, s1)

/-! ## Ends (R185, Table 5-11) -/

def dmaSyndrome (status : Nat) : Nat :=
  match status with
  | 2 => 3 | 3 => 4 | 5 => 2 | 6 => 5 | 7 => 6 | _ => 0

def State.dmaTail (s : State) (c : Nat) : Nat := s.regN (dmaP c) 0x044
def State.dmaHead (s : State) (c : Nat) : Nat := s.regN (dmaP c) 0x048

/-- A quiesced channel goes to HOLD once no descriptor is in progress (Table 5-14). -/
def State.dmaSettle (s : State) (c : Nat) : State :=
  if (s.chan c).quiescing && (s.chan c).job.isNone && decide (s.pageState (dmaP c) = .running) then
    ((s.setChan c { s.chan c with quiescing := false }).toState (dmaP c) .hold).finishQuiesce (dmaP c) 2 none
  else s

/-- A descriptor ends with a status other than STOPPED. -/
def State.dmaFinish (s : State) (c : Fin 8) (h status : Nat) : State :=
  let p := dmaP c.val
  match (s.chan c.val).job with
  | none => s
  | some j =>
    let s1 := s.dmaEndRegs c.val status
    let s2 :=
      if status = 0 ∨ status = 4 then
        let a1 := s1.incReg p 0x054
        let a2 := if j.done then (a1.hwSignal (0x50 + c.val) (now a1)).raise p 0 else a1
        let a3 := if j.signalEn then a2.opSignal (.dma c) h j.cue 1 else a2
        if status = 4 then a3.raise p 3 else a3
      else
        -- a channel that is failing goes to FAULT whether or not it was to be quiesced
        let b1 := ((s1.toState p .fault).syndrome p (dmaSyndrome status) j.index).raise p 2
        (b1.finishAll p 3 none).setChan c.val { b1.chan c.val with quiescing := false }
    let s3 := if s2.dmaHead c.val = s2.dmaTail c.val then s2.raise p 1 else s2
    s3.dmaSettle c.val

/-- Moves what can be moved and ends the descriptor when it is through or has clashed. -/
def State.dmaAdvance (s : State) (c : Fin 8) (ns : List Nat) : State :=
  let p := dmaP c.val
  let h := (s.page p).owner
  match (s.chan c.val).job with
  | none => s
  | some j =>
    if !s.inState p [.running] then s else
    let r := s.dmaChunks c h j ns
    let s1 := r.2.2.setChan c.val { r.2.2.chan c.val with job := some r.2.1 }
    if !s1.inState p [.running] then s1.dmaEndRegs c.val 1
    else match r.1 with
      | .waits => s1
      | .clash => s1.dmaFinish c h 6
      | .moved => s1.dmaFinish c h (if r.2.1.viol then 2 else if r.2.1.hostErr then 7 else if r.2.1.poisoned then 4 else 0)

/-! ## The commands -/

/-- DMA_TAIL_WRITE (R187). -/
def execDmaTailWrite (r : Requester) (c : Fin 8) (v : Word) (s : State) : Host.Outcome State Fault Refusal :=
  done (s.guardWrite r (dmaP c.val) 0x044 fun s _ =>
    (s.setRegN (dmaP c.val) 0x044 (fld v 15 0 % s.ringSize (dmaP c.val) 0x040), true))

/-- DMA_DESCRIPTOR_START (R183): a RUNNING channel with HEAD ≠ TAIL fetches and checks its next descriptor. -/
def execDmaDescriptorStart (c : Fin 8) (s : State) : Host.Outcome State Fault Refusal :=
  let p := dmaP c.val
  let h := (s.page p).owner
  let x := s.chan c.val
  if s.pageState p ≠ .running ∨ x.job.isSome ∨ x.quiescing ∨ s.dmaHead c.val = s.dmaTail c.val ∨ s.shareSpent h then done s
  else
    let at' := 64 * s.regF p 0x040 23 0 + 32 * s.dmaHead c.val
    let j := parseDesc (s.dmaHead c.val) (s.readGrant h at' 32)
    let s1 := (s.setChan c.val { x with job := some j }).meetGrant h at' 32
    if descOk j && !s.grantPoison h at' 32 then done s1 else done (s1.dmaFinish c h 5)

/-- DMA_DESCRIPTOR_END (R185): the channel moves its next chunks, with the engine time each takes (R186), and ends the descriptor when
it is through. -/
def execDmaDescriptorEnd (c : Fin 8) (ns : List Nat) (s : State) : Host.Outcome State Fault Refusal := done (s.dmaAdvance c ns)

/-- DMA_TAG_TIMEOUT (Table 5-11): a tag wait has lasted longer than DMA_TAG_TIMEOUT_US. -/
def execDmaTagTimeout (c : Fin 8) (s : State) : Host.Outcome State Fault Refusal :=
  let h := (s.page (dmaP c.val)).owner
  match (s.chan c.val).job with
  | none => done s
  | some j =>
    if j.srcMode = 0 ∧ j.dstMode = 0 then done s
    else
      let s1 := s.dmaAdvance c (List.replicate ((j.rows * (j.rowBytes / 64) + 63) / 64) 0)
      if (s1.chan c.val).job.isSome then done (s1.dmaFinish c h 3) else done s1

/-! ## Universal commands of the DMA page (Table 5-14) -/

def dmaEnable (s : State) (c : Nat) : Ans × State :=
  let p := dmaP c
  let l := s.regF p 0x040 27 24
  match s.pageState p with
  | .idle =>
    if 4 ≤ l ∧ l ≤ 12 ∧ s.inGrant (s.page p).owner (64 * s.regF p 0x040 23 0) (32 * 2 ^ l) then (ansDone, s.toState p .running)
    else (ansArg 1 0, s)
  | .hold => (ansDone, s.toState p .running)
  | _ => (ansState, s)

def dmaDisable (s : State) (c : Nat) : Ans × State :=
  if s.pageState (dmaP c) = .hold then (ansDone, s.toState (dmaP c) .idle) else (ansState, s)

def dmaQuiesce (s : State) (c : Nat) : Ans × State :=
  if s.pageState (dmaP c) ≠ .running then (ansDone, s)
  else if (s.chan c).job.isSome then (ansAccepted, s.setChan c { s.chan c with quiescing := true })
  else (ansDone, s.toState (dmaP c) .hold)

def dmaStopCmd (s : State) (c : Nat) : Ans × State := (ansDone, s.dmaStop c)

def dmaReset (s : State) (c : Nat) : Ans × State :=
  let p := dmaP c
  if s.inState p [.idle, .fault] then
    let s1 := ((s.setRegN p 0x044 0).setRegN p 0x048 0).setRegN p 0x050 0
    (ansDone, if s.pageState p = .fault then s1.toState p .idle else s1)
  else (ansState, s)

end Sys2Proof.Machine
end

