-- ==== Sys2Proof/Machine/TileWord.lean ====
section
/-!
DEFINITION. The 64-bit words of tile programs (section 7.3): which words are legal, and which instruction a word spells.
-/

namespace Sys2Proof.Machine

/-- Bits [hi:lo] of an instruction word. -/
def wf (w hi lo : Nat) : Nat := w / 2 ^ lo % 2 ^ (hi + 1 - lo)

/-- Opcodes of a class run from 1 up to this one (Table 7-7); 0: a reserved class. -/
def lastOpcode (cls : Nat) : Nat :=
  match cls with
  | 1 => 6 | 2 => 14 | 3 => 4 | 4 => 9 | 5 => 11 | 6 => 5 | _ => 0

/-- The V marks of Table 7-7. -/
def markV (cls op : Nat) : Bool :=
  decide (cls = 2 ∧ op = 0x0E) || decide (cls = 4 ∧ (op = 4 ∨ op = 6 ∨ op = 7)) || decide (cls = 5 ∧ op = 8)

/-- A word with a listed class and opcode, its V bit as marked and its reserved field 0 (R229). Formats and tag modes are judged by the
instruction that has them. -/
def wordLegal (w : Nat) : Bool :=
  let cls := wf w 63 60
  let op := wf w 59 53
  decide (1 ≤ op ∧ op ≤ lastOpcode cls) && decide (wf w 52 52 = (markV cls op).toNat) && (decide (cls ≠ 3) || decide (wf w 3 0 = 0))

def mxWord (w : Nat) (f : MxFields) : Bool :=
  decide (wf w 48 48 = f.accumulate.toNat) && decide (wf w 49 49 = f.sat.toNat) && decide (wf w 51 50 = f.tag.toNat) &&
  decide (wf w 47 40 = f.agd.toNat) && decide (wf w 39 32 = f.row0.toNat) && decide (wf w 31 24 = f.rows1.toNat) &&
  decide (wf w 23 12 = f.off.toNat) && decide (wf w 11 0 = f.op.toNat)

/-- The sub-operation of a VX word has no code in the manual: it is the command's (log entry 153). -/
def vxWord (w : Nat) (f : VxFields) : Bool :=
  decide (wf w 51 48 = f.fmt.toNat) && decide (wf w 47 43 = f.vd.toNat) && decide (wf w 42 38 = f.va.toNat) &&
  decide (wf w 37 33 = f.vb.toNat) && decide (wf w 32 28 = f.vc.toNat) && decide (wf w 19 6 = f.off.toNat) &&
  decide (wf w 5 4 = f.tag.toNat) && decide (wf w 3 0 = f.sr.toNat)

def mvWord (w : Nat) (f : MvFields) : Bool :=
  decide (wf w 49 48 = f.stag.toNat) && decide (wf w 51 50 = f.dtag.toNat) && decide (wf w 47 32 = f.units1.toNat) &&
  decide (wf w 31 28 = f.sa.toNat) && decide (wf w 27 24 = f.da.toNat) && decide (wf w 23 16 = f.mask.toNat) &&
  decide (wf w 15 8 = f.combine.toNat) && decide (wf w 7 4 = f.fmt.toNat)

def syWord (w : Nat) (f : SyFields) : Bool :=
  decide (wf w 48 48 = f.st.toNat) && decide (wf w 49 49 = f.cueReg.toNat) && decide (wf w 47 32 = f.cue.toNat) &&
  decide (wf w 31 16 = f.n.toNat) && decide (wf w 15 12 = f.sreg.toNat) && decide (wf w 11 0 = f.timeout.toNat)

def ctWord (w : Nat) (f : CtFields) : Bool :=
  decide (wf w 51 48 = f.cond.toNat) && decide (wf w 47 44 = f.rd.toNat) && decide (wf w 43 40 = f.ra.toNat) &&
  decide (wf w 39 36 = f.rb.toNat) && decide (wf w 35 0 = f.imm.toNat)

def ckWord (w : Nat) (f : CkFields) : Bool :=
  decide (wf w 51 48 = f.fmt.toNat) && decide (wf w 47 44 = f.rd.toNat) && decide (wf w 43 40 = f.ra.toNat) &&
  decide (wf w 39 36 = f.rl.toNat) && decide (wf w 35 32 = f.rlo.toNat) && decide (wf w 31 28 = f.rhi.toNat) &&
  decide (wf w 27 0 = f.imm.toNat)

/-- Class and opcode of a word. -/
def isOp (w cls op : Nat) : Bool := decide (wf w 63 60 = cls) && decide (wf w 59 53 = op)

/-- A word spells a tile instruction (Tables 7-6 and 7-7); no other command is spelled by a word. -/
def wordSpells (w : Nat) (i : Instr) : Bool :=
  match i with
  | .mxCfg _ f => isOp w 1 1 && mxWord w f
  | .mxLdw _ f => isOp w 1 2 && mxWord w f
  | .mxSwap _ f => isOp w 1 3 && mxWord w f
  | .mxPass _ f _ => isOp w 1 4 && mxWord w f
  | .mxOut _ f => isOp w 1 5 && mxWord w f.fields
  | .mxZacc _ f => isOp w 1 6 && mxWord w f
  | .vxLd _ f => isOp w 2 1 && vxWord w f
  | .vxSt _ f => isOp w 2 2 && vxWord w f
  | .vxAlu _ _ f => isOp w 2 3 && vxWord w f
  | .vxFma _ f => isOp w 2 4 && vxWord w f
  | .vxFn _ _ f => isOp w 2 5 && vxWord w f
  | .vxCvt _ f _ _ => isOp w 2 6 && vxWord w f
  | .vxQmul _ f => isOp w 2 7 && vxWord w f
  | .vxMac8 _ f => isOp w 2 8 && vxWord w f
  | .vxLred _ f _ => isOp w 2 9 && vxWord w f
  | .vxSel _ f => isOp w 2 0xA && vxWord w f
  | .vxPerm _ f => isOp w 2 0xB && vxWord w f
  | .vxArgmax _ f => isOp w 2 0xC && vxWord w f
  | .vxAtaddi _ f => isOp w 2 0xD && vxWord w f
  | .vxAtaddf _ f => isOp w 2 0xE && vxWord w f
  | .mvCopy _ f => isOp w 3 1 && mvWord w f
  | .mvBcast _ f => isOp w 3 2 && mvWord w f
  | .mvRed _ f => isOp w 3 3 && mvWord w f
  | .mvGather _ f => isOp w 3 4 && mvWord w f
  | .sySignal _ f => isOp w 4 1 && syWord w f
  | .syWait _ f => isOp w 4 2 && syWord w f
  | .syArrive _ f => isOp w 4 3 && syWord w f
  | .syTest _ f => isOp w 4 4 && syWord w f
  | .sySet _ f => isOp w 4 5 && syWord w f
  | .syTake _ f => isOp w 4 6 && syWord w f
  | .syWaitany _ f => isOp w 4 7 && syWord w f
  | .syFence _ f => isOp w 4 8 && syWord w f
  | .syTags _ first count1 v =>
    isOp w 4 9 && decide (wf w 47 35 = first.toNat) && decide (wf w 34 22 = count1.toNat) && decide (wf w 21 20 = v.toNat)
  | .ctSets _ f => isOp w 5 1 && ctWord w f
  | .ctAlu _ _ f => isOp w 5 2 && ctWord w f
  | .ctBr _ f => isOp w 5 3 && ctWord w f
  | .ctLoop _ f => isOp w 5 4 && ctWord w f
  | .ctPhase _ f => isOp w 5 5 && ctWord w f
  | .ctYield _ f => isOp w 5 6 && ctWord w f
  | .ctEnd _ f => isOp w 5 7 && ctWord w f
  | .ctMtn _ f => isOp w 5 8 && ctWord w f
  | .ctTid _ f => isOp w 5 9 && ctWord w f
  | .ctLds _ f => isOp w 5 0xA && ctWord w f
  | .ctSts _ f => isOp w 5 0xB && ctWord w f
  | .ckCrc _ f => isOp w 6 1 && ckWord w f
  | .ckFin _ f => isOp w 6 2 && ckWord w f
  | .ckBound _ f => isOp w 6 3 && ckWord w f
  | .ckTrap _ f => isOp w 6 4 && ckWord w f
  | .ckStamp _ f => isOp w 6 5 && ckWord w f
  | _ => false

end Sys2Proof.Machine
end

