-- ==== Sys2Proof/Machine/Tile.lean ====
section
/-!
DEFINITION. The tile sequencer (section 7.2): issue, dispatch, yield points, switches and stops, engine accesses to the
scratchpad, the TILE page and the SECTION page (chapter 6).
-/

namespace Sys2Proof.Machine

/-! ## Issue -/

/-- The tile's sequencer is at an instruction. -/
def State.canIssue (s : State) (t : Nat) : Bool :=
  (s.tile t).act.isSome && decide ((s.tile t).wait = .none) && s.inState (tileP t) [.running, .hold] && !s.dyn.tripped

/-- ILLEGAL (Table 7-9). -/
def State.illegal (s : State) (t : Nat) : State := s.partFault t 0x60

/-- A V-marked execution (R238). -/
def State.countChoice (s : State) (t : Nat) : State :=
  let p := tileP t
  let h := ((s.tile t).act.map (·.1)).getD 0
  let s1 := s.setReg64 p 0x088 (s.reg64 p 0x088 + 1)
  let s2 := s1.setReg64 (hrP h) 0x090 (s1.reg64 (hrP h) 0x090 + 1)
  if (s.tile t).choiceSeen then s2 else (s2.modTile t fun u => { u with choiceSeen := true }).raise p 7

def State.getS (s : State) (t r : Nat) : Word := (s.tile t).getS r

def State.setS (s : State) (t r : Nat) (v : Word) : State := s.modTile t fun u => u.setS r v

/-- Sets a scalar register with the poison of its data. -/
def State.setSP (s : State) (t r : Nat) (v : Word) (poisoned : Bool) : State :=
  s.modTile t fun u => let w := u.setS r v; if r = 0 then w else { w with sPoison := tabSet false w.sPoison r poisoned }

def State.sBad (s : State) (t r : Nat) : Bool := tabGet false (s.tile t).sPoison r

/-- The Part whose activation is on a tile. -/
def State.partOn (s : State) (t : Nat) : Option Part := match (s.tile t).act with
  | some (h, i) => s.part? h i
  | none => none

def State.hrOn (s : State) (t : Nat) : Nat := ((s.tile t).act.map (·.1)).getD 0

/-- A word of the header of the image that runs on a tile. -/
def State.imageWord (s : State) (t off : Nat) : Nat := match s.partOn t with
  | some p => s.readNat (p.image + off) 4
  | none => 0

/-- A wait that has just begun notes its start and its timeout; one that goes on keeps them (R233). -/
def State.noteWait (s : State) (t : Nat) (old : TileWait) : State :=
  let w := (s.tile t).wait
  if w = .none ∨ w = old then s
  else s.modTile t fun u => { u with waitSince := now s, waitUs := s.regF (tileP t) 0x078 23 0 }

/-- Address of the word at the program counter. -/
def State.fetchAt (s : State) (t : Nat) : Nat := (s.tile t).prog + 8 * (s.tile t).pc

/-- A tile fetches bytes of the image: the errors that stand in them are met, and poison is FETCH_POISON (R220). error: the fetch
ended the activation on the tile. -/
def State.fetch (s : State) (t a n : Nat) : Except State State :=
  let s1 := s.seeErrors a n t clsStream
  if s.rangePoison a n then .error (s1.partFault t 0x62)
  else if (s1.tile t).act.isNone then .error s1
  else .ok s1

/-- Fetches ranges one after another. -/
def State.fetchAll (s : State) (t : Nat) (l : List (Nat × Nat)) : Except State State := l.foldlM (fun s e => s.fetch t e.1 e.2) s

/-- The next instruction of a tile issues. The sequencer fetches the word at its program counter: PC_RANGE outside the program,
FETCH_POISON, ILLEGAL (Table 7-9). A command for another instruction than the word spells is none that this tile issues: nothing
happens. -/
def State.issue (s : State) (t : Nat) (i : Instr) (f : State → State) : State :=
  if !s.canIssue t then s
  else
    let u := s.tile t
    if u.progLen ≤ u.pc then s.partFault t 0x6A
    else
      let w := s.readNat (s.fetchAt t) 8
      match s.fetch t (s.fetchAt t) 8 with
      | .error s1 => s1
      | .ok s1 =>
      if !wordLegal w then s1.illegal t
      else if !wordSpells w i then s1
      else
        (f ((s1.setRegN (tileP t) 0x070 (u.pc % 0x100000)).modTile t fun u => { u with held := some i, progress := 0 })).noteWait t .none

/-! ## Engine accesses (R163, R166, R167) -/

/-- Access unit of the MXE and of the VXE (Table 5-4). -/
def unitBytes (cls : Nat) : Nat := if cls = clsWide then 256 else 64

/-- The aligned access units that ranges of a scratchpad touch, each once. -/
def unitsOf (cls : Nat) (rs : List (Nat × Nat)) : List Nat :=
  let k := unitBytes cls
  (rs.flatMap fun e => (List.range ((e.1 % k + e.2 + k - 1) / k)).map fun i => (e.1 / k + i) * k % 0x100000).eraseDups

def unitSlots (cls : Nat) (us : List Nat) : List Nat := us.flatMap fun u => slotsOf u (unitBytes cls)

def unitHalves (cls : Nat) (us : List Nat) : List Nat := us.flatMap fun u => halvesOf u (unitBytes cls)

/-- A read by the MXE or the VXE of ranges of its scratchpad, in whole access units. error: the engine waits for a tag, or the
access clashed and the activation has stopped, or the tile was Excused; ok: whether some of the data is poisoned. -/
def State.engineRead (s : State) (t cls mode : Nat) (rs : List (Nat × Nat)) : Except State (Bool × State) :=
  let us := unitsOf cls rs
  match us.find? fun u => s.clashes t u (unitBytes cls) cls with
  | some u => .error ((s.recordClash t u cls).partFault t 0x61)
  | none =>
    match s.readWaits mode t (unitSlots cls us) with
    | some k => .error (s.modTile t fun u => { u with wait := .tag false cls k })
    | none =>
      let base := t * 0x100000
      let bad := rs.any fun e => s.rangePoison (base + e.1) e.2
      let s1 := us.foldl (fun s u => s.seeErrors (base + u) (unitBytes cls) t cls) s
      if (s1.tile t).act.isSome then .ok (bad, s1) else .error s1

def State.engineReadDone (s : State) (t cls mode : Nat) (rs : List (Nat × Nat)) : State :=
  s.afterRead mode t (unitSlots cls (unitsOf cls rs))

/-- A write by the MXE or the VXE, unit by unit: those before the first that clashes are written. -/
def State.engineWrite (s : State) (t cls mode off : Nat) (bs : List Byte) (poisoned : Bool) : Except State State :=
  let us := unitsOf cls [(off, bs.length)]
  let ok := us.takeWhile fun u => !s.clashes t u (unitBytes cls) cls
  match s.writeWaits mode t (unitHalves cls ok) with
  | some k => .error (s.modTile t fun u => { u with wait := .tag true cls k })
  | none =>
    let put := fun (l : List Byte) =>
      (((s.storeBytes (t * 0x100000 + off) l poisoned t cls).takeCondemned).afterWrite mode t (unitHalves cls ok)).touch (t * 0x100000 + off)
        l.length
    match us.find? fun u => s.clashes t u (unitBytes cls) cls with
    | none => .ok (put bs)
    | some u => .error (((put (bs.take (u - off))).recordClash t u cls).partFault t 0x61)

/-! ## Dispatch, yields and stops -/

/-- A tile at the start or the resume of an activation (R221). -/
def Tile.cleared (u : Tile) : Tile :=
  { u with sregs := [], loops := [], vregs := [], acc := [], wActive := [], wLoaded := none, vPoison := [], accPoison := [],
           wPoison := false, wLoadedPoison := false, sPoison := [], wait := .none, held := none, offered := none, progress := 0 }

/-- Slots of a save set: both ranges (Table 7-4). -/
def State.saveSlots (s : State) (image k : Nat) : List Nat :=
  let e := s.readBytes (image + s.readNat (image + 0x34) 4 + 16 * k) 16
  let range := fun (w : Word) => (List.range (fld w 29 16)).map fun i => (fld w 12 0 + i) % 8192
  range (wordAt e 0) ++ range (wordAt e 4)

/-- Start of a tile's slice of the context area (R218, R225). -/
def State.contextAt (s : State) (image rank : Nat) : Nat :=
  image + s.readNat (image + 8) 4 + rank * s.readNat (image + 0x24) 4

/-- The context header (R225): program counter, s1 to s15, the loop counters, TILE_BANKMAP, in this order (DESIGN CHOICE, log
entry 24). -/
def State.contextHeader (s : State) (t : Nat) : List Byte :=
  let u := s.tile t
  leBytes 4 u.pc ++ ((List.range 15).flatMap fun r => leBytes 4 (u.getS (r + 1)).toNat) ++
  ((List.range 4).flatMap fun k =>
    let c := tabGet LoopCtr.zero u.loops k
    leBytes 4 c.left ++ leBytes 4 c.first ++ leBytes 4 c.past) ++ leBytes 4 (s.regN (tileP t) 0x0C0) ++ List.replicate 140 0

/-- Tags packed two bits per slot from bit 0. -/
def packTags : List Nat → List Byte
  | a :: b :: c :: d :: l => BitVec.ofNat 8 (a + 4 * b + 16 * c + 64 * d) :: packTags l
  | [a, b, c] => [BitVec.ofNat 8 (a + 4 * b + 16 * c)]
  | [a, b] => [BitVec.ofNat 8 (a + 4 * b)]
  | [a] => [BitVec.ofNat 8 a]
  | [] => []

/-- What a save or a restore at yield point k reads of the image: words of its header, the save set. -/
def State.saveWords (s : State) (image k : Nat) : List (Nat × Nat) :=
  [(image + 8, 4), (image + 0x24, 4), (image + 0x34, 4), (image + s.readNat (image + 0x34) 4 + 16 * k, 16)]

/-- A tile saves its context at yield point k (R225). -/
def State.saveTile (s : State) (t image k : Nat) : State :=
  let at' := s.contextAt image (s.tile t).position
  let slots := s.saveSlots image k
  let hdr := s.contextHeader t
  let s1 := (List.range 32).foldl (fun s i =>
    s.writeBytes (at' + 8 * i) ((hdr.drop (8 * i)).take 8) (decide (i < 8) && (s.sBad t (2 * i) || s.sBad t (2 * i + 1)))) s
  let s2 := ((List.range slots.length).zip slots).foldl (fun s e =>
    let a := t * 0x100000 + 128 * e.2
    (s.writeBytes (at' + 256 + 128 * e.1) (s.readBytes a 128) (s.rangePoison a 128)).meetErrors a 128 t clsStream) s1
  s2.writeBytes (at' + 256 + 128 * slots.length) (packTags (slots.map (s.tag t))) false

/-- Key of what an activation leaves unspecified: its homeroom and PART_ID. -/
def State.staleOf (s : State) (h i : Nat) : Nat := h * 0x100000000 + ((s.part? h i).map (·.partId)).getD 0 + 1

/-- Scratchpad contents of the former activation do not persist (R222; free values, log entry 152). -/
def State.forgetTouched (s : State) (t key : Nat) : State :=
  ((s.tile t).touched.foldl (fun s e => s.forgetRange e.1 e.2 key) s).modTile t fun u => { u with touched := [] }

/-- A tile restores its context: TILE_BANKMAP, the saved slots with their tags, then R221 with the saved index (R225). Slots outside
the save set hold unspecified contents. -/
def State.restoreTile (s : State) (t image k rank key : Nat) : State :=
  let at' := s.contextAt image rank
  let slots := s.saveSlots image k
  let all := 256 + 128 * slots.length + (slots.length + 3) / 4
  let tagBytes := s.readBytes (at' + 256 + 128 * slots.length) ((slots.length + 3) / 4)
  let s1 := ((s.meetErrors at' all t clsStream).setRegN (tileP t) 0x0C0 (s.readNat (at' + 112) 4)).forgetRange (t * 0x100000) 0x100000 key
  let s2 := ((List.range slots.length).zip slots).foldl (fun s e =>
    ((s.writeBytes (t * 0x100000 + 128 * e.2) (s.readBytes (at' + 256 + 128 * e.1) 128) (s.rangePoison (at' + 256 + 128 * e.1) 128)).touch
      (t * 0x100000 + 128 * e.2) 128).setTag t e.2 (byteAt tagBytes (e.1 / 4) / 4 ^ (e.1 % 4) % 4)) s1
  s2.modTile t fun u => { u.cleared with pc := s.readNat at' 4 }

/-- The activations that compete for the tiles of a Part: deadline and index of each that is ready (R63). -/
def State.rivals (s : State) (h i : Nat) (group : List Nat) : List (Nat × Nat) :=
  (s.allActs.filter fun e => decide (e.1 = h) && decide (e.2 ≠ i)).filterMap fun e => match s.part? e.1 e.2 with
    | some q => (match q.act with
      | some b => if q.group = group && !b.onTiles && !b.stopping then some (b.deadline, e.2) else none
      | none => none)
    | none => none

/-- ACTIVATION_DISPATCH (R63, R221): the ready activation with the earliest deadline starts or resumes on its free group. -/
def execActivationDispatch (h : Fin 8) (i : Nat) (s : State) : Host.Outcome State Fault Refusal :=
  match s.part? h.val i with
  | none => done s
  | some p =>
    match p.act with
    | none => done s
    | some a =>
      let first := (s.rivals h.val i p.group).all fun r => decide (a.deadline < r.1) || (decide (a.deadline = r.1) && decide (i ≤ r.2))
      let free := p.group.all fun t => (s.tile t).act.isNone && !(s.tile t).leaving && decide (s.pageState (tileP t) = .running)
      if a.onTiles || a.stopping || p.unfit || p.throttled || p.group.isEmpty || !first || !free || s.dyn.tripped || !s.inState (hrP h.val) activeStates then done s
      else
        let s1 := s.modAct h.val i fun a => { a with onTiles := true, ended := [] }
        let place := fun (s : State) (e : Nat × Nat) =>
          let t := e.2
          let entry := p.image + s.readNat (p.image + 0x28) 4 + 8 * e.1
          let len := s.readNat (entry + 4) 4 % 0x200000
          let words := [(p.image + 0x28, 4), (entry, 8)] ++ (a.saved.map (s.saveWords p.image)).getD []
          let s2 := (s.forgetTouched t (s.staleOf h.val i)).modTile t fun u => { u with
            act := some (h.val, i), position := e.1, progLen := len, prog := p.image + s.readNat entry 4, since := now s,
            lastYield := now s, choiceSeen := a.saved.isSome && u.choiceSeen }
          let s3 := (s2.setRegN (tileP t) 0x048 (0x80000000 + i % oldBase)).setReg64 (tileP t) 0x090 p.image
          let s4 := match a.saved with
            | some k => s3.restoreTile t p.image k e.1 (s3.staleOf h.val i)
            | none => s3.modTile t fun u => { u.cleared with pc := 0 }
          match s4.fetchAll t words with
          | .ok s5 => s5.takeCondemned
          | .error s5 => s5.takeCondemned
        done (((List.range p.group.length).zip p.group).foldl place s1)

/-- The longest interval between yield points (R227). -/
def State.gapMax (s : State) (t : Nat) : State :=
  (s.setRegN (tileP t) 0x098 (min (max (s.regN (tileP t) 0x098) (now s - (s.tile t).lastYield)) 0xFFFFFFFF)).modTile t fun u =>
    { u with lastYield := now s }

/-- A switch is pending for the activation on a tile: a ready activation of its group has an earlier deadline, or an equal
one and a lower Part index (R63). Where a QUIESCE or STOP of a TILE page waits, the activation runs to completion (Table 6-9). -/
def State.switchPending (s : State) (t : Nat) : Bool :=
  match (s.tile t).act with
  | none => false
  | some (h, i) => match s.part? h i with
    | none => false
    | some p => match p.act with
      | none => false
      | some a => !(p.group.any fun u => (s.tile u).leaving) &&
        (s.rivals h i p.group).any fun r => decide (r.1 < a.deadline) || (decide (r.1 = a.deadline) && decide (r.2 < i))

/-- The activation on a tile is to stop. -/
def State.actStopping (s : State) (t : Nat) : Bool :=
  (s.tile t).ending || match (s.tile t).act with
  | none => false
  | some (h, i) => match (s.part? h i).bind (·.act) with
    | some a => a.stopping
    | none => true

/-- A tile reaches yield point k (R224, R226). -/
def State.yieldAt (s : State) (t k : Nat) : State :=
  match (s.gapMax t).fetch t (((s.partOn t).map (·.image)).getD 0 + 0x38) 4 with
  | .error s1 => s1
  | .ok s1 =>
  if s1.imageWord t 0x38 % 0x10000 ≤ k then s1.partFault t 0x67
  else if s1.actStopping t then s1.leaveTile t
  else
    let group := ((s1.partOn t).map (·.group)).getD []
    if group.any fun u => match (s1.tile u).wait with
        | .barrier j => decide (j ≠ k)
        | _ => false then s1.partFault t 0x67
    else if s1.switchPending t then s1.modTile t fun u => { u with wait := .barrier k }
    else s1.nextInstr t

/-- The activation leaves a tile to another one, its context saved (R225). -/
def State.swapOut (s : State) (t : Nat) : State :=
  ((s.setRegF (tileP t) 0x048 31 31 0).setReg64 (tileP t) 0x04C (s.reg64 (tileP t) 0x04C + (now s - (s.tile t).since))).modTile t fun u =>
    { u with act := none, wait := .none, held := none }

/-- YIELD_BARRIER_RELEASE (R224 to R226). With a switch pending and every tile of the group at the yield point, each saves its context
and leaves its tile to the other activation. An activation that is to stop stops on the tiles that wait here. Where no switch is
pending any more, the tiles that wait go on. -/
def execYieldBarrierRelease (h : Fin 8) (i : Nat) (s : State) : Host.Outcome State Fault Refusal :=
  match s.part? h.val i with
  | none => done s
  | some p =>
    let at' := fun t => match (s.tile t).wait with
      | .barrier k => if (s.tile t).act = some (h.val, i) then some k else none
      | _ => none
    let here := p.group.filter fun t => (at' t).isSome
    match here.head?.bind at' with
    | none => done s
    | some k =>
      if here.any s.actStopping then done (here.foldl (fun s t => if s.actStopping t then s.leaveTile t else s) s)
      else if here.any s.switchPending then
        (if p.group.all fun t => decide (at' t = some k) then
          match s.fetchAll (p.group.headD 0) (s.saveWords p.image k) with
          | .error s1 => done s1
          | .ok s0 =>
          let s1 := (p.group.foldl (fun s t => ((s.modTile t fun u => { u with wait := .none }).nextInstr t).saveTile t p.image k) s0).takeCondemned
          let s2 := s1.modAct h.val i fun a => { a with onTiles := false, saved := some k }
          done (p.group.foldl (fun s t => s.swapOut t) s2)
        else done s)
      else done (here.foldl (fun s t => (s.modTile t fun u => { u with wait := .none }).nextInstr t) s)

/-- A wait that is a stop point (R226). -/
def stopPoint : TileWait → Bool
  | .tag .. => true
  | .cue .. => true
  | .sectionNet => true
  | .barrier _ => true
  | _ => false

/-- ACTIVATION_STOP (R226): an activation that is to stop, and waits on a tile, stops on it. -/
def execActivationStop (t : Fin 32) (s : State) : Host.Outcome State Fault Refusal :=
  if s.actStopping t.val && stopPoint (s.tile t.val).wait then done ((s.dropWaiters t.val).leaveTile t.val) else done s

/-- The Metronome value at which the wait of a tile times out. -/
def State.stallAt (s : State) (t : Nat) : Nat := (s.tile t).waitSince + 1000 * (s.tile t).waitUs

/-- Another tile of the group has raised a Part image fault in the cycle of this tile's timeout (R236). -/
def State.faultSame (s : State) (t : Nat) : Bool :=
  match (s.tile t).act with
  | none => false
  | some (h, i) => match (s.part? h i).bind (·.act) with
    | some a => decide (a.faultAt = some (s.stallAt t))
    | none => false

/-- STALL_TIMEOUT (R233): a wait has lasted longer than TILE_STALL_TIMEOUT_US. An activation that is to stop stops at the wait
instead (R226), but for a fault of the same cycle on another tile (R236). -/
def execStallTimeout (t : Fin 32) (s : State) : Host.Outcome State Fault Refusal :=
  let p := tileP t.val
  let s0 := advanceTo (s.stallAt t.val) s
  let stall := fun (info code : Nat) => ((s0.setRegN p 0x07C info).raise p 4).partFault t.val code
  if s.actStopping t.val && !s.faultSame t.val then
    (if stopPoint (s.tile t.val).wait then done ((s.dropWaiters t.val).leaveTile t.val) else done s)
  else match (s.tile t.val).wait with
    | .tag write cls slot =>
      if cls = clsStream then done s
      else done (stall ((if write then 2 else 1) * 0x10000000 + cls * 0x1000000 + slot % 8192) 0x63)
    | .sectionNet => done (stall 0x30000000 0x64)
    | .barrier _ => done (stall 0x40000000 0x64)
    | _ => done s

/-- HARDWARE_STALL (R234). -/
def execHardwareStall (t : Fin 32) (s : State) : Host.Outcome State Fault Refusal :=
  if s.canIssue t.val then done (s.excuseTile t.val 4) else done s

/-- BANK_PHASE_APPLY (R165): a phase instruction takes effect. -/
def execBankPhaseApply (t : Fin 32) (s : State) : Host.Outcome State Fault Refusal :=
  match (s.tile t.val).wait with
  | .phase m => done (((s.setReg (tileP t.val) 0x0C0 m).modTile t.val fun u => { u with wait := .none }).nextInstr t.val)
  | _ => done s

/-! ## The TILE page (section 6.6) -/

/-- INJECT_CK (R214). -/
def execInjectCk (r : Requester) (t : Fin 32) (arg : BitVec 24) (s : State) : Host.Outcome State Fault Refusal :=
  done (s.pageCmd r (tileP t.val) 0x21 arg fun s _ =>
    let col := arg.toNat / 256 % 64
    if !s.inState (tileP t.val) [.idle, .running] then (ansState, s)
    else if s.anyTorque || (s.tile t.val).inject.isSome then (ansArg 0x42 0, s)
    else if 32 < col then (ansArg 0x43 0, s)
    else (ansDone, s.modTile t.val fun u => { u with inject := some (arg.toNat % 64, col) }))

def tileEnable (s : State) (t : Nat) : Ans × State :=
  if s.pageState (tileP t) = .hold then (ansDone, s.toState (tileP t) .running) else (ansState, s)

def tileQuiesce (s : State) (t : Nat) : Ans × State :=
  if s.pageState (tileP t) ≠ .running then (ansDone, s)
  else if (s.tile t).act.isSome then (ansAccepted, s.modTile t fun u => { u with leaving := true })
  else (ansDone, s.toState (tileP t) .hold)

def tileStop (s : State) (t : Nat) : Ans × State :=
  if s.pageState (tileP t) ≠ .running then (ansDone, s)
  else match (s.tile t).act with
    | some (h, i) => (ansAccepted, (s.modTile t fun u => { u with leaving := true }).stopAct h i)
    | none => (ansDone, s.toState (tileP t) .hold)

def tileReset (s : State) (t : Nat) : Ans × State :=
  let p := tileP t
  if s.inState p [.idle, .fault] then
    let s1 := [0x0C0, 0x0CC, 0x054, 0x058, 0x068, 0x098, 0x09C, 0x0C8].foldl (fun s o => s.resetReg p o) s
    (ansDone, if s.pageState p = .fault then s1.toState p .idle else s1)
  else (ansState, s)

/-! ## The SECTION page (section 6.7) -/

/-- BIST (R216). -/
def execBist (r : Requester) (q : Fin 4) (arg : BitVec 24) (s : State) : Host.Outcome State Fault Refusal :=
  let p := sectP q.val
  done (s.pageCmd r p 0x10 arg fun s _ =>
    let mask := arg.toNat % 256
    let named := (List.range 8).filter fun k => mask.testBit k
    let bits := fun (l : List Nat) => l.foldl (fun m k => m + 2 ^ k) 0
    let lost := named.filter fun k => s.isExcused (8 * q.val + k)
    let busy := named.filter fun k => decide (s.pageState (tileP (8 * q.val + k)) ≠ .idle)
    if s.pageState p ≠ .running then (ansState, s)
    else if mask = 0 then (ansArg 3 0, s)
    else if lost ≠ [] then (ansArg 2 (bits lost), s)
    else if busy ≠ [] then (ansArg 1 (bits busy), s)
    else (ansAccepted, named.foldl (fun s k => s.modTile (8 * q.val + k) fun u => { u with underBist := true }) s))

/-- A scratchpad is left 0 with valid check bits and EMPTY tags. -/
def State.clearScratchpad (s : State) (t : Nat) : State :=
  let s1 := s.clearSram (t * 0x100000) 0x100000
  { s1 with sram := { s1.sram with tags := s.sram.tags.filter fun e => !(decide (8192 * t ≤ e.1) && decide (e.1 < 8192 * (t + 1))) } }

/-- BIST_COMPLETE (R216, R208): the tiles that passed by position, and the failing units of those that did not. -/
def execBistComplete (q : Fin 4) (passed : BitVec 8) (failMap : BitVec 28) (s : State) : Host.Outcome State Fault Refusal :=
  let p := sectP q.val
  let named := (List.range 8).filter fun k => (s.tile (8 * q.val + k)).underBist
  if named = [] then done s
  else
    let bits := fun (l : List Nat) => l.foldl (fun m k => m + 2 ^ k) 0
    let ok := named.filter fun k => passed.getLsbD k
    let one := fun (s : State) (k : Nat) =>
      let t := 8 * q.val + k
      let s1 := (s.clearScratchpad t).modTile t fun u => { u with underBist := false }
      if passed.getLsbD k then s1.setRegN (tileP t) 0x06C 0x10000000
      else (s1.setRegN (tileP t) 0x06C (0x20000000 + failMap.toNat)).excuseTile t 3
    let s1 := ((named.foldl one s).setRegN p 0x04C (bits named * 256 + bits ok)).raise p 0
    let s2 := s1.finishPending p 2 none
    done ((List.range 8).foldl (fun s h => s.syncTiles h) s2)

end Sys2Proof.Machine
end

