-- ==== Sys2Proof/Machine/Mxe.lean ====
section
/-!
DEFINITION. The Matrix Engine: modes, weight blocks, passes with their checks, and the output stage (sections 6.1.1, 6.1.2 and
6.3), as the MX instructions drive it.
-/

namespace Sys2Proof.Machine

/-! ## Modes (Table 6-2) -/

/-- Rows of the weight block (K). -/
def kDim (mode : Nat) : Nat := if mode = 1 then 64 else if mode ≤ 2 then 32 else 16

/-- Columns of the weight block (N). -/
def nDim (mode : Nat) : Nat := if mode ≤ 2 then 32 else 16

def intMode (mode : Nat) : Bool := mode = 0 || mode = 1 || mode = 5

/-- Element format of an operand of a mode; `e5` selects E5M2 in mode FP8. -/
def opElem (mode : Nat) (e5 : Bool) : Elem :=
  match mode with
  | 0 => .int 8 | 1 => .int 4 | 2 => .fp (if e5 then fE5M2 else fE4M3) | 3 => .fp fF16 | 4 => .fp fBF16 | _ => .int 16

def blockBytes (mode : Nat) : Nat := kDim mode * nDim mode * (opElem mode false).width / 8

/-- Fields of an MX instruction that are reserved (Table 7-6). -/
def mxReadTagOk (f : MxFields) : Bool := decide (f.tag.toNat ≤ 2)
def mxWriteTagOk (f : MxFields) : Bool := decide (f.tag.toNat ≤ 1)

/-- The 256-byte accesses of a Wide transfer of n bytes from an offset. -/
def wideRanges (off n : Nat) : List (Nat × Nat) :=
  (List.range ((n + 255) / 256)).map fun i => ((off + 256 * i) % 0x100000, min 256 (n - 256 * i))

def State.readScratch (s : State) (t : Nat) (rs : List (Nat × Nat)) : List Byte :=
  rs.flatMap fun e => s.readBytes (t * 0x100000 + e.1) e.2

/-! ## MX.CFG, MX.LDW, MX.SWAP, MX.ZACC -/

def mxCfg (t : Nat) (f : MxFields) (s : State) : State :=
  let mode := f.op.toNat % 16
  let out := f.op.toNat / 16 % 16
  if 6 ≤ mode ∨ (elemOf out).isNone then s.illegal t
  else (s.modTile t fun u => { u with
      mode := mode, outFmt := out, satBit := f.sat, actE5 := f.op.getLsbD 8, wtE5 := f.op.getLsbD 9,
      chanTable := 64 * (u.getS (f.agd.toNat / 16)).toNat }).nextInstr t

def mxLdw (t : Nat) (f : MxFields) (s : State) : State :=
  if !mxReadTagOk f then s.illegal t
  else
    let rs := wideRanges (256 * f.off.toNat) (blockBytes (s.tile t).mode)
    match s.engineRead t clsWide f.tag.toNat rs with
    | .error s' => s'
    | .ok (bad, s1) =>
      ((s1.engineReadDone t clsWide f.tag.toNat rs).modTile t fun u =>
        { u with wLoaded := some (s.readScratch t rs), wLoadedPoison := bad }).nextInstr t

/-- The buffers change places. -/
def mxSwap (t : Nat) (s : State) : State :=
  (s.modTile t fun u => { u with wActive := u.wLoaded.getD [], wPoison := u.wLoadedPoison, wLoaded := some u.wActive,
                                 wLoadedPoison := u.wPoison }).nextInstr t

/-- The accumulator rows an instruction names. -/
def accRows (f : MxFields) : List Nat := (List.range (f.rows1.toNat + 1)).map fun r => (f.row0.toNat + r) % 256

def Tile.getAcc (u : Tile) (row n : Nat) : BitVec 48 := tabGet 0 u.acc (32 * row + n)
def Tile.setAcc (u : Tile) (row n : Nat) (v : BitVec 48) : Tile := { u with acc := tabSet 0 u.acc (32 * row + n) v }

def mxZacc (t : Nat) (f : MxFields) (s : State) : State :=
  (s.modTile t fun u => (accRows f).foldl (fun u r =>
    { u with acc := u.acc.filter fun e => !decide (e.1 / 32 = r), accPoison := tabSet false u.accPoison r false }) u).nextInstr t

/-! ## MX.PASS -/

/-- A weight of the active block. -/
def Tile.weight (u : Tile) (k n : Nat) : Nat :=
  if u.wActive.isEmpty then 0
  else elemAt u.wActive (opElem u.mode u.wtE5).width (Config.weightIndex u.mode k n % (kDim u.mode * nDim u.mode))

/-- Bit offset in the scratchpad of an activation element; none: padding, outside the input (R210, Table 7-3). -/
def agdBit (desc : List Byte) (f : MxFields) (row k : Nat) : Option Nat :=
  let w := wordAt desc
  let pick := Config.agdPick desc f row k
  let along := fun (out win stride dil pad size : Nat) =>
    let x := out * (stride + 1) + win * (dil + 1)
    if pad ≤ x ∧ x - pad < size then some (x - pad) else none
  let y := along (pick.1 % max 1 (fld (w 0x18) 31 16)) (pick.2.2.1 % (fld (w 0) 23 20 + 1)) (fld (w 4) 1 0) (fld (w 4) 6 4) (fld (w 4) 12 10)
    (fld (w 8) 31 16)
  let x := along (pick.2.1 % max 1 (fld (w 0x18) 15 0)) (pick.2.2.2.1 % (fld (w 0) 27 24 + 1)) (fld (w 4) 3 2) (fld (w 4) 9 7) (fld (w 4) 18 16)
    (fld (w 8) 15 0)
  let c := pick.2.2.2.2 % max 1 (fld (w 0xC) 15 0)
  let width := ((elemOf (fld (w 0xC) 19 16)).map Elem.width).getD 8
  match y, x with
  | some y, some x => some ((8 * (fld (w 0) 19 0 + y * (w 0x10).toNat + x * (w 0x14).toNat) + c * width) % 0x800000)
  | _, _ => none

/-- An activation element; padding zeros are generated (R210). -/
def State.activation (s : State) (t : Nat) (desc : List Byte) (f : MxFields) (w row k : Nat) : Nat :=
  match agdBit desc f row k with
  | none => 0
  | some b => leNat (s.readBytes (t * 0x100000 + b / 8) 4) / 2 ^ (b % 8) % 2 ^ w

/-- The output element of row r and column n: products exact, sums in ascending K (R193). -/
def passElem (aE wE : Elem) (old : BitVec 48) (acts : List Nat) (wts : List Nat) : BitVec 48 :=
  match aE, wE with
  | .int a, .int b => (acts.zip wts).foldl (fun s e => s + BitVec.ofInt 48 (sext a e.1 * sext b e.2)) old
  | .fp a, .fp b =>
    BitVec.ofNat 48 ((acts.zip wts).foldl (fun s e => fF32.encode false ((f32 s).add ((a.decode e.1).mul (b.decode e.2)))) (old.toNat % 2 ^ 32))
  | _, _ => old

/-- A pass reads a descriptor beyond R210. -/
def agdOk (desc : List Byte) : Bool :=
  let w0 := wordAt desc 0
  let w1 := wordAt desc 4
  decide (fld w0 23 20 ≤ 10) && decide (fld w0 27 24 ≤ 10) && decide (fld w0 5 0 = 0) &&
  decide (fld w1 12 10 ≤ 5) && decide (fld w1 15 13 ≤ 5) && decide (fld w1 18 16 ≤ 5) && decide (fld w1 21 19 ≤ 5) &&
  (elemOf (fld (wordAt desc 0xC) 19 16)).isSome && decide (wordAt desc 0x1C = 0)

/-! ## Checksum codes (R203, R204) -/

/-- One attempt at a check block: by row its activations, what its accumulators held before and its outputs; the weights by column. -/
structure CkBlock where
  acts : List (List Nat)
  olds : List (List (BitVec 48))
  outs : List (List (BitVec 48))
  wts : List (List Nat)
  deriving DecidableEq, Repr

def flSum (l : List Fl) : Fl := l.foldl Fl.add (.fin false 0 0)

def Fl.abs : Fl → Fl
  | .fin _ m e => .fin false m e
  | .inf _ => .inf false
  | .nan => .nan

/-- The integer code of terms a × w on top of what the accumulators held, modulo 2^48. -/
def intCode (olds : List (BitVec 48)) (terms : List Int) : BitVec 48 :=
  olds.foldl (· + ·) (BitVec.ofInt 48 (terms.foldl (· + ·) 0))

/-- A code c and its recomputation e mismatch in a floating-point mode; S is the sum of the magnitudes involved. -/
def flMismatch (c e S : Fl) : Bool :=
  let special := fun (x : Fl) => x.isNan || x.isInf
  if special c || special e then !(c.isNan && e.isNan) && !(c.isInf && e.isInf && decide (c = e))
  else (((S.mul (.fin false 1 (-16))).add (.fin false 1 (-126)))).lt (c.add e.neg).abs

/-- A code compared with the outputs it covers: what the accumulators held, the products it sums, the outputs, bits flipped in the
code (R204). -/
def codeFails (aE wE : Elem) (olds outs : List (BitVec 48)) (terms : List (Nat × Nat)) (flip : BitVec 48) : Bool :=
  match aE, wE with
  | .int a, .int b =>
    (intCode olds (terms.map fun e => sext a e.1 * sext b e.2) ^^^ flip) != outs.foldl (· + ·) 0
  | .fp a, .fp b =>
    let products := terms.map fun e => (a.decode e.1).mul (b.decode e.2)
    let held := olds.map fun v => f32 (v.toNat % 2 ^ 32)
    let c := flSum (held ++ products)
    let c := if flip = 0 then c else f32 ((fF32.encode false c ^^^ flip.toNat) % 2 ^ 32)
    flMismatch c (flSum (outs.map fun v => f32 (v.toNat % 2 ^ 32))) (flSum ((held ++ products).map Fl.abs))
  | _, _ => false

/-- The rows whose column code and the columns whose row code fail in an attempt. -/
def CkBlock.fails (x : CkBlock) (aE wE : Elem) (colFlip rowFlip : Nat → BitVec 48) : List Nat × List Nat :=
  let rows := (List.range x.acts.length).filter fun r =>
    codeFails aE wE (x.olds.getD r []) (x.outs.getD r []) (x.wts.flatMap fun w => (x.acts.getD r []).zip w) (colFlip r)
  let cols := (List.range x.wts.length).filter fun n =>
    codeFails aE wE (x.olds.map (·.getD n 0)) (x.outs.map (·.getD n 0)) (x.acts.flatMap fun a => a.zip (x.wts.getD n [])) (rowFlip n)
  (rows, cols)

/-- The upsets of one attempt at one check block. -/
def upsetsAt (ups : List MxUpset) (block : Nat) (replay : Bool) : List MxUpset :=
  ups.filter fun u => match u with
    | .output b p _ _ _ | .columnCode b p _ _ | .rowCode b p _ _ | .parity b p _ _ => decide (b = block) && p == replay

/-- An attempt at a check block: its outputs with the bits that are flipped, and the column and row of a mismatch, 32 for the column code
and 0x3F for the row code. -/
def attempt (aE wE : Elem) (acts : List (List Nat)) (olds : List (List (BitVec 48))) (wts : List (List Nat)) (ups : List MxUpset) :
    List (List (BitVec 48)) × Option (Nat × Nat) :=
  let flips := fun (r n : Nat) => ups.foldl (fun (m : BitVec 48) u => match u with
    | .output _ _ r' n' x => if r'.val = r ∧ n'.val = n then m ^^^ x else m
    | _ => m) 0
  let colFlip := fun (r : Nat) => ups.foldl (fun (m : BitVec 48) u => match u with
    | .columnCode _ _ r' x => if r'.val = r then m ^^^ x else m
    | _ => m) 0
  let rowFlip := fun (n : Nat) => ups.foldl (fun (m : BitVec 48) u => match u with
    | .rowCode _ _ n' x => if n'.val = n then m ^^^ x else m
    | _ => m) 0
  let parity := ups.filterMap fun u => match u with
    | .parity _ _ r n => if r.val < acts.length ∧ n.val < wts.length then some (r.val, n.val) else none
    | _ => none
  let outs := (List.range acts.length).map fun r => (List.range wts.length).map fun n =>
    passElem aE wE ((olds.getD r []).getD n 0) (acts.getD r []) (wts.getD n []) ^^^ flips r n
  let f := CkBlock.fails ⟨acts, olds, outs, wts⟩ aE wE colFlip rowFlip
  let rows := f.1 ++ parity.map (·.1)
  let cols := f.2 ++ parity.map (·.2)
  (outs, if rows.isEmpty && cols.isEmpty then none else some (cols.headD 32, rows.headD 0x3F))

/-! ## Mismatches: replay and excusal (R207, R209) -/

/-- A mismatch is reported on the TILE and SECTION pages and to the Proctor (R207, Table 6-6). -/
def State.reportCk (s : State) (t outcome column row : Nat) (replayOk : Bool) : State :=
  let p := tileP t
  let s1 := s.bumpF p 0x058 31 16 1
  let s2 := if replayOk then s1.bumpF p 0x058 15 0 1 else s1
  let s3 := s2.setRegN p 0x05C (outcome * 0x10000000 + (s.tile t).mode * 0x1000000 + column * 0x100 + row)
  let s4 := ((s3.setReg64 p 0x060 (now s)).raise p 0).note 2 t t 0xFFFF outcome
  (s4.bumpF (sectP (t / 8)) 0x050 15 0 1).raise (sectP (t / 8)) 2

/-- The tile's previous mismatch lies at most 1 s back. -/
def State.recentMismatch (s : State) (t : Nat) : Bool :=
  match (s.tile t).lastMismatch with
  | some m => decide (now s ≤ m + 1000000000)
  | none => false

/-- A mismatch with the outcome of its replay: whether the block commits; where it does not, the tile is Excused. -/
def State.judgeMismatch (s : State) (t column row : Nat) (replayOk : Bool) : Bool × State :=
  if s.recentMismatch t || !replayOk then (false, (s.reportCk t 2 column row false).excuseTile t 1)
  else (true, (s.reportCk t 1 column row true).modTile t fun u => { u with lastMismatch := some (now s) })

/-- A pending injection meets the next check block: its mismatch is replayed, or dropped where a real one occurs (R209). -/
def State.takeInject (s : State) (t : Nat) (real : Bool) : State :=
  match (s.tile t).inject with
  | some (row, col) => (s.reportCk t 3 col row (!real)).modTile t fun u => { u with inject := none }
  | none => s

/-! ## MX.PASS -/

/-- Rows of the check blocks of a pass of L rows. -/
def blockRows (L b : Nat) : List Nat := (List.range (min 64 (L - 64 * b))).map fun r => 64 * b + r

/-- The check blocks of a pass from the one its progress names, each read, checked, replayed if need be, and committed (R203 to R207).
-/
def State.passBlocks (s : State) (t : Nat) (f : MxFields) (desc : List Byte) (ups : List MxUpset) : Nat → State
  | 0 => s.nextInstr t
  | k + 1 =>
    let u := s.tile t
    let b := u.progress
    let aE := opElem u.mode u.actE5
    let wE := opElem u.mode u.wtE5
    let rows := blockRows (f.rows1.toNat + 1) b
    let cols := List.range (nDim u.mode)
    let ks := List.range (kDim u.mode)
    let at' := fun (r : Nat) => (f.row0.toNat + r) % 256
    let rs := (rows.flatMap fun r => ks.filterMap fun k => agdBit desc f r k).map fun b => (b / 8, (b % 8 + aE.width + 7) / 8)
    match s.engineRead t clsWide f.tag.toNat rs with
    | .error s' => s'
    | .ok (bad, s1) =>
      let s2 := s1.setRegN (tileP t) 0x054 (min (s1.regN (tileP t) 0x054 + rows.length + 1) 0xFFFFFFFF)
      let acts := rows.map fun r => ks.map fun k => s.activation t desc f aE.width r k
      let olds := rows.map fun r => cols.map fun n => if f.accumulate then u.getAcc (at' r) n else 0
      let wts := cols.map fun n => ks.map fun k => u.weight k n
      let first := attempt aE wE acts olds wts (upsetsAt ups b false)
      let s3 := s2.takeInject t first.2.isSome
      let again := attempt aE wE acts olds wts (upsetsAt ups b true)
      let x := match first.2 with
        | none => (true, s3)
        | some e => s3.judgeMismatch t e.1 e.2 again.2.isNone
      if !x.1 then x.2
      else
        let outs := if first.2.isNone then first.1 else again.1
        let rowOf := fun (v : Tile) (e : Nat × List (BitVec 48)) =>
          let mark := bad || u.wPoison || (f.accumulate && tabGet false v.accPoison (at' e.1))
          let w := ((List.range e.2.length).zip e.2).foldl (fun w c => w.setAcc (at' e.1) c.1 c.2) v
          { w with accPoison := tabSet false w.accPoison (at' e.1) mark }
        let bank := (rows.zip outs).foldl rowOf (x.2.tile t)
        let s4 := x.2.modTile t fun _ => { bank with progress := b + 1 }
        (s4.engineReadDone t clsWide f.tag.toNat rs).passBlocks t f desc ups k

/-- Address of the descriptor a pass names (Tables 7-1 and 7-3). -/
def State.agdAt (s : State) (t : Nat) (f : MxFields) : Nat :=
  ((s.partOn t).map (·.image)).getD 0 + s.imageWord t 0x2C + 32 * f.agd.toNat

/-- MX.PASS with the upsets of the array. -/
def mxPass (t : Nat) (f : MxFields) (ups : List MxUpset) (s : State) : State :=
  let da := s.agdAt t f
  if !mxReadTagOk f then s.illegal t
  else match s.fetchAll t [(((s.partOn t).map (·.image)).getD 0 + 0x2C, 4), (da, 32)] with
  | .error s0 => s0
  | .ok s0 =>
  if !agdOk (s.readBytes da 32) then s0.illegal t
  else s0.passBlocks t f (s.readBytes da 32) ups ((f.rows1.toNat + 1 + 63) / 64 - (s.tile t).progress)

/-! ## MX.OUT: the output stage (R195, R196) -/

/-- Address of a value of the per-channel table. -/
def State.chanAt (s : State) (t field ch : Nat) : Nat := (s.tile t).chanTable + Config.chanOffset (s.tile t).outFmt field ch

/-- A value of the per-channel table, n bytes; zeros outside the grants (R124). -/
def State.chanValue (s : State) (t field ch n : Nat) : Nat :=
  if s.reachesAll (s.hrOn t) (s.chanAt t field ch) n then s.readNat (s.chanAt t field ch) n else 0

/-- The values of the per-channel table an output format uses, with their bytes. -/
def chanFields (fmt : Nat) : List (Nat × Nat) :=
  match elemOf fmt with
  | some (.int _) => [(0, 4), (1, 4), (2, 1), (4, 4), (5, 4), (6, 2)]
  | some (.fp _) => [(0, 4), (3, 4), (4, 4), (5, 4)]
  | none => []

/-- What an MX.OUT reads of the per-channel table. -/
def State.chanRanges (s : State) (t : Nat) : List (Nat × Nat) :=
  (List.range (nDim (s.tile t).mode)).flatMap fun ch => (chanFields (s.tile t).outFmt).map fun e => (s.chanAt t e.1 ch, e.2)

/-- The reads of the per-channel table meet the errors that stand there; one outside the grants is a violation (R124, R177). -/
def State.lookChan (s : State) (t : Nat) : State :=
  let h := s.hrOn t
  let s1 := ((s.chanRanges t).filter fun e => s.reachesAll h e.1 e.2).foldl (fun s e => s.seeErrors e.1 e.2 t clsStream) s
  match (s.chanRanges t).find? fun e => !s.reachesAll h e.1 e.2 with
  | some e => s1.sramViolation t h e.1
  | none => s1

/-- Some of the per-channel table comes poisoned. -/
def State.chanBad (s : State) (t : Nat) : Bool :=
  (s.chanRanges t).any fun e => !s.reachesAll (s.hrOn t) e.1 e.2 || s.rangePoison e.1 e.2

/-- One element for an integer format of b bits (R195), and whether it counts an ACC_SAT event. -/
def outInt (b : Nat) (acc : BitVec 48) (bias mult : Int) (sh : Nat) (zp lo hi : Int) : Nat × Bool :=
  let v := sext 48 acc.toNat
  let a := clampInt (intMin 32) (intMax 32) v
  let p := (a + bias) * mult
  let p := if 0 < sh then p + ((2 ^ (sh - 1) : Nat) : Int) else p
  let p := p / ((2 ^ sh : Nat) : Int) + zp
  let y := clampInt (max lo (intMin b)) (min hi (intMax b)) p
  let cut := (decide (p < intMin b) && decide (lo ≤ intMin b)) || (decide (intMax b < p) && decide (intMax b ≤ hi))
  (wrapBits b y, decide (a ≠ v) || cut)

/-- One element for a floating-point format (R196), and whether it counts an FP_NAN event. -/
def outFp (g : FpFmt) (sat : Bool) (acc : Fl) (scale bias lo hi : Nat) : Nat × Bool :=
  let y := fF32.encode false ((acc.mul (f32 scale)).add (f32 bias))
  let y := if (f32 y).lt (f32 lo) then lo else if (f32 hi).lt (f32 y) then hi else y
  let r := g.encode sat (f32 y)
  (r, (g.decode r).isNan)

/-- One output element and its events: ACC_SAT, FP_NAN. -/
def State.outElem (s : State) (t row n : Nat) : Nat × Bool × Bool :=
  let u := s.tile t
  let acc := u.getAcc row n
  let v32 := fun field => s.chanValue t field n 4
  match elemOf u.outFmt with
  | some (.int b) =>
    let x := outInt b acc (sext 32 (v32 0)) (sext 32 (v32 1)) (s.chanValue t 2 n 1 % 64) (sext 16 (s.chanValue t 6 n 2)) (sext 32 (v32 4))
      (sext 32 (v32 5))
    (x.1, x.2, false)
  | some (.fp g) =>
    let a := if intMode u.mode then ofInt (sext 48 acc.toNat) else f32 (acc.toNat % 2 ^ 32)
    let x := outFp g u.satBit a (v32 3) (v32 0) (v32 4) (v32 5)
    (x.1, false, x.2)
  | none => (0, false, false)

/-- Packs elements of w bits, least significant first. -/
def packElems (w : Nat) (l : List Nat) : List Byte :=
  leBytes (w * l.length / 8) (l.reverse.foldl (fun acc e => acc * 2 ^ w + e % 2 ^ w) 0)

/-- MX.OUT. A parity error as it reads the accumulators is a checksum mismatch (R194). -/
def mxOut (t : Nat) (f : MxFields) (parity : Option AccParity) (s : State) : State :=
  let u := s.tile t
  let w := ((elemOf u.outFmt).map Elem.width).getD 8
  let rows := accRows f
  let elems := rows.map fun r => (List.range (nDim u.mode)).map fun n => s.outElem t r n
  let bytes := elems.flatMap fun l => packElems w (l.map (·.1))
  let sats := elems.foldl (fun k l => k + (l.filter fun e => e.2.1).length) 0
  let nans := elems.foldl (fun k l => k + (l.filter fun e => e.2.2).length) 0
  let bad := s.chanBad t || rows.any fun r => tabGet false u.accPoison r
  let off := 256 * f.off.toNat
  let at' := (bytes.take (0x100000 - off))
  let x := match parity with
    | none => (true, s)
    | some e => s.judgeMismatch t e.column.val e.row.val e.replayMatches
  if !mxWriteTagOk f then s.illegal t
  else if !x.1 then x.2
  else match x.2.engineWrite t clsWide f.tag.toNat off at' bad with
    | .error s' => s'
    | .ok s1 =>
      let p := tileP t
      let s2 := if sats = 0 then s1 else (s1.bumpF p 0x068 31 16 sats).raise p 1
      let s3 := if nans = 0 then s2 else (s2.bumpF p 0x068 15 0 nans).raise p 2
      (s3.lookChan t).nextInstr t

/-! ## The commands -/

/-- MX_CFG. -/
def execMxCfg (t : Fin 32) (f : MxFields) (s : State) : Host.Outcome State Fault Refusal := done (s.issue t.val (.mxCfg t f) (mxCfg t.val f))

/-- MX_LDW. -/
def execMxLdw (t : Fin 32) (f : MxFields) (s : State) : Host.Outcome State Fault Refusal := done (s.issue t.val (.mxLdw t f) (mxLdw t.val f))

/-- MX_SWAP. -/
def execMxSwap (t : Fin 32) (f : MxFields) (s : State) : Host.Outcome State Fault Refusal := done (s.issue t.val (.mxSwap t f) (mxSwap t.val))

/-- MX_PASS. -/
def execMxPass (t : Fin 32) (f : MxFields) (ups : List MxUpset) (s : State) : Host.Outcome State Fault Refusal :=
  done (s.issue t.val (.mxPass t f ups) (mxPass t.val f ups))

/-- MX_OUT. -/
def execMxOut (t : Fin 32) (f : MxStore) (s : State) : Host.Outcome State Fault Refusal :=
  done (s.issue t.val (.mxOut t f) (mxOut t.val f.fields f.parity))

/-- MX_ZACC. -/
def execMxZacc (t : Fin 32) (f : MxFields) (s : State) : Host.Outcome State Fault Refusal := done (s.issue t.val (.mxZacc t f) (mxZacc t.val f))

end Sys2Proof.Machine
end

