-- ==== Sys2Proof/Machine/Vxe.lean ====
section
/-!
DEFINITION. The Vector Engine (section 6.1.3): vector registers as rows of elements of the instruction's format, and the VX
instructions. Which operand a field names beyond Table 7-6 is a DESIGN CHOICE (log entry 23).
-/

namespace Sys2Proof.Machine

/-! ## Vector registers -/

def Tile.getV (u : Tile) (r : Nat) : BitVec 2048 := tabGet 0 u.vregs r

def Tile.setV (u : Tile) (r : Nat) (v : BitVec 2048) (poisoned : Bool) : Tile :=
  { u with vregs := tabSet 0 u.vregs r v, vPoison := tabSet false u.vPoison r poisoned }

def Tile.vBad (u : Tile) (r : Nat) : Bool := tabGet false u.vPoison r

/-- Element i of w bits. -/
def velem (v : BitVec 2048) (w i : Nat) : Nat := v.toNat / 2 ^ (w * i) % 2 ^ w

def velems (v : BitVec 2048) (w : Nat) : List Nat := (List.range (2048 / w)).map (velem v w)

/-- A vector from its elements. -/
def vpack (w : Nat) (l : List Nat) : BitVec 2048 := BitVec.ofNat 2048 (l.reverse.foldl (fun acc e => acc * 2 ^ w + e % 2 ^ w) 0)

/-- Replaces k consecutive elements from i. -/
def vreplace (v : BitVec 2048) (w i : Nat) (l : List Nat) : BitVec 2048 :=
  vpack w ((velems v w).take i ++ l ++ (velems v w).drop (i + l.length))

/-- The instruction's format, where it is not reserved. -/
def withFmt (t : Nat) (f : VxFields) (s : State) (g : Elem → State) : State :=
  match elemOf f.fmt.toNat with
  | none => s.illegal t
  | some e => g e

/-- Writes vd, whose poison is that of the sources named. -/
def State.putV (s : State) (t : Nat) (f : VxFields) (srcs : List (BitVec 5)) (v : BitVec 2048) : State :=
  (s.modTile t fun u => u.setV f.vd.toNat v (srcs.any fun r => u.vBad r.toNat)).nextInstr t

def State.getV (s : State) (t : Nat) (r : BitVec 5) : BitVec 2048 := (s.tile t).getV r.toNat

/-! ## Element operations -/

/-- An integer result: itself where it fits its element, else unspecified. -/
def fitInt (b : Nat) (i : Int) : Nat :=
  if intMin b ≤ i ∧ i ≤ intMax b then wrapBits b i else Config.vxIntOverflow b i % 2 ^ b

def elemAdd (e : Elem) (a b : Nat) : Nat :=
  match e with
  | .int n => fitInt n (sext n a + sext n b)
  | .fp g => g.encode false ((g.decode a).add (g.decode b))

def elemSub (e : Elem) (a b : Nat) : Nat :=
  match e with
  | .int n => fitInt n (sext n a - sext n b)
  | .fp g => g.encode false ((g.decode a).add (g.decode b).neg)

def elemLt (e : Elem) (a b : Nat) : Bool :=
  match e with
  | .int n => decide (sext n a < sext n b)
  | .fp g => (g.decode a).lt (g.decode b)

def elemEq (e : Elem) (a b : Nat) : Bool :=
  match e with
  | .int n => decide (a % 2 ^ n = b % 2 ^ n)
  | .fp g => (g.decode a).eqv (g.decode b)

/-- Minimum or maximum. -/
def elemMinMax (e : Elem) (maximum : Bool) (a b : Nat) : Nat :=
  match e with
  | .int n => if decide (sext n a < sext n b) != maximum then a else b
  | .fp g =>
    let x := g.decode a
    let y := g.decode b
    if x.isNan || y.isNan || (x.isZero && y.isZero && decide (a ≠ b)) then Config.vxMinMax g.width maximum a b % 2 ^ g.width
    else if x.lt y != maximum then a else b

/-- a × b + c, rounded once. -/
def elemFma (e : Elem) (a b c : Nat) : Nat :=
  match e with
  | .int n => fitInt n (sext n a * sext n b + sext n c)
  | .fp g => g.encode false (((g.decode a).mul (g.decode b)).add (g.decode c))

/-- A shift of an element of w bits by an amount: 0 left, 1 right logical, 2 right arithmetic. -/
def elemShift (w op a n : Nat) : Nat :=
  if w ≤ n then Config.overShift w op a n % 2 ^ w
  else match op with
    | 0 => a * 2 ^ n % 2 ^ w
    | 1 => a / 2 ^ n
    | _ => wrapBits w (sext w a / ((2 ^ n : Nat) : Int))

/-- One element of VX.ALU. -/
def aluElem (op : VxAluOp) (e : Elem) (a b : Nat) : Nat :=
  let w := e.width
  match op with
  | .add => elemAdd e a b
  | .sub => elemSub e a b
  | .min => elemMinMax e false a b
  | .max => elemMinMax e true a b
  | .cmpEq => Config.cmpValue w (elemEq e a b) % 2 ^ w
  | .cmpLt => Config.cmpValue w (elemLt e a b) % 2 ^ w
  | .and => a &&& b
  | .or => a ||| b
  | .xor => a ^^^ b
  | .shl => elemShift w 0 a b
  | .shrLogical => elemShift w 1 a b
  | .shrArith => elemShift w 2 a b

/-- The IEEE 754 special results of the table functions; none: an ordinary operand (R197). -/
def fnSpecial (op : VxFnOp) (x : Fl) : Option Nat :=
  let inf := fF32.infBits
  let one := 0x3F800000
  let neg := 0x80000000
  match x with
  | .nan => some fF32.nanBits
  | .inf n => some (match op with
    | .exp | .exp2 => if n then 0 else inf
    | .log2 => if n then fF32.nanBits else inf
    | .sigmoid => if n then 0 else one
    | .tanh => if n then neg + one else one
    | .recip => if n then neg else 0
    | .rsqrt => if n then fF32.nanBits else 0)
  | .fin n m _ =>
    if m = 0 then (match op with
      | .exp | .exp2 => some one
      | .log2 => some (neg + inf)
      | .recip | .rsqrt => some (if n then neg + inf else inf)
      | .tanh => some (if n then neg else 0)
      | .sigmoid => none)
    else if n then (match op with
      | .log2 | .rsqrt => some fF32.nanBits
      | _ => none)
    else none

def fnElem (op : VxFnOp) (x : Nat) : Nat := (fnSpecial op (f32 x)).getD (fnTable op x)

/-- The Q32 product of a lane with a right shift (R202): the exact product, rounded as the Loop Engine rounds, saturated. -/
def qmulLane (a b sh : Nat) : Nat :=
  let p := sext 32 a * sext 32 b
  let k := sh % 32
  let r := if k = 0 then p else (p + ((2 ^ (k - 1) : Nat) : Int)) / ((2 ^ k : Nat) : Int)
  wrapBits 32 (clampInt (intMin 32) (intMax 32) r)

/-! ## Loads and stores -/

def vxTagOk (write : Bool) (f : VxFields) : Bool := decide (f.tag.toNat ≤ if write then 1 else 2)

def vxLd (t : Nat) (f : VxFields) (s : State) : State :=
  withFmt t f s fun _ =>
    if !vxTagOk false f then s.illegal t
    else
      let rs := [(64 * f.off.toNat, 64)]
      match s.engineRead t clsNarrow f.tag.toNat rs with
      | .error s' => s'
      | .ok (bad, s1) =>
        ((s1.engineReadDone t clsNarrow f.tag.toNat rs).modTile t fun u =>
          u.setV f.vd.toNat (vreplace (u.getV f.vd.toNat) 8 (64 * f.quarter.toNat) ((s.readScratch t rs).map (·.toNat)))
            (bad || u.vBad f.vd.toNat)).nextInstr t

def vxSt (t : Nat) (f : VxFields) (s : State) : State :=
  withFmt t f s fun _ =>
    if !vxTagOk true f then s.illegal t
    else
      let bytes := (((velems (s.getV t f.vd) 8).drop (64 * f.quarter.toNat)).take 64).map (BitVec.ofNat 8)
      match s.engineWrite t clsNarrow f.tag.toNat (64 * f.off.toNat) bytes ((s.tile t).vBad f.vd.toNat) with
      | .error s' => s'
      | .ok s1 => s1.nextInstr t

/-! ## Arithmetic -/

/-- Combines the elements of two registers. -/
def zip2 (w : Nat) (g : Nat → Nat → Nat) (a b : BitVec 2048) : BitVec 2048 :=
  vpack w ((List.range (2048 / w)).map fun i => g (velem a w i) (velem b w i))

def zip3 (w : Nat) (g : Nat → Nat → Nat → Nat) (a b c : BitVec 2048) : BitVec 2048 :=
  vpack w ((List.range (2048 / w)).map fun i => g (velem a w i) (velem b w i) (velem c w i))

def vxAlu (t : Nat) (op : VxAluOp) (f : VxFields) (s : State) : State :=
  withFmt t f s fun e => s.putV t f [f.va, f.vb] (zip2 e.width (aluElem op e) (s.getV t f.va) (s.getV t f.vb))

def vxFma (t : Nat) (f : VxFields) (s : State) : State :=
  withFmt t f s fun e => s.putV t f [f.va, f.vb, f.vc] (zip3 e.width (elemFma e) (s.getV t f.va) (s.getV t f.vb) (s.getV t f.vc))

def vxFn (t : Nat) (op : VxFnOp) (f : VxFields) (s : State) : State :=
  withFmt t f s fun _ => s.putV t f [f.va] (vpack 32 ((velems (s.getV t f.va) 32).map (fnElem op)))

/-- The 64 source elements start at 64 × quarter within va, the results at 64 × quarter within vd, each modulo what a register
holds of its format. -/
def vxCvt (t : Nat) (f : VxFields) (dst : BitVec 4) (sat : Bool) (s : State) : State :=
  withFmt t f s fun e => match elemOf dst.toNat with
    | none => s.illegal t
    | some d =>
      let from' := 64 * f.quarter.toNat % (2048 / e.width)
      let to' := 64 * f.quarter.toNat % (2048 / d.width)
      let l := (List.range 64).map fun i => convert e d sat (velem (s.getV t f.va) e.width (from' + i))
      s.putV t f [f.va, f.vd] (vreplace (s.getV t f.vd) d.width to' l)

def vxQmul (t : Nat) (f : VxFields) (s : State) : State :=
  withFmt t f s fun _ => s.putV t f [f.va, f.vb, f.vc] (zip3 32 qmulLane (s.getV t f.va) (s.getV t f.vb) (s.getV t f.vc))

def vxMac8 (t : Nat) (f : VxFields) (s : State) : State :=
  withFmt t f s fun _ =>
    let lane := fun (i : Nat) =>
      fitInt 32 ((List.range 4).foldl (fun acc k => acc + sext 8 (velem (s.getV t f.va) 8 (4 * i + k)) * sext 8 (velem (s.getV t f.vb) 8 (4 * i + k)))
        (sext 32 (velem (s.getV t f.vc) 32 i)))
    s.putV t f [f.va, f.vb, f.vc] (vpack 32 ((List.range 64).map lane))

/-- Combines lane l with lane l + half, halving until one lane is left (R230). -/
def laneTree (g : Nat → Nat → Nat) : Nat → List Nat → Nat
  | 0, l => l.headD 0
  | k + 1, l => laneTree g k ((List.range (2 ^ k)).map fun i => g (l.getD i 0) (l.getD (i + 2 ^ k) 0))

/-- The result stands in lane 0 of vd; the manual does not say what the other lanes hold. -/
def vxLred (t : Nat) (f : VxFields) (maximum : Bool) (s : State) : State :=
  withFmt t f s fun e =>
    let e32 : Elem := match e with
      | .fp _ => .fp fF32
      | .int _ => .int 32
    let g := if maximum then elemMinMax e32 true else match e32 with
      | .int _ => fun a b => (a + b) % 2 ^ 32
      | .fp _ => elemAdd e32
    let r := laneTree g 6 (velems (s.getV t f.va) 32)
    s.putV t f [f.va] (vpack 32 (r :: (List.range 63).map fun i => (Config.lredLane maximum (s.getV t f.va) (i + 1)).toNat))

def vxSel (t : Nat) (f : VxFields) (s : State) : State :=
  withFmt t f s fun e =>
    s.putV t f [f.va, f.vb, f.vc]
      (zip3 e.width (fun a b m => if Config.maskSelects m then a else b) (s.getV t f.va) (s.getV t f.vb) (s.getV t f.vc))

/-- The constant is the 64-byte entry of the image's constants that the offset field numbers; byte l names the source lane of
lane l. -/
def vxPerm (t : Nat) (f : VxFields) (s : State) : State :=
  withFmt t f s fun _ =>
    let image := ((s.partOn t).map (·.image)).getD 0
    let at' := image + s.imageWord t 0x3C + 64 * f.off.toNat
    match s.fetchAll t [(image + 0x3C, 4), (at', 64)] with
    | .error s0 => s0
    | .ok s0 =>
      let c := s.readBytes at' 64
      s0.putV t f [f.va] (vpack 32 ((List.range 64).map fun i => velem (s.getV t f.va) 32 (byteAt c i % 64)))

/-- Index of the largest lane, ties to the lowest index; unspecified where a lane is NaN. -/
def argmaxLane (e : Elem) (l : List Nat) : Nat :=
  ((List.range l.length).foldl (fun (best : Nat) i => if elemLt e (l.getD best 0) (l.getD i 0) then i else best) 0)

def vxArgmax (t : Nat) (f : VxFields) (s : State) : State :=
  withFmt t f s fun e =>
    let e32 : Elem := match e with
      | .fp _ => .fp fF32
      | .int _ => .int 32
    let l := velems (s.getV t f.va) 32
    let anyNan := match e32 with
      | .fp g => l.any fun x => (g.decode x).isNan
      | .int _ => false
    let bad := (s.tile t).vBad f.va.toNat
    if anyNan then (s.setSP t f.sr.toNat (Config.argmaxNan (s.getV t f.va)) bad).nextInstr t
    else (s.setSP t f.sr.toNat (word (argmaxLane e32 l)) bad).nextInstr t

/-! ## Atomic adds into Commons -/

/-- Adds va, lane by lane, into the 256 bytes at the address in the scalar register, in ascending lanes. -/
def vxAtomic (t : Fin 32) (f : VxFields) (add : Nat → Nat → Nat) (s : State) : State :=
  let h := s.hrOn t.val
  let a := 64 * (s.getS t.val f.sr.toNat).toNat
  let v := s.getV t.val f.va
  let bad := (s.tile t.val).vBad f.va.toNat
  let x := (List.range 4).foldl (fun (x : Bool × State) q =>
    let got := x.2.streamRead (.tile t) h (a + 64 * q) 64
    let l := (List.range 16).map fun i => add (leNat ((got.1.data.drop (4 * i)).take 4)) (velem v 32 (16 * q + i))
    if got.1.clash then (true, got.2)
    else (x.1, (got.2.streamWrite (.tile t) h (a + 64 * q) (packElems 32 l) (got.1.poisoned || bad)).2)) (false, s)
  if x.1 then x.2.partFault t.val 0x61 else x.2.nextInstr t.val

def vxAtaddi (t : Fin 32) (f : VxFields) (s : State) : State :=
  withFmt t.val f s fun _ => vxAtomic t f (fun a b => (a + b) % 2 ^ 32) s

def vxAtaddf (t : Fin 32) (f : VxFields) (s : State) : State :=
  withFmt t.val f s fun _ => vxAtomic t f f32add (s.countChoice t.val)

/-! ## Parity of the vector registers (R198) -/

/-- A parity error: a Part image fault, a note to the Proctor, and toward excusal what a checksum mismatch is. -/
def State.vxParity (s : State) (t : Nat) : State :=
  let s1 := (s.partFault t 0x69).note 2 t t 0xFFFF 0x69
  if s.recentMismatch t then s1.excuseTile t 1 else s1.modTile t fun u => { u with lastMismatch := some (now s) }

/-- A VX instruction as it reads its vector registers. -/
def vxGuard (t : Nat) (f : VxFields) (g : State → State) (s : State) : State := if f.parity then s.vxParity t else g s

/-! ## The commands -/

/-- VX_LD. -/
def execVxLd (t : Fin 32) (f : VxFields) (s : State) : Host.Outcome State Fault Refusal := done (s.issue t.val (.vxLd t f) (vxGuard t.val f (vxLd t.val f)))

/-- VX_ST. -/
def execVxSt (t : Fin 32) (f : VxFields) (s : State) : Host.Outcome State Fault Refusal := done (s.issue t.val (.vxSt t f) (vxGuard t.val f (vxSt t.val f)))

/-- VX_ALU. -/
def execVxAlu (t : Fin 32) (op : VxAluOp) (f : VxFields) (s : State) : Host.Outcome State Fault Refusal :=
  done (s.issue t.val (.vxAlu t op f) (vxGuard t.val f (vxAlu t.val op f)))

/-- VX_FMA. -/
def execVxFma (t : Fin 32) (f : VxFields) (s : State) : Host.Outcome State Fault Refusal := done (s.issue t.val (.vxFma t f) (vxGuard t.val f (vxFma t.val f)))

/-- VX_FN. -/
def execVxFn (t : Fin 32) (op : VxFnOp) (f : VxFields) (s : State) : Host.Outcome State Fault Refusal :=
  done (s.issue t.val (.vxFn t op f) (vxGuard t.val f (vxFn t.val op f)))

/-- VX_CVT. -/
def execVxCvt (t : Fin 32) (f : VxFields) (dst : BitVec 4) (sat : Bool) (s : State) : Host.Outcome State Fault Refusal :=
  done (s.issue t.val (.vxCvt t f dst sat) (vxGuard t.val f (vxCvt t.val f dst sat)))

/-- VX_QMUL. -/
def execVxQmul (t : Fin 32) (f : VxFields) (s : State) : Host.Outcome State Fault Refusal := done (s.issue t.val (.vxQmul t f) (vxGuard t.val f (vxQmul t.val f)))

/-- VX_MAC8. -/
def execVxMac8 (t : Fin 32) (f : VxFields) (s : State) : Host.Outcome State Fault Refusal := done (s.issue t.val (.vxMac8 t f) (vxGuard t.val f (vxMac8 t.val f)))

/-- VX_LRED. -/
def execVxLred (t : Fin 32) (f : VxFields) (maximum : Bool) (s : State) : Host.Outcome State Fault Refusal :=
  done (s.issue t.val (.vxLred t f maximum) (vxGuard t.val f (vxLred t.val f maximum)))

/-- VX_SEL. -/
def execVxSel (t : Fin 32) (f : VxFields) (s : State) : Host.Outcome State Fault Refusal := done (s.issue t.val (.vxSel t f) (vxGuard t.val f (vxSel t.val f)))

/-- VX_PERM. -/
def execVxPerm (t : Fin 32) (f : VxFields) (s : State) : Host.Outcome State Fault Refusal := done (s.issue t.val (.vxPerm t f) (vxGuard t.val f (vxPerm t.val f)))

/-- VX_ARGMAX. -/
def execVxArgmax (t : Fin 32) (f : VxFields) (s : State) : Host.Outcome State Fault Refusal :=
  done (s.issue t.val (.vxArgmax t f) (vxGuard t.val f (vxArgmax t.val f)))

/-- VX_ATADDI. -/
def execVxAtaddi (t : Fin 32) (f : VxFields) (s : State) : Host.Outcome State Fault Refusal :=
  done (s.issue t.val (.vxAtaddi t f) (vxGuard t.val f (vxAtaddi t f)))

/-- VX_ATADDF. -/
def execVxAtaddf (t : Fin 32) (f : VxFields) (s : State) : Host.Outcome State Fault Refusal :=
  done (s.issue t.val (.vxAtaddf t f) (vxGuard t.val f (vxAtaddf t f)))

end Sys2Proof.Machine
end

