-- ==== Sys2Proof/Machine/TileOps.lean ====
section
/-!
DEFINITION. The MV, SY, CT and CK instructions (section 7.4). Operand roles that Table 7-6 leaves open are a DESIGN CHOICE
(log entry 23).
-/

namespace Sys2Proof.Machine

/-! ## MV -/

/-- A scratchpad address outside the tile's group (Table 7-9). -/
def State.outOfGroup (s : State) (t a : Nat) : Bool :=
  match levelAt s.chip.grade a with
  | .tile u _ => !(((s.partOn t).map (·.group)).getD []).contains u
  | _ => false

def mvTagsOk (f : MvFields) : Bool := decide (f.stag.toNat ≤ 2) && decide (f.dtag.toNat ≤ 1)

/-- Moves units i, i + 1, … from addresses to addresses. A unit that has to wait for a tag leaves the tile waiting with the
units before it moved. -/
def mvUnits (t : Fin 32) (f : MvFields) (src : Nat → Nat) (dst total : Nat) : Nat → Nat → State → State
  | 0, _, s => s.nextInstr t.val
  | k + 1, i, s =>
    let h := s.hrOn t.val
    let a := src i
    let b := dst + 64 * i
    let waitOn := fun (write : Bool) (x : Nat) => match levelAt s.chip.grade x with
      | .tile _ off => s.modTile t.val fun u => { u with wait := .tag write clsStream (off / 128), progress := i }
      | _ => s
    if s.reachesAll h a 64 && !s.sideClashes a && s.sideWaits false f.stag.toNat a then waitOn false a
    else if s.reachesAll h b 64 && !s.sideClashes b && s.sideWaits true f.dtag.toNat b then waitOn true b
    else
      let reachA := s.reachesAll h a 64
      let got := s.streamRead (.tile t) h a 64
      if got.1.clash then got.2.partFault t.val 0x61
      else
        let s1 := if !reachA then got.2
          else match levelAt s.chip.grade a with
            | .tile u off => if off % 128 = 64 ∨ i + 1 = total then got.2.afterRead f.stag.toNat u [off / 128] else got.2
            | _ => got.2
        let reachB := s1.reachesAll h b 64
        let wr := s1.streamWrite (.tile t) h b got.1.data got.1.poisoned
        if wr.1 then wr.2.partFault t.val 0x61
        else
          let s2 := if reachB then wr.2.afterSide true f.dtag.toNat b else wr.2
          if (s2.tile t.val).act.isSome then mvUnits t f src dst total k (i + 1) s2 else s2

def mvCopy (t : Fin 32) (f : MvFields) (s : State) : State :=
  let a := 64 * (s.getS t.val f.sa.toNat).toNat
  let b := 64 * (s.getS t.val f.da.toNat).toNat
  let n := f.units1.toNat + 1
  let i := (s.tile t.val).progress
  if !mvTagsOk f then s.illegal t.val
  else if (List.range n).any fun k => s.outOfGroup t.val (a + 64 * k) || s.outOfGroup t.val (b + 64 * k) then s.partFault t.val 0x66
  else mvUnits t f (fun k => a + 64 * k) b n (n - i) i s

/-- The index list, read in units of 64 bytes within the grants (R123). -/
def State.gatherList (s : State) (t : Fin 32) (h a n : Nat) : Got × State :=
  (List.range ((4 * n + 63) / 64)).foldl (fun x k =>
    let y := x.2.streamRead (.tile t) h (a + 64 * k) 64
    (⟨x.1.data ++ y.1.data, x.1.poisoned || y.1.poisoned, x.1.clash || y.1.clash⟩, y.2)) (⟨[], false, false⟩, s)

/-- The index list stands at the source address: one word for each unit, its SRAM address / 64. -/
def mvGather (t : Fin 32) (f : MvFields) (s : State) : State :=
  let a := 64 * (s.getS t.val f.sa.toNat).toNat
  let b := 64 * (s.getS t.val f.da.toNat).toNat
  let n := f.units1.toNat + 1
  let i := (s.tile t.val).progress
  let x := s.gatherList t (s.hrOn t.val) a n
  let s1 := if i = 0 then x.2 else s
  let list := (List.range n).map fun k => 64 * leNat ((x.1.data.drop (4 * k)).take 4)
  if !mvTagsOk f then s.illegal t.val
  else if x.1.clash then s1.partFault t.val 0x61
  else if s.outOfGroup t.val a || (List.range n).any fun k => s.outOfGroup t.val (list.getD k 0) || s.outOfGroup t.val (b + 64 * k) then
    s1.partFault t.val 0x66
  else mvUnits t f (fun k => list.getD k 0) b n (n - i) i s1

/-- Tiles of a tile's own Section that a position mask names. -/
def maskTiles (t mask : Nat) : List Nat := ((List.range 8).filter fun k => mask.testBit k).map fun k => t / 8 * 8 + k

/-- Section broadcast (R212). A clash affects only its destination tile. -/
def mvBcast (t : Fin 32) (f : MvFields) (s : State) : State :=
  let h := s.hrOn t.val
  let a := 64 * (s.getS t.val f.sa.toNat).toNat
  let off := 64 * (s.getS t.val f.da.toNat).toNat % 0x100000
  let dests := maskTiles t.val f.mask.toNat
  let group := ((s.partOn t.val).map (·.group)).getD []
  let n := f.units1.toNat + 1
  let units := List.range n
  if !mvTagsOk f then s.illegal t.val
  else if (dests.any fun u => !group.contains u) || decide (0x100000 < off + 64 * n) || (units.any fun k => s.outOfGroup t.val (a + 64 * k)) then
    s.partFault t.val 0x66
  else if units.any fun k => s.reachesAll h (a + 64 * k) 64 && !s.sideClashes (a + 64 * k) && s.sideWaits false f.stag.toNat (a + 64 * k) then
    s.modTile t.val fun u => { u with wait := .sectionNet }
  else if units.any fun k => dests.any fun d =>
      !s.clashes d (off + 64 * k) 64 clsStream && (s.writeWaits f.dtag.toNat d [(off + 64 * k) / 64]).isSome then
    s.modTile t.val fun u => { u with wait := .sectionNet }
  else
    let one := fun (x : Bool × State) (k : Nat) =>
      let got := x.2.streamRead (.tile t) h (a + 64 * k) 64
      let s1 := match levelAt s.chip.grade (a + 64 * k) with
        | .tile u o => if o % 128 = 64 ∨ k + 1 = n then got.2.afterRead f.stag.toNat u [o / 128] else got.2
        | _ => got.2
      if got.1.clash then (true, s1)
      else (x.1, dests.foldl (fun s d =>
        let wr := s.streamWrite (.tile t) h (d * 0x100000 + off + 64 * k) got.1.data got.1.poisoned
        if wr.1 then wr.2 else wr.2.afterWrite f.dtag.toNat d [(off + 64 * k) / 64]) s1)
    let r := units.foldl one (false, s)
    if r.1 then r.2.partFault t.val 0x61 else r.2.nextInstr t.val

/-- One node of the tree of R213; an absent side passes the other through. -/
def treeNode (g : Nat → Nat → Nat) : Option (List Nat) → Option (List Nat) → Option (List Nat)
  | some a, some b => some ((a.zip b).map fun e => g e.1 e.2)
  | some a, none => some a
  | none, b => b

/-- The fixed tree over tile positions 0 to 7 of a Section (R213). -/
def sectionTree (g : Nat → Nat → Nat) (p : Nat → Option (List Nat)) : Option (List Nat) :=
  let n := treeNode g
  n (n (n (p 0) (p 1)) (n (p 2) (p 3))) (n (n (p 4) (p 5)) (n (p 6) (p 7)))

/-- Sections combine in ascending order (R213). -/
def reduceAll (g : Nat → Nat → Nat) (v : Nat → Option (List Nat)) : List Nat :=
  ((List.range 4).foldl (fun acc q => treeNode g acc (sectionTree g fun k => v (8 * q + k))) none).getD []

/-- Section reduction (R212, R213): the tile offers its vector and waits until every contributor has offered; the last writes
the result and all go on. -/
def mvRed (t : Fin 32) (f : MvFields) (s : State) : State :=
  let h := s.hrOn t.val
  let a := 64 * (s.getS t.val f.sa.toNat).toNat
  let b := 64 * (s.getS t.val f.da.toNat).toNat
  let n := f.units1.toNat + 1
  let group := ((s.partOn t.val).map (·.group)).getD []
  let contrib := group.filter fun u => f.mask.toNat.testBit (u % 8)
  let reachMask := (List.range 8).all fun k => !f.mask.toNat.testBit k || group.any fun u => decide (u % 8 = k)
  let units := List.range n
  let fp := decide (f.fmt.toNat = 8)
  let others := contrib.filter fun u => decide (u ≠ t.val)
  let last := others.all fun u => (s.tile u).offered.isSome
  if !mvTagsOk f || !(fp || decide (f.fmt.toNat = 3) || decide (f.fmt.toNat = 9)) || decide (1 < f.combine.toNat) || decide (4 < n) then s.illegal t.val
  else if !reachMask || (units.any fun k => s.outOfGroup t.val (a + 64 * k) || s.outOfGroup t.val (b + 64 * k)) then s.partFault t.val 0x66
  else if !contrib.contains t.val then s.nextInstr t.val
  else if units.any fun k => s.reachesAll h (a + 64 * k) 64 && !s.sideClashes (a + 64 * k) && s.sideWaits false f.stag.toNat (a + 64 * k) then
    s.modTile t.val fun u => { u with wait := .tag false clsStream (a / 128 % 8192) }
  else if last && units.any fun k => s.reachesAll h (b + 64 * k) 64 && !s.sideClashes (b + 64 * k) && s.sideWaits true f.dtag.toNat (b + 64 * k) then
    s.modTile t.val fun u => { u with wait := .tag true clsStream (b / 128 % 8192) }
  else
    let x := units.foldl (fun (x : List Byte × Bool × Bool × State) k =>
      let got := x.2.2.2.streamRead (.tile t) h (a + 64 * k) 64
      let s1 := match levelAt s.chip.grade (a + 64 * k) with
        | .tile u o => if o % 128 = 64 ∨ k + 1 = n then got.2.afterRead f.stag.toNat u [o / 128] else got.2
        | _ => got.2
      (x.1 ++ got.1.data, x.2.1 || got.1.poisoned, x.2.2.1 || got.1.clash, s1)) ([], false, false, s)
    let vec := (List.range (16 * n)).map fun i => wordAt x.1 (4 * i)
    if x.2.2.1 then x.2.2.2.partFault t.val 0x61
    else
      let s1 := x.2.2.2.modTile t.val fun u => { u with offered := some vec, offeredPoison := x.2.1, wait := .sectionNet }
      if !last then s1
      else
        let e : Elem := if fp then .fp fF32 else .int 32
        let g : Nat → Nat → Nat := if f.combine.toNat = 1 then elemMinMax e true
          else if fp then f32add else fun a b => (a + b) % 2 ^ 32
        let v := fun u => if contrib.contains u then (s1.tile u).offered.map fun l => l.map (·.toNat) else none
        let bytes := packElems 32 (reduceAll g v)
        let bad := contrib.any fun u => (s1.tile u).offeredPoison
        let wr := units.foldl (fun (y : Bool × State) k =>
          let r := y.2.streamWrite (.tile t) h (b + 64 * k) ((bytes.drop (64 * k)).take 64) bad
          (y.1 || r.1, if r.1 then r.2 else r.2.afterSide true f.dtag.toNat (b + 64 * k))) (false, s1)
        if wr.1 then wr.2.partFault t.val 0x61
        else contrib.foldl (fun s u => (s.modTile u fun w => { w with offered := none, offeredPoison := false, wait := .none }).nextInstr u) wr.2

/-! ## SY -/

def syCue (t : Nat) (f : SyFields) (s : State) : Nat :=
  if f.cueReg then (s.getS t (f.cue.toNat % 16)).toNat % 0x10000 else f.cue.toNat

def sySignal (t : Fin 32) (f : SyFields) (s : State) : State :=
  (s.opSignal (.tile t) (s.hrOn t.val) (syCue t.val f s) f.n.toNat).nextInstr t.val

def sySet (t : Fin 32) (f : SyFields) (s : State) : State :=
  (s.opSet (.tile t) (s.hrOn t.val) (syCue t.val f s) f.n.toNat).nextInstr t.val

/-- A wait begins; the Cue unit ends it, at once or later (R232). -/
def syWait (t : Fin 32) (f : SyFields) (s : State) : State :=
  (s.modTile t.val fun u => { u with wait := .cue f.st f.sreg.toNat false }).opWait (.tile t) (s.hrOn t.val) (syCue t.val f s) f.n.toNat
    f.timeout.toNat 0

def syArrive (t : Fin 32) (f : SyFields) (s : State) : State :=
  (s.modTile t.val fun u => { u with wait := .cue f.st f.sreg.toNat false }).opArrive (.tile t) (s.hrOn t.val) (syCue t.val f s)
    f.timeout.toNat

def syTest (t : Fin 32) (f : SyFields) (s : State) : State :=
  let s0 := s.countChoice t.val
  let x := s0.opTest (.tile t) (s.hrOn t.val) (syCue t.val f s)
  (x.2.setS t.val f.sreg.toNat (word x.1)).nextInstr t.val

def syTake (t : Fin 32) (f : SyFields) (s : State) : State :=
  let s0 := s.countChoice t.val
  let x := s0.opTake (.tile t) (s.hrOn t.val) (syCue t.val f s)
  (x.2.setS t.val f.sreg.toNat (word x.1)).nextInstr t.val

/-- The Cues are tried in the order s1 to s4; the first satisfied one ends the wait. -/
def syWaitany (t : Fin 32) (f : SyFields) (s : State) : State :=
  let h := s.hrOn t.val
  let s1 := (s.countChoice t.val).modTile t.val fun u => { u with wait := .cue f.st f.sreg.toNat true }
  [1, 2, 3, 4].foldl (fun s' r =>
    let cue := (s.getS t.val r).toNat % 0x10000
    let still := match (s'.tile t.val).wait with
      | .cue _ _ true => true
      | _ => false
    if cue = 0 || !still then s' else s'.opWait (.tile t) h cue f.n.toNat f.timeout.toNat (r - 1)) s1

def syTags (t : Fin 32) (first count1 : BitVec 13) (v : BitVec 2) (s : State) : State :=
  (((List.range (count1.toNat + 1)).filter fun i => decide (first.toNat + i < 8192)).foldl
    (fun s i => s.setTag t.val (first.toNat + i) v.toNat) s).nextInstr t.val

/-! ## CT -/

/-- The conditions of Table 7-6; none: reserved. -/
def ctCond (c : Nat) (a b : Word) : Option Bool :=
  match c with
  | 0 => some true
  | 1 => some (a == b)
  | 2 => some (a != b)
  | 3 => some (a.slt b)
  | 4 => some (a.ult b)
  | 5 => some (!a.slt b)
  | _ => none

def ctImm (f : CtFields) (n : Nat) : Nat := f.imm.toNat % 2 ^ n

def ctSets (t : Nat) (f : CtFields) (s : State) : State := (s.setS t f.rd.toNat (word (ctImm f 32))).nextInstr t

/-- A scalar shift: 0 left, 1 right logical, 2 right arithmetic; unspecified by 32 or more. -/
def ctShift (op : Nat) (a b : Word) : Word := word (elemShift 32 op a.toNat b.toNat)

def ctAluWord (op : CtAluOp) (a b : Word) : Word :=
  match op with
  | .add => a + b
  | .sub => a - b
  | .mul => a * b
  | .shl => ctShift 0 a b
  | .shr => ctShift 1 a b
  | .sar => ctShift 2 a b
  | .and => a &&& b
  | .or => a ||| b
  | .xor => a ^^^ b
  | .cmpEq => Config.ctCmp (a == b)
  | .cmpLt => Config.ctCmp (a.slt b)
  | .cmpLtu => Config.ctCmp (a.ult b)

def ctAlu (t : Nat) (op : CtAluOp) (f : CtFields) (s : State) : State :=
  (s.setSP t f.rd.toNat (ctAluWord op (s.getS t f.ra.toNat) (s.getS t f.rb.toNat)) (s.sBad t f.ra.toNat || s.sBad t f.rb.toNat)).nextInstr t

/-- A taken branch continues at its target; loop counters are not touched by it. -/
def ctBr (t : Nat) (f : CtFields) (s : State) : State :=
  match ctCond f.cond.toNat (s.getS t f.ra.toNat) (s.getS t f.rb.toNat) with
  | none => s.illegal t
  | some true => s.modTile t fun u => { u with pc := ctImm f 20, held := none }
  | some false => s.nextInstr t

def ctLoop (t : Nat) (f : CtFields) (s : State) : State :=
  let n := ctImm f 20
  let runs := (s.getS t f.ra.toNat).toNat
  let lc := f.imm.toNat / 0x100000 % 4
  if n = 0 then s.nextInstr t
  else if runs = 0 then s.modTile t fun u => { u with pc := u.pc + 1 + n, held := none }
  else s.modTile t fun u =>
    { u with pc := u.pc + 1, held := none, loops := tabSet LoopCtr.zero u.loops lc ⟨runs, u.pc + 1, u.pc + 1 + n⟩ }

/-- CT.PHASE waits until its binding may take effect (R165). -/
def ctPhase (t : Nat) (f : CtFields) (s : State) : State :=
  let m := word (ctImm f 32)
  if bankMapOk m then s.modTile t fun u => { u with wait := .phase m } else s.illegal t

def ctYield (t : Nat) (f : CtFields) (s : State) : State := s.yieldAt t (ctImm f 8)

/-- CT.END (R228): the activation completes when it has taken effect on every tile of the group. -/
def ctEnd (t : Nat) (s : State) : State :=
  match (s.tile t).act with
  | none => s
  | some (h, i) =>
    let s1 := (s.gapMax t).modAct h i fun a => { a with ended := a.ended ++ [t] }
    (s1.setRegN (tileP t) 0x09C (min (s1.regN (tileP t) 0x09C + 1) 0xFFFFFFFF)).leaveTile t

def ctMtn (t : Nat) (f : CtFields) (s : State) : State :=
  let s1 := s.countChoice t
  ((s1.setS t f.rd.toNat (word (now s))).setS t ((f.rd.toNat + 1) % 16) (word (now s / 0x100000000))).nextInstr t

def ctTid (t : Nat) (f : CtFields) (s : State) : State :=
  let n := (((s.partOn t).map (·.group)).getD []).length
  (((s.setS t f.rd.toNat (word (s.tile t).position)).setS t ((f.rd.toNat + 1) % 16) (word n)).setS t ((f.rd.toNat + 2) % 16)
    (word (s.hrOn t))).nextInstr t

/-- Address of a scalar load or store: register a plus the immediate, whole words. -/
def ctAddr (t : Nat) (f : CtFields) (s : State) : Nat := ((s.getS t f.ra.toNat).toNat + f.imm.toNat) / 4 * 4

def ctLds (t : Fin 32) (f : CtFields) (s : State) : State :=
  let got := s.streamRead (.tile t) (s.hrOn t.val) (ctAddr t.val f s) 4
  if got.1.clash then got.2.partFault t.val 0x61
  else (got.2.setSP t.val f.rd.toNat (wordAt got.1.data 0) got.1.poisoned).nextInstr t.val

def ctSts (t : Fin 32) (f : CtFields) (s : State) : State :=
  let v := s.getS t.val f.rb.toNat
  let wr := s.streamWrite (.tile t) (s.hrOn t.val) (ctAddr t.val f s) (leBytes 4 v.toNat) (s.sBad t.val f.rb.toNat)
  if wr.1 then wr.2.partFault t.val 0x61 else wr.2.nextInstr t.val

/-! ## CK -/

/-- Reads a range of 64-byte units: data, poison, clash. -/
def ckRange (t : Fin 32) (a : Nat) : Nat → State → List Byte → Bool → (List Byte × Bool × Bool × State)
  | 0, s, acc, bad => (acc, bad, false, s)
  | k + 1, s, acc, bad =>
    let got := s.streamRead (.tile t) (s.hrOn t.val) a 64
    if got.1.clash then (acc, true, true, got.2)
    else ckRange t (a + 64) k got.2 (acc ++ got.1.data) (bad || got.1.poisoned)

/-- An instruction that judges a range and writes its destination register. -/
def ckJudge (t : Fin 32) (f : CkFields) (g : List Byte → Word) (s : State) : State :=
  match elemOf f.fmt.toNat with
  | none => s.illegal t.val
  | some _ =>
    let x := ckRange t (64 * (s.getS t.val f.ra.toNat).toNat) (s.getS t.val f.rl.toNat).toNat s [] false
    if x.2.2.1 then x.2.2.2.partFault t.val 0x61
    else (x.2.2.2.setSP t.val f.rd.toNat (g x.1) x.2.1).nextInstr t.val

/-- The elements of a range. -/
def rangeElems (w : Nat) (bs : List Byte) : List Nat := (List.range (8 * bs.length / w)).map fun i => elemAt bs w i

def ckCrc (t : Fin 32) (f : CkFields) (s : State) : State := ckJudge t f crc32 s

def countWord (p : Nat → Bool) (l : List Nat) : Word := word (l.filter p).length

def ckFin (t : Fin 32) (f : CkFields) (s : State) : State :=
  ckJudge t f (fun bs => match elemOf f.fmt.toNat with
    | some (.fp g) => countWord (fun x => (g.decode x).isNan || (g.decode x).isInf) (rangeElems g.width bs)
    | _ => 0) s

/-- An element that does not lie from the lower to the upper bound counts, a NaN among them. -/
def ckBound (t : Fin 32) (f : CkFields) (s : State) : State :=
  let lo := (s.getS t.val f.rlo.toNat).toNat
  let hi := (s.getS t.val f.rhi.toNat).toNat
  ckJudge t f (fun bs => match elemOf f.fmt.toNat with
    | some (.fp g) => countWord (fun x => !((g.decode lo).le (g.decode x) && (g.decode x).le (g.decode hi))) (rangeElems g.width bs)
    | some (.int b) => countWord (fun x => decide (sext b x < sext 32 lo) || decide (sext 32 hi < sext b x)) (rangeElems b bs)
    | none => 0) s

/-- CK.TRAP (Table 7-9). -/
def ckTrap (t : Nat) (f : CkFields) (s : State) : State :=
  if s.getS t f.rd.toNat = 0 then s.nextInstr t
  else (s.raise (tileP t) 6).partFault t 0x68

/-- The stamp record: PART_ID, activation number, Metronome value, register (DESIGN CHOICE, log entry 25). -/
def stampRecord (partId number mtn : Nat) (v : Word) : List Byte :=
  leBytes 4 partId ++ leBytes 4 number ++ leBytes 8 mtn ++ leBytes 4 v.toNat ++ List.replicate 12 0

def ckStamp (t : Fin 32) (f : CkFields) (s : State) : State :=
  let p := s.partOn t.val
  let number := ((p.bind (·.act)).map (·.number)).getD 0
  let bs := stampRecord ((p.map (·.partId)).getD 0) number (now s) (s.getS t.val f.rd.toNat)
  let wr := s.streamWrite (.tile t) (s.hrOn t.val) (64 * (s.getS t.val f.ra.toNat).toNat) bs (s.sBad t.val f.rd.toNat)
  if wr.1 then wr.2.partFault t.val 0x61 else wr.2.nextInstr t.val

/-! ## The commands -/

/-- MV_COPY. -/
def execMvCopy (t : Fin 32) (f : MvFields) (s : State) : Host.Outcome State Fault Refusal :=
  done (s.issue t.val (.mvCopy t f) (mvCopy t f))

/-- MV_BCAST. -/
def execMvBcast (t : Fin 32) (f : MvFields) (s : State) : Host.Outcome State Fault Refusal :=
  done (s.issue t.val (.mvBcast t f) (mvBcast t f))

/-- MV_RED. -/
def execMvRed (t : Fin 32) (f : MvFields) (s : State) : Host.Outcome State Fault Refusal :=
  done (s.issue t.val (.mvRed t f) (mvRed t f))

/-- MV_GATHER. -/
def execMvGather (t : Fin 32) (f : MvFields) (s : State) : Host.Outcome State Fault Refusal :=
  done (s.issue t.val (.mvGather t f) (mvGather t f))

/-- SY_SIGNAL. -/
def execSySignal (t : Fin 32) (f : SyFields) (s : State) : Host.Outcome State Fault Refusal :=
  done (s.issue t.val (.sySignal t f) (sySignal t f))

/-- SY_WAIT. -/
def execSyWait (t : Fin 32) (f : SyFields) (s : State) : Host.Outcome State Fault Refusal :=
  done (s.issue t.val (.syWait t f) (syWait t f))

/-- SY_ARRIVE. -/
def execSyArrive (t : Fin 32) (f : SyFields) (s : State) : Host.Outcome State Fault Refusal :=
  done (s.issue t.val (.syArrive t f) (syArrive t f))

/-- SY_TEST. -/
def execSyTest (t : Fin 32) (f : SyFields) (s : State) : Host.Outcome State Fault Refusal :=
  done (s.issue t.val (.syTest t f) (syTest t f))

/-- SY_SET. -/
def execSySet (t : Fin 32) (f : SyFields) (s : State) : Host.Outcome State Fault Refusal :=
  done (s.issue t.val (.sySet t f) (sySet t f))

/-- SY_TAKE. -/
def execSyTake (t : Fin 32) (f : SyFields) (s : State) : Host.Outcome State Fault Refusal :=
  done (s.issue t.val (.syTake t f) (syTake t f))

/-- SY_WAITANY. -/
def execSyWaitany (t : Fin 32) (f : SyFields) (s : State) : Host.Outcome State Fault Refusal :=
  done (s.issue t.val (.syWaitany t f) (syWaitany t f))

/-- CT_SETS. -/
def execCtSets (t : Fin 32) (f : CtFields) (s : State) : Host.Outcome State Fault Refusal :=
  done (s.issue t.val (.ctSets t f) (ctSets t.val f))

/-- CT_BR. -/
def execCtBr (t : Fin 32) (f : CtFields) (s : State) : Host.Outcome State Fault Refusal :=
  done (s.issue t.val (.ctBr t f) (ctBr t.val f))

/-- CT_LOOP. -/
def execCtLoop (t : Fin 32) (f : CtFields) (s : State) : Host.Outcome State Fault Refusal :=
  done (s.issue t.val (.ctLoop t f) (ctLoop t.val f))

/-- CT_PHASE. -/
def execCtPhase (t : Fin 32) (f : CtFields) (s : State) : Host.Outcome State Fault Refusal :=
  done (s.issue t.val (.ctPhase t f) (ctPhase t.val f))

/-- CT_YIELD. -/
def execCtYield (t : Fin 32) (f : CtFields) (s : State) : Host.Outcome State Fault Refusal :=
  done (s.issue t.val (.ctYield t f) (ctYield t.val f))

/-- CT_MTN. -/
def execCtMtn (t : Fin 32) (f : CtFields) (s : State) : Host.Outcome State Fault Refusal :=
  done (s.issue t.val (.ctMtn t f) (ctMtn t.val f))

/-- CT_TID. -/
def execCtTid (t : Fin 32) (f : CtFields) (s : State) : Host.Outcome State Fault Refusal :=
  done (s.issue t.val (.ctTid t f) (ctTid t.val f))

/-- CT_LDS. -/
def execCtLds (t : Fin 32) (f : CtFields) (s : State) : Host.Outcome State Fault Refusal :=
  done (s.issue t.val (.ctLds t f) (ctLds t f))

/-- CT_STS. -/
def execCtSts (t : Fin 32) (f : CtFields) (s : State) : Host.Outcome State Fault Refusal :=
  done (s.issue t.val (.ctSts t f) (ctSts t f))

/-- CK_CRC. -/
def execCkCrc (t : Fin 32) (f : CkFields) (s : State) : Host.Outcome State Fault Refusal :=
  done (s.issue t.val (.ckCrc t f) (ckCrc t f))

/-- CK_FIN. -/
def execCkFin (t : Fin 32) (f : CkFields) (s : State) : Host.Outcome State Fault Refusal :=
  done (s.issue t.val (.ckFin t f) (ckFin t f))

/-- CK_BOUND. -/
def execCkBound (t : Fin 32) (f : CkFields) (s : State) : Host.Outcome State Fault Refusal :=
  done (s.issue t.val (.ckBound t f) (ckBound t f))

/-- CK_TRAP. -/
def execCkTrap (t : Fin 32) (f : CkFields) (s : State) : Host.Outcome State Fault Refusal :=
  done (s.issue t.val (.ckTrap t f) (ckTrap t.val f))

/-- CK_STAMP. -/
def execCkStamp (t : Fin 32) (f : CkFields) (s : State) : Host.Outcome State Fault Refusal :=
  done (s.issue t.val (.ckStamp t f) (ckStamp t f))

/-- SY_FENCE: every earlier write of the tile has taken effect in this model. -/
def execSyFence (t : Fin 32) (f : SyFields) (s : State) : Host.Outcome State Fault Refusal :=
  done (s.issue t.val (.syFence t f) fun s => s.nextInstr t.val)

/-- SY_TAGS. -/
def execSyTags (t : Fin 32) (first count1 : BitVec 13) (v : BitVec 2) (s : State) : Host.Outcome State Fault Refusal :=
  done (s.issue t.val (.syTags t first count1 v) (syTags t first count1 v))

/-- CT_ALU. -/
def execCtAlu (t : Fin 32) (op : CtAluOp) (f : CtFields) (s : State) : Host.Outcome State Fault Refusal :=
  done (s.issue t.val (.ctAlu t op f) (ctAlu t.val op f))

/-- CT_END. -/
def execCtEnd (t : Fin 32) (f : CtFields) (s : State) : Host.Outcome State Fault Refusal :=
  done (s.issue t.val (.ctEnd t f) (ctEnd t.val))

/-- The effect of a held instruction that reads or writes the scratchpad. -/
def heldEffect (t : Fin 32) (i : Instr) (s : State) : State :=
  match i with
  | .mxLdw _ f => mxLdw t.val f s
  | .mxPass _ f ups => mxPass t.val f ups s
  | .mxOut _ f => mxOut t.val f.fields f.parity s
  | .vxLd _ f => vxLd t.val f s
  | .vxSt _ f => vxSt t.val f s
  | .mvCopy _ f => mvCopy t f s
  | .mvBcast _ f => mvBcast t f s
  | .mvRed _ f => mvRed t f s
  | .mvGather _ f => mvGather t f s
  | _ => s

/-- SCRATCHPAD_ACCESS_ISSUE (R167): the access a tile waits with is tried again; it issues when its tags permit. `ecc` is what
the access finds in its first word (R170). -/
def execScratchpadAccessIssue (t : Fin 32) (ecc : Ecc) (s : State) : Host.Outcome State Fault Refusal :=
  let u := s.tile t.val
  let go := fun (cls slot : Nat) (i : Instr) =>
    let a := t.val * 0x100000 + 128 * slot
    let s1 := if cls = clsStream then s else match ecc with
      | .clean => s
      | .single => s.setErr a (max (s.errAt a) 1)
      | .double => s.setErr a 2
    (heldEffect t i (s1.modTile t.val fun u => { u with wait := .none })).noteWait t.val u.wait
  match u.wait, u.held with
  | .tag _ cls slot, some i => done (go cls slot i)
  | .sectionNet, some (.mvBcast x f) => done (heldEffect t (.mvBcast x f) (s.modTile t.val fun u => { u with wait := .none }))
  | _, _ => done s

end Sys2Proof.Machine
end

