-- ==== Sys2Proof/Machine/Camera.lean ====
section
/-!
DEFINITION. The perception path up to the tensor (sections 8.1 to 8.6): CSI-2 frames and their errors, the CAMERA page, the
Pixel Front End with its two sources and its output buffers, and the PFE page.
-/

namespace Sys2Proof.Machine

def camP (n : Nat) : PageRef := ⟨.camera, n⟩
def pfeP (n : Nat) : PageRef := ⟨.pfe, n⟩

def State.cam (s : State) (n : Nat) : Cam := tabGet Cam.atReset s.cams n
def State.setCam (s : State) (n : Nat) (v : Cam) : State := { s with cams := tabSet Cam.atReset s.cams n v }
def State.modCam (s : State) (n : Nat) (f : Cam → Cam) : State := s.setCam n (f (s.cam n))
def State.modFrame (s : State) (n : Nat) (f : CamFrame → CamFrame) : State := s.modCam n fun c => { c with frame := c.frame.map f }

/-! ## Configuration -/

def State.camDt (s : State) (n : Nat) : Nat := s.regF (camP n) 0x040 13 8
def State.camW (s : State) (n : Nat) : Nat := s.regF (camP n) 0x044 12 0
def State.camH (s : State) (n : Nat) : Nat := s.regF (camP n) 0x044 28 16
def State.pfeMem (s : State) (n : Nat) : Bool := bit (s.reg (pfeP n) 0x040) 0

/-- Size and data type of the source the PFE is set to. -/
def State.pfeSrc (s : State) (n : Nat) : Nat × Nat × Nat :=
  if s.pfeMem n then (s.regF (pfeP n) 0x0A4 12 0, s.regF (pfeP n) 0x0A4 28 16, s.regF (pfeP n) 0x040 15 8)
  else (s.camW n, s.camH n, s.camDt n)

def State.pfeOut (s : State) (n : Nat) (mesh : List Word) (aug : Option (List Word)) : OutCfg :=
  let p := pfeP n
  { ow := s.regF p 0x064 12 0, oh := s.regF p 0x064 28 16, g := s.regF p 0x084 27 24, mesh := mesh, fill := s.regF p 0x08C 15 0,
    fp16 := bit (s.reg p 0x068) 0, zp := sext 8 (s.regF p 0x068 15 8), mean := (List.range 3).map fun c => s.regF p (0x06C + 4 * c) 15 0,
    scale := (List.range 3).map fun c => s.regN p (0x078 + 4 * c), aug := aug }

/-- Colour matrix entry k of 0 to 8, and offset c (PFE_CCM0–4, PFE_COFF0–1). -/
def State.ccm (s : State) (n k : Nat) : Int := sext 16 (s.regF (pfeP n) (0x048 + 4 * (k / 2)) (16 * (k % 2) + 15) (16 * (k % 2)))
def State.coff (s : State) (n c : Nat) : Int := sext 16 (s.regF (pfeP n) (0x05C + 4 * (c / 2)) (16 * (c % 2) + 15) (16 * (c % 2)))

def State.pfeChannels (s : State) (n : Nat) : Nat := if bit (s.reg (pfeP n) 0x068) 1 then 4 else 3
def State.pfeElemBytes (s : State) (n : Nat) : Nat := if bit (s.reg (pfeP n) 0x068) 0 then 2 else 1
def State.pfePitch (s : State) (n : Nat) : Nat := s.regF (pfeP n) 0x094 23 0

def State.meshBytes (s : State) (n : Nat) : Nat := let o := s.pfeOut n [] none; 4 * (o.mw * o.mh)

def State.readMesh (s : State) (n : Nat) : List Word :=
  let h := (s.page (pfeP n)).owner
  let bs := s.readGrant h (64 * s.regF (pfeP n) 0x084 23 0) (s.meshBytes n)
  (List.range (bs.length / 4)).map fun i => wordAt bs (4 * i)

/-- The mesh table passes its CRC and holds no poison. -/
def State.meshOk (s : State) (n : Nat) : Bool :=
  let h := (s.page (pfeP n)).owner
  let off := 64 * s.regF (pfeP n) 0x084 23 0
  s.inGrant h off (s.meshBytes n) && !s.grantPoison h off (s.meshBytes n) &&
  decide (crc32 (s.readGrant h off (s.meshBytes n)) = s.reg (pfeP n) 0x088)

/-! ## Errors (R249, Table 8-2) -/

/-- An error is recorded and FRAME_ERR n signalled. -/
def State.camError (s : State) (n kind line detail stamp : Nat) : State :=
  let s1 := if kind ≤ 8 ∨ kind = 12 then s.setRegN (camP n) 0x06C (kind * 0x10000000 + (line % 0x1000) * 0x10000 + detail % 0x10000)
    else (s.setRegF (pfeP n) 0x0C8 31 28 kind).raise (pfeP n) 1
  let s2 := (s1.syndrome (camP n) (0x10 + kind) (s1.regN (camP n) 0x06C)).raise (camP n) 1
  s2.hwSignal (0x20 + n) stamp

/-- A camera frame is in progress: being received, or not committed yet. -/
def Cam.busy (c : Cam) : Bool := !c.waiting.isEmpty || (c.frame.map CamFrame.live).getD false

/-- Pages that a QUIESCE holds go to HOLD once nothing is in progress. -/
def State.settleCam (s : State) (n : Nat) : State :=
  let c := s.cam n
  if c.busy then s
  else
    let s1 := (s.setCam n { c with camQuiescing := false }).frameHold (camP n) c.camQuiescing
    if c.sample.isSome then s1 else (s1.modCam n fun c => { c with pfeQuiescing := false }).frameHold (pfeP n) c.pfeQuiescing

/-- A dropped frame is counted. -/
def State.countDrop (s : State) (n : Nat) : State := s.bumpF (camP n) 0x068 31 16 1

/-- An error of the frame that is being received. The first one drops the frame; further ones are counted and signal nothing (R249; log
entry 155). -/
def State.frameError (s : State) (n kind detail stamp : Nat) : State :=
  match (s.cam n).frame with
  | none => s.camError n kind 0 detail stamp
  | some f =>
    if f.discard then s
    else if f.err then s.countDrop n
    else (((s.modFrame n fun f => { f with err := true }).countDrop n).camError n kind f.got detail stamp).settleCam n

/-- The frame that is being received is over. -/
def State.endFrame (s : State) (n : Nat) : State := (s.modCam n fun c => { c with frame := none }).settleCam n

/-! ## The frame of the Pixel Front End -/

/-- What the Pixel Front End works on: the sample, or the oldest frame that is not committed. -/
def Cam.inPfe (c : Cam) : Option CamFrame := c.sample.or (c.waiting.head?.or c.frame)

def State.modPfe (s : State) (n : Nat) (f : CamFrame → CamFrame) : State :=
  s.modCam n fun c =>
    if c.sample.isSome then { c with sample := c.sample.map f }
    else if c.waiting.isEmpty then { c with frame := c.frame.map f }
    else { c with waiting := c.waiting.modifyHead f }

/-- The epoch position advances (R258, step 5). -/
def State.pfeAdvance (s : State) (n : Nat) : State :=
  let p := pfeP n
  let i := s.regN p 0x0C0 + 1
  if s.regN p 0x0B0 ≤ i then ((s.setRegN p 0x0C0 0).incReg p 0x0BC).raise p 2 else s.setRegN p 0x0C0 i

/-- The Pixel Front End is done with its frame or sample. -/
def State.pfeNext (s : State) (n : Nat) : State :=
  if (s.cam n).sample.isSome then ((s.modCam n fun c => { c with sample := none }).pfeAdvance n).settleCam n
  else (s.modCam n fun c => { c with waiting := c.waiting.drop 1 }).settleCam n

/-- An error that the Pixel Front End detects drops its frame. -/
def State.pfeDrop (s : State) (n kind : Nat) : State :=
  match (s.cam n).inPfe with
  | none => s
  | some f =>
    if !f.live then s
    else
      let s1 := (s.countDrop n).camError n kind f.got 0 (now s)
      if f.sample.isSome || f.fe.isSome then s1.pfeNext n else (s1.modFrame n fun f => { f with err := true }).settleCam n

/-! ## Output buffers (R257) -/

/-- SRAM or grant address of the buffer of the next commit: (grant space?, address). -/
def State.pfeBuffer (s : State) (n : Nat) : Bool × Nat :=
  let d := s.reg (pfeP n) 0x090
  if bit d 31 then (false, fld d 20 16 * 0x100000 + 64 * fld d 13 0)
  else
    let k := s.regN (pfeP n) 0x0C4 % (fld d 30 28 + 1)
    (true, 64 * fld d 23 0 + k * (64 + s.regF (pfeP n) 0x064 28 16 * s.pfePitch n))

/-- Address of a byte of the buffer; none: outside the grant. -/
def State.pfeAddr (s : State) (n off : Nat) : Option Nat :=
  let b := s.pfeBuffer n
  if b.1 then s.grantAddr (s.page (pfeP n)).owner (b.2 + off) else some (b.2 + off)

/-- Writes bytes at a buffer offset in 64-byte accesses. false: a clash or an access outside the grants (kind DEST). -/
def State.pfeWrite (s : State) (n off : Nat) (bs : List Byte) (poisoned fill : Bool) : Bool × State :=
  let h := (s.page (pfeP n)).owner
  (List.range ((bs.length + 63) / 64)).foldl (fun (x : Bool × State) k =>
    let piece := (bs.drop (64 * k)).take 64
    match x.2.pfeAddr n (off + 64 * k) with
    | none => (false, x.2)
    | some a =>
      let reach := x.2.reachesAll h a piece.length && !x.2.weightGuarded a piece.length
      let w := x.2.writeBy engineSrc h a piece poisoned
      let s1 := if fill && reach && !w.1 then w.2.afterSide true 1 a else w.2
      (x.1 && reach && !w.1, s1)) (true, s)

/-- A FILL of a row would have to wait. -/
def State.pfeBlocked (s : State) (n off len : Nat) : Bool :=
  bit (s.reg (pfeP n) 0x090) 31 && (List.range ((len + 63) / 64)).any fun k => match s.pfeAddr n (off + 64 * k) with
    | some a => s.reachesAll (s.page (pfeP n)).owner a 64 && !s.sideClashes a && s.sideWaits true 1 a
    | none => false

/-- Bytes of an output row, the pixels in HWC order; what fills a pitch beyond the pixels is unspecified. -/
def State.pfeRow (s : State) (n : Nat) (f : CamFrame) (v : Nat) : List Byte :=
  let (w, h, dt) := s.pfeSrc n
  let o := s.pfeOut n f.mesh (f.sample.bind (·.aug))
  let img : SrcImage := { w := w, h := h, dt := dt, bayer := s.regF (pfeP n) 0x040 2 1, black := s.regF (pfeP n) 0x044 15 0, lines := f.lines }
  let chan := fun c => colourOut ((List.range 3).map fun k => s.ccm n (3 * c + k)) (s.coff n c)
  let eb := s.pfeElemBytes n
  let px := (List.range o.ow).flatMap fun u =>
    ((List.range 3).flatMap fun c => leBytes eb (o.finish c (o.sampleAt w h (fun y x => chan c (img.comps y x)) u v))) ++
      (if s.pfeChannels n = 4 then leBytes eb 0 else [])
  px ++ (List.range (s.pfePitch n - px.length)).map fun i => BitVec.ofNat 8 (Config.freeWord s.freeCtr i).toNat

/-- The next output row can run: its last source line has arrived (R255). -/
def State.rowReady (s : State) (n : Nat) (f : CamFrame) : Bool :=
  let (w, h, _) := s.pfeSrc n
  match (s.pfeOut n f.mesh (f.sample.bind (·.aug))).rowNeeds w h f.rows with
  | none => true
  | some (_, hi) => decide (hi < f.lines.length)

/-- Reads of the mesh table meet the errors that stand in it. -/
def State.lookMesh (s : State) (n : Nat) : State :=
  s.lookGrant (s.page (pfeP n)).owner (64 * s.regF (pfeP n) 0x084 23 0) (s.meshBytes n)

/-- The PFE starts a frame: header zeroed, mesh read and checked (R257, Table 8-2). -/
def State.pfeStart (s : State) (n : Nat) : State :=
  let mesh := s.readMesh n
  let s1 := (s.lookMesh n).modPfe n fun f => { f with mesh := mesh, cfgCrc := (s.page (pfeP n)).cfgCrc, started := true }
  let w := s1.pfeWrite n 0 (List.replicate 64 0) false false
  if !w.1 then w.2.pfeDrop n 10
  else if !s.meshOk n then w.2.pfeDrop n 11
  else w.2

/-- The Pixel Front End runs: it starts its frame, then runs output rows while they can run. -/
def State.pfeRun (s : State) (n : Nat) : Nat → State
  | 0 => s
  | k + 1 => match (s.cam n).inPfe with
    | none => s
    | some f =>
      if !f.live then s
      else if !f.started then (s.pfeStart n).pfeRun n k
      else if decide (s.regF (pfeP n) 0x064 28 16 ≤ f.rows) || !s.rowReady n f then s
      else
        let off := 64 + f.rows * s.pfePitch n
        if s.pfeBlocked n off (s.pfePitch n) then s
        else
          let w := s.pfeWrite n off (s.pfeRow n f f.rows) f.poisoned (bit (s.reg (pfeP n) 0x090) 31)
          if !w.1 then (w.2.pfeDrop n 10).pfeRun n k
          else ((w.2.modPfe n fun f => { f with rows := f.rows + 1 }).drawFree).pfeRun n k

def State.pfeRunAll (s : State) (n : Nat) : State := s.pfeRun n 8192

/-- Lines the 16-line store holds: those arrived from the first one the next row needs. -/
def State.storeOf (s : State) (n : Nat) (f : CamFrame) : Nat :=
  let (w, h, _) := s.pfeSrc n
  let o := s.pfeOut n f.mesh none
  if !f.live then 0
  else if !f.started then f.lines.length
  else if o.oh ≤ f.rows then 0
  else match o.rowNeeds w h f.rows with
    | some (lo, _) => f.lines.length - lo
    | none => 0

def State.storeUsed (s : State) (n : Nat) : Nat := (((s.cam n).waiting ++ (s.cam n).frame.toList).map (s.storeOf n)).sum

/-! ## CSI-2 packets -/

/-- A header that passes or is corrected; CAM_ECC_CORR counts corrections. -/
def State.headerEcc (s : State) (n : Nat) (e : Ecc) : State :=
  if e = .single then (s.bumpF (camP n) 0x070 15 0 1).raise (camP n) 2 else s

/-- The receiver's lanes run. -/
def State.camOn (s : State) (n : Nat) : Bool :=
  present s.chip.grade (camP n) && s.inState (camP n) [.armed, .running, .hold, .fault]

def State.camStamp (s : State) (n : Nat) (time : Dword) : Nat := time.toNat - s.regF (camP n) 0x04C 15 0

/-- Frames of the camera are taken: CAMERA and PFE in RUNNING, no memory source (R252, R258). -/
def State.camTakes (s : State) (n : Nat) : Bool :=
  decide (s.pageState (camP n) = .running) && decide (s.pageState (pfeP n) = .running) && !s.pfeMem n

/-- A packet reaches the receiver of port n. A parity error of the receiver or the PFE excuses the unit (Table 8-5). A header with an
uncorrectable error names no packet: it is an error of the frame in progress (Table 8-2, kind 1). Else `f` takes the packet. -/
def State.csiPacket (s : State) (n : Nat) (hdr : CsiHeader) (f : State → State) : State :=
  let s0 := advanceTo hdr.time.toNat s
  if !s.camOn n then s0
  else if hdr.parity then s0.excuse [112 + n]
  else if hdr.ecc = .double then (if s0.camTakes n then s0.frameError n 1 hdr.bytes01.toNat (now s0) else s0)
  else f (s0.headerEcc n hdr.ecc)

/-- A Frame Start of the selected stream (R247, R250). -/
def State.frameStart (s : State) (n fn fs detail : Nat) : State :=
  let s1 := if s.pageState (camP n) = .armed then (s.toState (camP n) .running).raise (camP n) 3 else s
  -- a frame that is being received ends with NO_FE
  let s2 := if (s1.cam n).frame.isSome then (s1.frameError n 6 detail (now s1)).endFrame n else s1
  let last := (s2.cam n).lastNum
  let s3 := (s2.setRegN (camP n) 0x064 fn).modCam n fun c => { c with lastNum := if fn = 0 then c.lastNum else fn }
  let discard := !s3.camTakes n || (s3.cam n).camQuiescing || (s3.cam n).pfeQuiescing
  let frame : CamFrame := { fn := fn, fs := fs, fe := none, lines := [], got := 0, err := false, discard := discard, sample := none,
                            started := false, mesh := [], cfgCrc := 0, rows := 0, poisoned := false }
  let put := fun (s : State) => s.modCam n fun c => { c with frame := some frame }
  if discard then put (s3.bumpF (camP n) 0x068 15 0 1)
  else
    let gap := decide (fn ≠ 0) && decide (last ≠ 0) && decide (fn ≠ last + 1) && decide (fn ≠ 1)
    (put (if gap then s3.camError n 12 0 detail fs else s3)).pfeRunAll n

/-- CSI_FRAME_START (R247, R250). -/
def execCsiFrameStart (n : Fin 12) (fn : BitVec 16) (hdr : CsiHeader) (s : State) : Host.Outcome State Fault Refusal :=
  done (s.csiPacket n.val hdr fun s1 => s1.frameStart n.val fn.toNat (s.camStamp n.val hdr.time) hdr.bytes01.toNat)

/-- A line of the selected stream (R248, R249). -/
def State.frameLine (s : State) (n detail : Nat) (payload : List Byte) (crcOk : Bool) : State :=
  match (s.cam n).frame with
  | none => s
  | some f =>
    if f.discard then s
    else
      let s1 := s.modFrame n fun f => { f with got := f.got + 1 }
      if !crcOk then s1.frameError n 2 detail (now s1)
      else if payload.length ≠ lineBytes (s1.camDt n) (s1.camW n) then s1.frameError n 3 detail (now s1)
      else if f.err then s1
      else if 16 ≤ s1.storeUsed n then s1.frameError n 9 detail (now s1)
      else (s1.modFrame n fun f => { f with lines := f.lines ++ [payload] }).pfeRunAll n

/-- CSI_LINE_PACKET (R248): a line of the selected stream. -/
def execCsiLinePacket (n : Fin 12) (hdr : CsiHeader) (payload : List Byte) (crcOk : Bool) (s : State) : Host.Outcome State Fault Refusal :=
  done (s.csiPacket n.val hdr fun s1 => s1.frameLine n.val hdr.bytes01.toNat payload crcOk)

/-- A Frame End of the selected stream (R248). A frame without an error waits for its commit. -/
def State.frameEnd (s : State) (n fn fe detail : Nat) : State :=
  match (s.cam n).frame with
  | none => s
  | some f =>
    let s1 := if fn ≠ f.fn then s.frameError n 5 detail (now s) else s
    let s2 := if f.got ≠ s.camH n then s1.frameError n 4 detail (now s) else s1
    match (s2.cam n).frame with
    | none => s2
    | some g =>
      if g.live then (s2.modCam n fun c => { c with frame := none, waiting := c.waiting ++ [{ g with fe := some fe }] }).pfeRunAll n
      else s2.endFrame n

/-- CSI_FRAME_END (R247, R248). -/
def execCsiFrameEnd (n : Fin 12) (fn : BitVec 16) (hdr : CsiHeader) (s : State) : Host.Outcome State Fault Refusal :=
  done (s.csiPacket n.val hdr fun s1 => s1.frameEnd n.val fn.toNat (s.camStamp n.val hdr.time) hdr.bytes01.toNat)

/-- CSI_IGNORED_PACKET (R246). -/
def execCsiIgnoredPacket (n : Fin 12) (hdr : CsiHeader) (s : State) : Host.Outcome State Fault Refusal :=
  done (s.csiPacket n.val hdr fun s1 => s1.bumpF (camP n.val) 0x074 15 0 1)

/-- CAM_NO_FE_TIMEOUT (Table 8-2, kind 6). -/
def execCamNoFeTimeout (n : Fin 12) (s : State) : Host.Outcome State Fault Refusal :=
  match (s.cam n.val).frame with
  | some f =>
    let s1 := advanceTo (f.fs + s.regF (camP n.val) 0x04C 15 0 + 1000 * s.regF (camP n.val) 0x048 23 0) s
    done ((s1.frameError n.val 6 0 (now s1)).endFrame n.val)
  | none => done s

/-- CAM_NO_FRAME_TIMEOUT (Table 8-2, kind 7). -/
def execCamNoFrameTimeout (n : Fin 12) (s : State) : Host.Outcome State Fault Refusal :=
  if s.camTakes n.val && (s.cam n.val).frame.isNone then done (s.camError n.val 7 0 0 (now s)) else done s

/-- CSI_PHY_LOSS (Table 8-2, kind 8). Between frames it is an error of the latest one that is not committed yet (R248). -/
def execCsiPhyLoss (n : Fin 12) (s : State) : Host.Outcome State Fault Refusal :=
  if s.camTakes n.val then
    match (s.cam n.val).frame, (s.cam n.val).waiting.getLast? with
    | none, some f =>
      let s1 := ((s.modCam n.val fun c => { c with waiting := c.waiting.dropLast }).countDrop n.val).camError n.val 8 f.got 0 (now s)
      done (s1.settleCam n.val)
    | _, _ => done (s.frameError n.val 8 0 (now s))
  else done s

/-! ## Commit (Table 8-6) -/

/-- The buffer header of Table 8-6. -/
def State.pfeHeader (s : State) (n : Nat) (f : CamFrame) (seq fe : Nat) : List Byte :=
  let p := pfeP n
  let flag := fun (b : Bool) (k : Nat) => if b then 2 ^ k else 0
  let smp := f.sample
  let body := leBytes 4 seq ++
    leBytes 4 (n + flag smp.isSome 8 + flag f.poisoned 9 + flag (smp.bind (·.aug)).isSome 10 + f.fn * 0x10000) ++
    leBytes 8 fe ++ leBytes 8 f.fs ++ leBytes 4 ((smp.map (·.j)).getD 0) ++ leBytes 4 ((smp.map (·.i)).getD 0) ++
    leBytes 4 ((smp.map (·.epoch)).getD 0) ++ leBytes 4 (s.regF p 0x064 12 0 + s.regF p 0x064 28 16 * 0x10000) ++
    leBytes 4 (s.pfePitch n) ++
    leBytes 4 (flag (bit (s.reg p 0x068) 0) 0 + flag (bit (s.reg p 0x068) 1) 1 + s.regF p 0x068 15 8 * 0x100) ++
    leBytes 4 f.cfgCrc.toNat ++ leBytes 8 0
  body ++ leBytes 4 (crc32 body).toNat

/-- SEQ of the next commit: it skips 0. -/
def nextSeq (q : Nat) : Nat := if q = 0xFFFFFFFF then 1 else q + 1

/-- The registers, the interrupt and the Cue of a commit. -/
def State.committed (s : State) (n : Nat) (f : CamFrame) (buf fe : Nat) : State :=
  let p := pfeP n
  let s1 := ((((s.incReg p 0x0C4).setRegF p 0x0C8 2 0 buf).raise p 0).hwSignal (0x10 + n) fe).modCam n fun c => { c with seq := nextSeq c.seq }
  if f.sample.isSome then s1
  else (((s1.incReg (camP n) 0x060).setReg64 (camP n) 0x050 f.fs).setReg64 (camP n) 0x058 fe).raise (camP n) 0

/-- PFE_FRAME_COMMIT (R257): the header is written after every row, and FRAME_END n follows. -/
def execPfeFrameCommit (n : Fin 12) (time : Dword) (s : State) : Host.Outcome State Fault Refusal :=
  let k := n.val
  let p := pfeP k
  let s0 := (advanceTo time.toNat s).pfeRunAll k
  match (s0.cam k).inPfe with
  | none => done s0
  | some f =>
    if !f.live || !f.started || (f.fe.isNone && f.sample.isNone) || decide (f.rows < s0.regF p 0x064 28 16) then done s0
    else
      let fe := f.fe.getD (now s0)
      let buf := s0.regN p 0x0C4 % (s0.regF p 0x090 30 28 + 1)
      let w := s0.pfeWrite k 0 (s0.pfeHeader k f (nextSeq (s0.cam k).seq) fe) false false
      if !w.1 then done ((w.2.pfeDrop k 10).pfeRunAll k)
      else done (((w.2.committed k f buf fe).pfeNext k).pfeRunAll k)

/-! ## Memory source (R258) -/

/-- PFE_SAMPLE_START (R258): a unit of the submit Cue is consumed and a sample read. -/
def execPfeSampleStart (n : Fin 12) (s : State) : Host.Outcome State Fault Refusal :=
  let k := n.val
  let p := pfeP k
  let h := (s.page p).owner
  let cue := s.regF p 0x0A8 15 0
  if s.pageState p ≠ .running ∨ !s.pfeMem k ∨ !bit (s.reg p 0x0A8) 31 ∨ (s.cam k).sample.isSome ∨ s.cueCount h cue = 0
      ∨ (s.cam k).pfeQuiescing then done s
  else
    let s1 := s.setCueCount h cue (s.cueCount h cue - 1)
    let i := s.regN p 0x0C0
    let epoch := s.regN p 0x0BC
    let j := shuffle i (s.regN p 0x0B0) (s.reg64 p 0x0B4) epoch
    let (w, ht, dt) := s.pfeSrc k
    let len := (lineBytes dt w + 63) / 64 * 64
    let base := s.reg64 p 0x098 + j * s.regN p 0x0A0
    let got := (List.range ht).foldl (fun (x : List (List Byte) × Bool × State) y =>
      let g := x.2.2.engineLoad h (base + y * len) len
      (x.1 ++ [g.1], x.2.1 || g.2.1, g.2.2)) ([], false, s1)
    let log2 := s.regF p 0x0AC 27 24
    let slot := 64 * s.regF p 0x0AC 23 0 + 32 * (i % 2 ^ log2)
    let recBytes := s.readGrant h slot 32
    let valid := bit (wordAt recBytes 0) 2
    let aug := if log2 = 0 ∨ !valid then none else some ((List.range 8).map fun q => wordAt recBytes (4 * q))
    let s0 := if log2 = 0 then got.2.2 else got.2.2.lookGrant h slot 32
    let s2 := if log2 ≠ 0 ∧ valid then s0.writeGrant h slot (leBytes 4 0) else s0
    let frame : CamFrame := { fn := 0, fs := now s, fe := none, lines := got.1, got := ht, err := false, discard := false,
                              sample := some ⟨i, j, epoch, aug⟩, started := false, mesh := [], cfgCrc := 0, rows := 0,
                              poisoned := got.2.1 || (aug.isSome && s.grantPoison h slot 32) }
    let s3 := (s2.modCam k fun c => { c with sample := some frame }).pfeStart k
    if log2 ≠ 0 ∧ !valid then done (s3.pfeDrop k 13) else done s3

/-! ## The CAMERA page (Table 8-5) -/

/-- The ENABLE checks of Table 8-4. -/
def State.camCheck (s : State) (n : Nat) : Option Nat :=
  let c := s.reg (camP n) 0x040
  let rate := fld c 31 16
  let lanes := 2 ^ fld c 1 0
  let dt := fld c 13 8
  let (w, h) := (s.camW n, s.camH n)
  if fld c 1 0 = 3 ∨ rate < 80 ∨ 2500 < rate ∨ !imageTypes.contains dt ∨ w < 16 ∨ 4096 < w ∨ h < 8 ∨ 4096 < h then some 1
  else if lanes * rate * 32 < w * bitsPerPixel dt then some 2
  else none

def camEnable (s : State) (n : Nat) : Ans × State :=
  let p := camP n
  match s.pageState p with
  | .idle => (match s.camCheck n with
    | some c => (ansArg c 0, s)
    | none => crcGate s p (ansDone, s.toState p .armed))
  | .hold => crcGate s p (ansDone, s.toState p .running)
  | _ => (ansState, s)

def camDisable (s : State) (n : Nat) : Ans × State :=
  if s.inState (camP n) [.armed, .hold] then (ansDone, ((s.toState (camP n) .idle).modCam n fun c => { c with frame := none }).settleCam n)
  else (ansState, s)

def camQuiesce (s : State) (n : Nat) : Ans × State :=
  if s.pageState (camP n) ≠ .running then (ansDone, s)
  else if (s.cam n).busy then (ansAccepted, s.modCam n fun c => { c with camQuiescing := true })
  else (ansDone, s.toState (camP n) .hold)

/-- STOP abandons the frame in progress without FRAME_ERR. -/
def camStop (s : State) (n : Nat) : Ans × State :=
  if s.inState (camP n) activeStates then
    (ansDone, ((s.toState (camP n) .idle).modCam n fun c => { c with camQuiescing := false, frame := none, waiting := [] }).settleCam n)
  else (ansDone, s)

def camReset (s : State) (n : Nat) : Ans × State :=
  let p := camP n
  if s.inState p [.idle, .fault] then
    let s1 := (s.resetRegs p 0x040 0x07C).modCam n fun c => { c with lastNum := 0, frame := none, waiting := [] }
    (ansDone, if s.pageState p = .fault then s1.toState p .idle else s1)
  else (ansState, s)

/-! ## The PFE page (R260, R261) -/

/-- The checks of Table 8-9 in order. -/
def State.pfeCheck (s : State) (n : Nat) : Option Nat :=
  let p := pfeP n
  let h := (s.page p).owner
  let (w, ht, dt) := s.pfeSrc n
  let (ow, oh, g) := (s.regF p 0x064 12 0, s.regF p 0x064 28 16, s.regF p 0x084 27 24)
  let d := s.reg p 0x090
  let memDt := s.regF p 0x040 15 8
  let bufBytes := (fld d 30 28 + 1) * (64 + oh * s.pfePitch n)
  let log2 := s.regF p 0x0AC 27 24
  let last := s.reg64 p 0x098 + (s.regN p 0x0B0 - 1) * s.regN p 0x0A0 + ht * ((lineBytes dt w + 63) / 64 * 64)
  let mem := s.pfeMem n
  if !imageTypes.contains memDt ∨ (!mem ∧ !imageTypes.contains (s.camDt n)) then some 1
  else if ow < 16 ∨ 4096 < ow ∨ oh < 16 ∨ 4096 < oh ∨ g < 3 ∨ 6 < g ∨ s.pfePitch n < ow * s.pfeChannels n * s.pfeElemBytes n then some 2
  else if (if bit d 31 then !decide (s.tileHr (fld d 20 16) = h) else !s.inGrant h (64 * fld d 23 0) bufBytes) then some 3
  else if !s.meshOk n then some 4
  else if !mem && decide (64000 < (s.pfeOut n (s.readMesh n) none).tail w ht) then some 5
  else if mem && (!s.reachesAll h (s.reg64 p 0x098) (last - s.reg64 p 0x098) ||
      (decide (log2 ≠ 0) && !s.inGrant h (64 * s.regF p 0x0AC 23 0) (32 * 2 ^ log2)) ||
      !s.mayCue h (s.regF p 0x0A8 15 0) 2 || decide (s.regN p 0x0B0 = 0)) then some 6
  else none

/-- ENABLE posts ACCEPTED, from IDLE and from HOLD; its checks end with COMMAND_COMPLETION. -/
def pfeEnable (s : State) (n : Nat) : Ans × State :=
  if s.inState (pfeP n) [.idle, .hold] then (ansAccepted, s) else (ansState, s)

/-- ENABLE reads the mesh and computes the tail into PFE_TAIL, with a camera source (R256). -/
def State.readTail (s : State) (n : Nat) : State :=
  let (w, h, _) := s.pfeSrc n
  let s1 := s.lookMesh n
  if s.pfeMem n then s1 else s1.setRegN (pfeP n) 0x0CC ((s.pfeOut n (s.readMesh n) none).tail w h)

/-- The end of an accepted ENABLE. The checks before MESH_TAIL come before the mesh is read. -/
def State.pfeEnableDone (s : State) (n : Nat) : State :=
  let p := pfeP n
  match s.pfeCheck n with
  | some c => (if c < 4 then s else if c = 4 then s.lookMesh n else s.readTail n).finishPending p 5 (some (c, 0))
  | none =>
    let s1 := s.readTail n
    if s.crcMatches p then (s1.toState p .running).finishPending p 2 none
    else s1.finishPending p 5 (some (0xFF, 1))

def pfeQuiesce (s : State) (n : Nat) : Ans × State :=
  if s.pageState (pfeP n) ≠ .running then (ansDone, s)
  else if (s.cam n).busy || (s.cam n).sample.isSome then (ansAccepted, s.modCam n fun c => { c with pfeQuiescing := true })
  else (ansDone, s.toState (pfeP n) .hold)

/-- STOP abandons the frame in progress and leaves its buffer header zero. -/
def pfeStop (s : State) (n : Nat) : Ans × State :=
  if s.inState (pfeP n) [.running, .hold] then
    (ansDone, ((s.toState (pfeP n) .idle).modCam n fun c =>
      { c with pfeQuiescing := false, frame := none, waiting := [], sample := none }).settleCam n)
  else (ansDone, s)

end Sys2Proof.Machine
end

