-- ==== Sys2Proof/Machine/Dpp.lean ====
section
/-!
DEFINITION. The Detection Post-Processor (section 8.7): queues, jobs, decoding, suppression, lists, and the DPP page.
-/

namespace Sys2Proof.Machine

/-! ## Queues (R262) -/

/-- A Cue block of the homeroom holds the Cue. -/
def State.ownsCue (s : State) (h cue : Nat) : Bool := decide (256 ≤ cue) && decide ((s.page (cueP (cue / 256))).owner = h)

/-- A ring of 2^log2 entries of some bytes lies in the homeroom's Commons grant, and the Cue is its own (R262). -/
def State.queueOk (s : State) (h offset log2 lo hi entry cue : Nat) : Bool :=
  decide (lo ≤ log2) && decide (log2 ≤ hi) && s.inGrant h offset (entry * 2 ^ log2) && s.ownsCue h cue

/-- A write to QRINGh or QCUEh of the DPP or the Codec (Table 8-13, R294). -/
def queueWrite (p : PageRef) (entry off : Nat) (v : Word) (s : State) : State × Bool :=
  let h := (off - 0x060) / 8
  let isCue := decide ((off - 0x060) % 8 = 4)
  let refuse := fun (c : Nat) => ((s.countRefusal p).syndrome p c h, false)
  if s.qEn p h && !(isCue && !bit v 31) then refuse 2
  else if s.qEn p h then (s.qDisable p h, true)
  else if isCue && bit v 31 && !s.queueOk h (s.qOffset p h) (s.qLog2 p h) 4 10 entry (fld v 15 0) then refuse 1
  else if isCue then
    let s1 := if fld v 15 0 = s.qCue p h && !bit v 31 then s else s.setKept p ((s.qKept p).filter (· ≠ h))
    s1.plainWrite p off v
  else s.plainWrite p off v

/-! ## Jobs (R263, Table 8-10) -/

/-- DPP_JOB_START: the next queue in turn with a job pending and share left (R263). -/
def execDppJobStart (s : State) : Host.Outcome State Fault Refusal :=
  if s.pageState dppP ≠ .running ∨ s.dpp.job.isSome ∨ s.dpp.quiescing then done s
  else
    let order := (List.range 8).map fun k => (s.dpp.last + 1 + k) % 8
    match order.find? fun h => s.qEn dppP h && decide (0 < s.qPending dppP h) && !s.shareSpent h with
    | none => done s
    | some h =>
      let i := s.qHead dppP h
      let s1 := (s.lookGrant h (s.qOffset dppP h + 128 * i) 128).setCueCount h (s.qCue dppP h) (s.qPending dppP h - 1)
      let s2 := s1.setRegF dppP (0x0A0 + 4 * h) 15 0 ((i + 1) % 2 ^ s.qLog2 dppP h)
      let n := tabGet 0 s.dpp.seqs h + 1
      done { s2 with dpp := { s2.dpp with
        job := some ⟨h, i, s.readGrant h (s.qOffset dppP h + 128 * i) 128, false⟩, last := h, seqs := tabSet 0 s2.dpp.seqs h n } }

/-- The fields of a descriptor. -/
structure DppDesc where
  src : Nat
  dst : Nat
  gw : Nat
  gh : Nat
  c : Nat
  obj : Bool
  fp16 : Bool
  agnostic : Bool
  cue : Nat
  cellPitch : Nat
  rowPitch : Nat
  sx : Nat
  sy : Nat
  zpBox : Int
  zpObj : Int
  zpCls : Int
  sBox : Nat
  sObj : Nat
  sCls : Nat
  thresh : Nat
  iou : Nat
  preK : Nat
  maxDet : Nat
  listId : Nat
  stamp : Nat
  source : Nat
  deriving DecidableEq, Repr

def parseDpp (bs : List Byte) : DppDesc :=
  let w := fun o => wordAt bs o
  { src := leNat (bs.take 8), dst := leNat ((bs.drop 8).take 8), gw := fld (w 0x10) 15 0, gh := fld (w 0x10) 31 16,
    c := fld (w 0x14) 7 0, obj := bit (w 0x14) 8, fp16 := bit (w 0x14) 9, agnostic := bit (w 0x14) 10, cue := fld (w 0x14) 31 16,
    cellPitch := fld (w 0x18) 15 0, rowPitch := (w 0x1C).toNat, sx := fld (w 0x20) 7 0, sy := fld (w 0x20) 15 8,
    zpBox := sext 8 (fld (w 0x20) 23 16), zpObj := sext 8 (fld (w 0x20) 31 24), zpCls := sext 8 (fld (w 0x24) 7 0),
    sBox := (w 0x28).toNat, sObj := (w 0x2C).toNat, sCls := (w 0x30).toNat, thresh := (w 0x34).toNat, iou := fld (w 0x38) 7 0,
    preK := fld (w 0x38) 20 8, maxDet := fld (w 0x3C) 8 0, listId := fld (w 0x3C) 31 16, stamp := leNat ((bs.drop 0x40).take 8),
    source := fld (w 0x48) 7 0 }

def DppDesc.esize (d : DppDesc) : Nat := if d.fp16 then 2 else 1
def DppDesc.chans (d : DppDesc) : Nat := 4 + (if d.obj then 1 else 0) + d.c

/-- The ranges of Table 8-10. -/
def DppDesc.ok (d : DppDesc) : Bool :=
  let within := fun (lo hi x : Nat) => decide (lo ≤ x) && decide (x ≤ hi)
  decide (d.src % 64 = 0) && decide (d.dst % 64 = 0) && within 1 512 d.gw && within 1 512 d.gh && within 1 64 d.c &&
  within (d.chans * d.esize) 4096 d.cellPitch && within 1 64 d.sx && within 1 64 d.sy && within 1 255 d.iou && within 1 4096 d.preK &&
  within 1 256 d.maxDet

/-- Bytes from SRC to the end of the last cell. -/
def DppDesc.srcBytes (d : DppDesc) : Nat := (d.gh - 1) * d.rowPitch + (d.gw - 1) * d.cellPitch + d.chans * d.esize
def DppDesc.dstBytes (d : DppDesc) : Nat := 64 + 16 * d.maxDet

/-! ## Decoding (R264) -/

structure Det where
  x1 : Nat
  y1 : Nat
  x2 : Nat
  y2 : Nat
  score : Nat
  cls : Nat
  k : Nat
  deriving DecidableEq, Repr

/-- A channel value in FP32. -/
def DppDesc.value (d : DppDesc) (cell : List Byte) (ch sc : Nat) (zp : Int) : Nat :=
  if d.fp16 then fF32.encode false (fF16.decode (halfAt cell (2 * ch)))
  else f32mul sc (f32ofInt (sext 8 (byteAt cell ch) - zp))

/-- An FP32 coordinate, clipped and converted to unsigned Q12.4. -/
def q124 (lim : Nat) (x : Nat) : Nat :=
  let v := match f32 x with
    | .fin n m e => Fl.fin n m (e + 4)
    | y => y
  (v.toIntSat 0 (min (16 * lim) 65535 : Nat)).toNat

/-- A key that orders FP32 scores that are not NaN. -/
def scoreKey (x : Nat) : Int := if x < 0x80000000 then (x : Int) else -((x - 0x80000000 : Nat) : Int)

def cellDets (d : DppDesc) (cell : List Byte) (gx gy : Nat) : List Det :=
  let half := fun (g s : Nat) => fF32.encode false (.fin false ((2 * g + 1) * s) (-1))
  let cx := half gx d.sx
  let cy := half gy d.sy
  let dist := fun (ch s : Nat) => f32mul (d.value cell ch d.sBox d.zpBox) (f32ofInt s)
  let x1 := q124 (d.gw * d.sx) (f32sub cx (dist 0 d.sx))
  let y1 := q124 (d.gh * d.sy) (f32sub cy (dist 1 d.sy))
  let x2 := max x1 (q124 (d.gw * d.sx) (f32add cx (dist 2 d.sx)))
  let y2 := max y1 (q124 (d.gh * d.sy) (f32add cy (dist 3 d.sy)))
  let o := if d.obj then 1 else 0
  (List.range d.c).filterMap fun c =>
    let v := d.value cell (4 + o + c) d.sCls d.zpCls
    let sc := if d.obj then f32add (d.value cell 4 d.sObj d.zpObj) v else v
    if (f32 d.thresh).le (f32 sc) then some ⟨x1, y1, x2, y2, sc, c, (gy * d.gw + gx) * d.c + c⟩ else none

/-! ## Suppression (R265) -/

/-- Inserts by score descending, then k ascending. -/
def insertDet (a : Det) : List Det → List Det
  | [] => [a]
  | b :: l => if scoreKey b.score < scoreKey a.score ∨ (scoreKey b.score = scoreKey a.score ∧ a.k < b.k) then a :: b :: l else b :: insertDet a l

def Det.area (a : Det) : Nat := (a.x2 - a.x1) * (a.y2 - a.y1)

def suppresses (d : DppDesc) (a b : Det) : Bool :=
  let inter := (min a.x2 b.x2 - max a.x1 b.x1) * (min a.y2 b.y2 - max a.y1 b.y1)
  (d.agnostic || decide (a.cls = b.cls)) && decide (d.iou * (a.area + b.area - inter) < inter * 256)

/-- The walk: kept boxes in order, and whether it ended at MAX_DET with candidates left. -/
def walkDets (d : DppDesc) : List Det → List Det → List Det × Bool
  | [], kept => (kept, false)
  | b :: l, kept =>
    if d.maxDet ≤ kept.length then (kept, true)
    else if kept.any fun a => suppresses d a b then walkDets d l kept
    else walkDets d l (kept ++ [b])

def detBytes (a : Det) : List Byte :=
  leBytes 4 (a.x1 + a.y1 * 0x10000) ++ leBytes 4 (a.x2 + a.y2 * 0x10000) ++ leBytes 4 a.score ++ leBytes 4 (a.cls + a.k * 0x100)

/-- Header (Table 8-11) and entries of a list. -/
def listBytes (d : DppDesc) (h cands : Nat) (pre det poison : Bool) (stamp seq : Nat) (kept : List Det) : List Byte × List Byte :=
  let flag := fun (b : Bool) (k : Nat) => if b then 2 ^ k else 0
  let entries := kept.flatMap detBytes
  let body := leBytes 4 0x4C445044 ++ leBytes 4 (kept.length + d.listId * 0x10000) ++ leBytes 4 cands ++
    leBytes 4 (flag pre 0 + flag det 1 + flag poison 2 + h * 0x100 + d.source * 0x10000) ++ leBytes 8 d.stamp ++ leBytes 8 stamp ++
    leBytes 4 seq ++ leBytes 24 0
  (body ++ leBytes 4 (crc32 (body ++ entries)).toNat, entries)

/-- Reads the cells in rising order and collects their candidates. -/
def State.dppDecode (s : State) (h : Nat) (d : DppDesc) : List Det × Bool × State :=
  (List.range (d.gw * d.gh)).foldl (fun x i =>
    let gx := i % d.gw
    let gy := i / d.gw
    let got := x.2.2.engineLoad h (d.src + gy * d.rowPitch + gx * d.cellPitch) (d.chans * d.esize)
    ((cellDets d got.1 gx gy).foldl (fun l a => insertDet a l) x.1, x.2.1 || got.2.1, got.2.2)) ([], false, s)

/-- Writes bytes of an engine in accesses of at most 64 bytes. -/
def State.engineStore (s : State) (h a : Nat) (bs : List Byte) (poisoned : Bool) : State :=
  (List.range ((bs.length + 63) / 64)).foldl (fun s k => (s.writeBy engineSrc h (a + 64 * k) ((bs.drop (64 * k)).take 64) poisoned).2) s

/-- A job ends with a status: registers, descriptor, Cues (R267, R268). -/
def State.dppFinish (s : State) (j : DppJob) (d : DppDesc) (status ns : Nat) (stamp : Option Nat) : State :=
  let h := j.hr
  let seq := tabGet 0 s.dpp.seqs h
  let s1 := s.writeGrant h (s.qOffset dppP h + 128 * j.index + 0x4C) (leBytes 4 (status + seq % 0x10000 * 0x10000))
  let s2 := (({ s1 with dpp := { s1.dpp with job := none } }).signalFor h d.cue).modHr h fun q => { q with engineUsed := q.engineUsed + ns }
  let s3 := match stamp with
    | some t => s2.hwSignal 0x30 t
    | none => s2
  let s4 := (s3.incReg dppP 0x0C0).setRegN dppP 0x0C4 (min (s3.regN dppP 0x0C4 + ns) 0xFFFFFFFF)
  let s5 := s4.setRegN dppP 0x0C8 (status * 0x10000000 + h * 0x1000000 + j.index)
  let s6 := if status = 1 then s5 else s5.raise dppP 0
  if s6.dpp.quiescing then
    (({ s6 with dpp := { s6.dpp with quiescing := false } }).toState dppP .hold).finishQuiesce dppP 2 none
  else s6

/-- DPP_JOB_END (R267): the list is committed, STATUS written, CUE and DPP_COMMIT signalled. -/
def execDppJobEnd (ns : Nat) (s : State) : Host.Outcome State Fault Refusal :=
  match s.dpp.job with
  | none => done s
  | some j =>
    let d := parseDpp j.desc
    let h := j.hr
    if j.stopped then done (s.dppFinish j d 4 ns none)
    else if !d.ok then done (s.dppFinish j d 2 ns none)
    else if !s.reachesAll h d.src d.srcBytes then done ((s.sramViolation engineSrc h d.src).dppFinish j d 3 ns none)
    else if !s.reachesAll h d.dst d.dstBytes then done ((s.sramViolation engineSrc h d.dst).dppFinish j d 3 ns none)
    else
      let x := s.dppDecode h d
      let cands := x.1
      let bad := x.2.1 || s.grantPoison h (s.qOffset dppP h + 128 * j.index) 128
      let w := walkDets d (cands.take d.preK) []
      let seq := tabGet 0 s.dpp.seqs h
      let b := listBytes d h cands.length (decide (d.preK < cands.length)) w.2 bad (now s) seq w.1
      let s1 := (x.2.2.engineStore h (d.dst + 64) b.2 false).engineStore h d.dst b.1 false
      done (s1.dppFinish j d 1 ns (some (now s)))

/-! ## The DPP page (R269) -/

/-- A queue's EN clears and its pending jobs are discarded. -/
def State.dropQueue (s : State) (h : Nat) : State :=
  (s.qDrop dppP h).qDisable dppP h

/-- The job in progress ends STOPPED and a held page runs again. -/
def State.dppStopJob (s : State) : State :=
  let t := match s.dpp.job with
    | some j => s.dppFinish j (parseDpp j.desc) 4 0 none
    | none => s
  if t.pageState dppP = .hold then t.toState dppP .running else t

/-- STOP: every EN clears, the job in progress ends STOPPED, pending jobs are discarded. -/
def dppStop (s : State) : Ans × State :=
  if !s.inState dppP [.running, .hold] then (ansDone, s)
  else (ansDone, ((List.range 8).foldl (fun u h => u.dropQueue h) s).dppStopJob)

def dppQuiesce (s : State) : Ans × State :=
  if s.pageState dppP ≠ .running then (ansDone, s)
  else if s.dpp.job.isSome then (ansAccepted, { s with dpp := { s.dpp with quiescing := true } })
  else (ansDone, s.toState dppP .hold)

def dppEnable (s : State) : Ans × State :=
  if s.pageState dppP = .hold then (ansDone, s.toState dppP .running) else (ansState, s)

end Sys2Proof.Machine
end

