-- ==== Sys2Proof/Machine/Weights.lean ====
section
/-!
DEFINITION. The WEIGHT page (section 9.1.1, Table 9-4): BUILD_BEGIN, SEGUE and the page's universal commands.
-/

namespace Sys2Proof.Machine

/-- The REGION check of Table 9-3. -/
def State.regionOk (s : State) (k : Nat) : Bool :=
  let p := weightP k
  let h := (s.page p).owner
  let n := s.weightBytes k
  let a := s.weightBase k false
  let b := s.weightBase k true
  let inMem := fun (x : Nat) => decide (0x2000000 ≤ x) && s.reachesAll h x n
  decide (0 < n) && decide (n ≤ 4096 * 16384) && decide (a % 4096 = 0) && decide (b % 4096 = 0) && inMem a && inMem b &&
  !overlaps a n b n && s.inGrant h (64 * s.regF p 0x054 23 0) 64

/-- ENABLE: IDLE to ARMED with copy A inactive, epoch 1 and COUNT 0; HOLD to RUNNING. -/
def weightEnable (s : State) (k : Nat) : Ans × State :=
  let p := weightP k
  match s.pageState p with
  | .idle =>
    if !s.regionOk k then (ansArg 1 0, s)
    else crcGate s p (ansDone, (((s.setRegN p 0x06C 0).setBank k { bits := [], epoch := 1 }).setRegN p 0x070 0).toState p .armed)
  | .hold => crcGate s p (ansDone, s.toState p .running)
  | _ => (ansState, s)

def weightDisable (s : State) (k : Nat) : Ans × State :=
  if s.inState (weightP k) [.armed, .hold] then (ansDone, s.bankEnd k .idle) else (ansState, s)

def weightStop (s : State) (k : Nat) : Ans × State :=
  if s.inState (weightP k) activeStates then (ansDone, s.bankEnd k .idle) else (ansDone, s)

/-- RESET_PAGE: reset values of every RW register. -/
def weightReset (s : State) (k : Nat) : Ans × State :=
  let p := weightP k
  if s.inState p [.idle, .fault] then
    let s1 := s.resetRegs p 0x040 0x068
    (ansDone, if s.pageState p = .fault then s1.toState p .idle else s1)
  else (ansState, s)

/-- BUILD_BEGIN (R272). -/
def execBuildBegin (r : Requester) (k : Fin 8) (arg : BitVec 24) (s : State) : Host.Outcome State Fault Refusal :=
  done (s.pageCmd r (weightP k.val) 0x10 arg fun s _ =>
    if s.inState (weightP k.val) [.armed, .running] then (ansDone, s.clearBuild k.val)
    else (ansState, s))

/-- SEGUE (R273): legal in ARMED and RUNNING, with every build bit set and a TEMPO page that ticks. -/
def execSegue (r : Requester) (k : Fin 8) (arg : BitVec 24) (s : State) : Host.Outcome State Fault Refusal :=
  let p := weightP k.val
  done (s.pageCmd r p 0x11 arg fun s _ =>
    if !s.inState p [.armed, .running] then (ansState, s)
    else if s.regF p 0x070 14 0 < s.regF p 0x050 14 0 then (ansArg 2 (s.regF p 0x070 14 0), s)
    else if !s.ticking then (ansStateSyn 4 0, s)
    else (ansAccepted, (s.setReg p 0x06C (setBit (s.reg p 0x06C) 29 true)).setRegN p 0x074 0))

end Sys2Proof.Machine
end

