-- ==== Sys2Proof/Machine/Codec.lean ====
section
/-!
DEFINITION. The Codec (section 9.4): its jobs, their blocks and ends, and the CODEC page.
-/

namespace Sys2Proof.Machine

/-! ## Descriptors (Table 9-9) -/

def CodecJob.w (j : CodecJob) (off : Nat) : Word := wordAt j.desc off
def CodecJob.op (j : CodecJob) : Nat := fld (j.w 0x10) 3 0
def CodecJob.src (j : CodecJob) : Nat := leNat (j.desc.take 8)
def CodecJob.srcHost (j : CodecJob) : Bool := bit (j.w 0x10) 4
def CodecJob.dstHost (j : CodecJob) : Bool := bit (j.w 0x10) 5
def CodecJob.fill (j : CodecJob) : Bool := bit (j.w 0x10) 6
def CodecJob.bankEn (j : CodecJob) : Bool := bit (j.w 0x10) 8
def CodecJob.bankNo (j : CodecJob) : Nat := fld (j.w 0x10) 11 9
def CodecJob.cue (j : CodecJob) : Nat := fld (j.w 0x10) 31 16
def CodecJob.first (j : CodecJob) : Nat := fld (j.w 0x14) 15 0
def CodecJob.count (j : CodecJob) : Nat := fld (j.w 0x14) 31 16
def CodecJob.raw (j : CodecJob) : Nat := (j.w 0x18).toNat
def CodecJob.param (j : CodecJob) : ApkvParam := ApkvParam.ofNat (fld (j.w 0x1C) 9 0)
def CodecJob.limit (j : CodecJob) : Nat := (j.w 0x20).toNat
def CodecJob.isDecode (j : CodecJob) : Bool := decide (j.op ≤ 2)

/-- Fields in range and reserved bits 0 (status ARG otherwise). -/
def CodecJob.argOk (j : CodecJob) : Bool :=
  decide (1 ≤ j.op) && decide (j.op ≤ 4) && !bit (j.w 0x10) 7 && decide (fld (j.w 0x10) 15 12 = 0) && decide (fld (j.w 0x1C) 31 10 = 0) &&
  (j.desc.drop 0x30).all (fun b => b == 0) && (j.bankEn || j.dstHost || decide (leNat ((j.desc.drop 8).take 8) % 64 = 0)) &&
  (!j.dstHost || decide (j.op = 3)) && (!j.bankEn || decide (j.op ≠ 3)) &&
  (j.isDecode || (decide (1 ≤ j.raw) && decide (j.raw ≤ 67108864))) &&
  (decide (j.op ≠ 3) || (j.param.ok && decide (j.raw % j.param.esize = 0)))

/-! ## Access -/

/-- Reads source bytes of a job; none: a host error. -/
def State.codecRead (s : State) (j : CodecJob) (host : List HostChunk) (a n : Nat) : Option (List Byte × Bool) × State :=
  if j.srcHost then ((chunkRead host a n).map fun b => (b, chunkBad host a n), s)
  else
    let g := s.engineLoad j.hr a n
    (some (g.1, g.2.1), g.2.2)

/-- FILL halves of tile slots a write has to wait for. -/
def State.fillWaits (s : State) (a n : Nat) : Bool :=
  match levelAt s.chip.grade a with
  | .tile t off => (s.writeWaits 1 t (halvesOf off n)).isSome
  | _ => false

def State.afterFill (s : State) (a n : Nat) : State :=
  match levelAt s.chip.grade a with
  | .tile t off => s.afterWrite 1 t (halvesOf off n)
  | _ => s

/-- Writes output bytes of a job to SRAM or to the host; with FILL an access that does not clash sets its tags (R161). -/
def State.codecWrite (s : State) (j : CodecJob) (a : Nat) (bs : List Byte) (poisoned : Bool) : State :=
  if j.dstHost then s.sendHost ⟨a, s.hostPasid j.hr, bs, poisoned⟩
  else
    (List.range ((bs.length + 63) / 64)).foldl (fun s k =>
      let piece := (bs.drop (64 * k)).take 64
      let w := s.writeBy engineSrc j.hr (a + 64 * k) piece poisoned
      if j.fill && !w.1 && s.reachesAll j.hr (a + 64 * k) piece.length then w.2.afterFill (a + 64 * k) piece.length else w.2) s

/-! ## Ends (R297, Table 9-10) -/

/-- Takes a queue's job out of those in progress. -/
def State.dropCodecJob (s : State) (h : Nat) : State :=
  { s with codec := { s.codec with jobs := s.codec.jobs.filter fun j => decide (j.hr ≠ h) } }

/-- A job ends with a status. -/
def State.codecFinish (s : State) (j : CodecJob) (status : Nat) : State :=
  let h := j.hr
  let st := if status = 1 && j.poisoned then 9 else status
  let seq := tabGet 0 s.codec.seqs h + 1
  let s1 := s.writeGrant h (j.at' + 0x24)
    (leBytes 4 (st + seq % 0x10000 * 0x10000) ++ leBytes 4 j.bytes ++ leBytes 4 (j.crc ^^^ 0xFFFFFFFF))
  let s2 := { s1 with codec := { s1.codec with seqs := tabSet 0 s1.codec.seqs h seq } }
  let s3 := ((s2.dropCodecJob h).signalFor h j.cue).hwSignal 0x31 (now s)
  let s4 := (s3.incReg codecP 0x0C0).setRegN codecP 0x0C8 (st * 0x10000000 + h * 0x1000000 + j.index)
  if st = 1 then s4 else s4.raise codecP 0

/-! ## Starts (R294, R295) -/

/-- Blocks the job would write, as first block and number, once its header is known. -/
def CodecJob.span (j : CodecJob) : Nat × Nat :=
  match j.head with
  | some d => (j.first, if j.count = 0 then d.blocks - j.first else j.count)
  | none => (if j.op = 3 then 0 else j.first, (j.raw + 4095) / 4096)

/-- The destination range lies in the homeroom's grants. -/
def State.codecDstOk (s : State) (j : CodecJob) : Bool :=
  let x := j.span
  if j.dstHost || j.bankEn then true
  else if j.op = 3 then s.reachesAll j.hr j.dst j.limit
  else
    let bytes := match j.head with
      | some d => (List.range x.2).foldl (fun n i => n + d.outOf (x.1 + i)) 0
      | none => j.raw
    s.reachesAll j.hr (if j.isDecode then j.dst else j.dst + 4096 * x.1) bytes

/-- The status a job that starts ends with at once, or none; with what the checks leave behind. -/
def State.codecCheck (s : State) (j : CodecJob) (host : List HostChunk) : Option Nat × CodecJob × State :=
  let wp := weightP j.bankNo
  let viol := fun (s : State) (a : Nat) => s.sramViolation engineSrc j.hr a
  if !j.argOk then (some 2, j, s)
  else if j.bankEn && decide ((s.page wp).owner ≠ j.hr) then (some 3, j, s.violateBy j.hr 4 1 0 engineSrc (pageBase wp) 0)
  else if !j.srcHost && !s.reachesAll j.hr j.src (if j.isDecode then 64 else j.raw) then (some 3, j, viol s j.src)
  else if j.bankEn && (s.seguePending j.bankNo || !s.inState wp activeStates) then (some 6, j, s)
  else
    let dst := if j.bankEn then s.weightBase j.bankNo (s.inactiveB j.bankNo) else leNat ((j.desc.drop 8).take 8)
    let j1 := { j with dst := dst, epoch := (s.bank j.bankNo).epoch }
    let r : Option Nat × CodecJob × State :=
      if !j.isDecode then (none, j1, s)
      else match s.codecRead j host j.src 64 with
        | (none, s1) => (some 7, j1, s1)
        | (some (bs, po), s1) => match parseHead bs with
          | none => (some 5, j1, s1)
          | some d =>
            if d.wpkf ≠ decide (j.op = 1) then (some 5, j1, s1)
            else if d.blocks ≤ j.first ∨ d.blocks < j.first + j.count then (some 2, j1, s1)
            else if !j.srcHost && !s1.reachesAll j.hr j.src d.streamBytes then (some 3, j1, viol s1 j.src)
            else (none, { j1 with head := some d, headBad := po }, s1)
    match r with
    | (none, j2, s2) =>
      let x := j2.span
      let j3 := { j2 with next := 0, past := x.2 }
      if j.bankEn && decide (s2.regF wp 0x050 14 0 < x.1 + x.2) then (some 2, j3, s2)
      else if !s2.codecDstOk j3 then (some 3, j3, viol s2 j3.dst)
      else (none, j3, s2)
    | r => r

/-- The next job of a queue is taken and checked. -/
def State.codecStart (s : State) (h : Nat) (host : List HostChunk) : State :=
  let i := s.qHead codecP h
  let at' := s.qOffset codecP h + 64 * i
  let s1 := (s.lookGrant h at' 64).setCueCount h (s.qCue codecP h) (s.qPending codecP h - 1)
  let s2 := s1.setRegF codecP (0x0A0 + 4 * h) 15 0 ((i + 1) % 2 ^ s.qLog2 codecP h)
  let j : CodecJob :=
    { hr := h, index := i, at' := at', desc := s.readGrant h at' 64, dst := 0, epoch := 0, head := none, headBad := false, lastOff := none, next := 0, past := 0,
      encoded := [], bytes := 0, crc := 0xFFFFFFFF, poisoned := false, stopped := false }
  if s.grantPoison h at' 64 then s2.codecFinish j 2
  else match s2.codecCheck j host with
    | (some st, j', s3) => s3.codecFinish j' st
    | (none, j', s3) => { s3 with codec := { s3.codec with jobs := s3.codec.jobs ++ [j'] } }

/-- The Codec runs and a queue has a job that has not started. -/
def State.codecReady (s : State) (h : Nat) : Bool :=
  decide (s.pageState codecP = .running) && !(s.codec.jobs.any fun j => decide (j.hr = h)) && s.qEn codecP h && decide (0 < s.qPending codecP h) && !s.shareSpent h

/-- A queue's next job starts where its OP is the command's. -/
def State.codecOp (s : State) (h op : Nat) (host : List HostChunk) : State :=
  let d := s.readGrant h (s.qOffset codecP h + 64 * s.qHead codecP h) 64
  if s.codecReady h && decide (fld (wordAt d 0x10) 3 0 = op) then s.codecStart h host else s

/-- DECODE_WPKF (R295): the next job of the queue starts. -/
def execDecodeWpkf (h : Fin 8) (host : List HostChunk) (s : State) : Host.Outcome State Fault Refusal := done (s.codecOp h.val 1 host)

/-- DECODE_APKV (R295). -/
def execDecodeApkv (h : Fin 8) (host : List HostChunk) (s : State) : Host.Outcome State Fault Refusal := done (s.codecOp h.val 2 host)

/-- ENCODE_APKV (R295). -/
def execEncodeApkv (h : Fin 8) (host : List HostChunk) (s : State) : Host.Outcome State Fault Refusal := done (s.codecOp h.val 3 host)

/-- COPY (R295). -/
def execCopyBlocks (h : Fin 8) (host : List HostChunk) (s : State) : Host.Outcome State Fault Refusal := done (s.codecOp h.val 4 host)

/-! ## Blocks (R296) -/

/-- The output of block `next` of a job: its data, its poison and its index word, or the status the job ends with. -/
def State.codecProduce (s : State) (j : CodecJob) (host : List HostChunk) : Except Nat (List Byte × Bool × Nat) × State :=
  match j.head with
  | none =>
    match s.codecRead j host (j.src + 4096 * j.next) (min 4096 (j.raw - 4096 * j.next)) with
    | (none, s1) => (.error 7, s1)
    | (some (bs, po), s1) => (.ok (if j.op = 3 then encodeBlock j.param bs else bs, po, 0), s1)
  | some d =>
    let i := j.first + j.next
    match s.codecRead j host (j.src + d.indexOff + 4 * i) 4 with
    | (none, s1) => (.error 7, s1)
    | (some (iw, p0), s1) =>
      let off := leNat iw
      if !blockAt d off 8 || (j.lastOff.map fun o => decide (off ≤ o)).getD false then (.error 5, s1)
      else match s1.codecRead j host (j.src + off) 8 with
      | (none, s2) => (.error 7, s2)
      | (some (hd, _), s2) =>
        let size := blockSize (wordAt hd 0)
        if !blockAt d off size then (.error 5, s2)
        else match s2.codecRead j host (j.src + off) size with
          | (none, s3) => (.error 7, s3)
          | (some (bs, p1), s3) =>
            match s3.codecRead j host (j.src + d.tableOff) (if d.wpkf then 128 * d.tables else 16) with
            | (none, s4) => (.error 7, s4)
            | (some (tb, p2), s4) =>
              let prm := ApkvParam.ofNat (wordAt tb 0).toNat
              if !d.wpkf && !paramRecordOk tb then (.error 5, s4)
              else match decodeBlock d.wpkf d.tables tb prm (d.outOf i) bs with
                | some r => (.ok (r, j.headBad || p0 || p1 || p2, off), s4)
                | none => (.error 5, s4)

/-- Where the output of the block goes. -/
def CodecJob.target (j : CodecJob) : Nat :=
  if j.op = 3 then j.dst + encodedBlockOff j.past + j.encoded.foldl (fun n b => n + b.length) 0
  else if j.bankEn || !j.isDecode then j.dst + 4096 * (j.first + j.next)
  else j.dst + 4096 * j.next

/-- The build bit of a block that was written (R272). -/
def State.blockBuilt (s : State) (j : CodecJob) (n : Nat) (po : Bool) : State :=
  let b := j.first + j.next
  if !j.bankEn then s
  else if po then s.setBuild j.bankNo b false
  else if j.epoch = (s.bank j.bankNo).epoch ∧ (n = 4096 ∨ b + 1 = s.regF (weightP j.bankNo) 0x050 14 0) then s.setBuild j.bankNo b true
  else s

/-- ENCODE: the header, parameter record and index come last (R295). -/
def State.encodeEnd (s : State) (j : CodecJob) : State :=
  let head := encodedHead j.param j.raw j.encoded
  let all := head ++ j.encoded.flatten
  (s.codecWrite j j.dst head false).codecFinish { j with bytes := all.length, crc := crcRun 0xFFFFFFFF all } 1

/-- One block of a job, and the job's end after its last block. -/
def State.codecStep (s : State) (j : CodecJob) (host : List HostChunk) : State :=
  let put := fun (s : State) (j : CodecJob) =>
    { s with codec := { s.codec with jobs := s.codec.jobs.map fun (x : CodecJob) => if x.hr = j.hr then j else x } }
  let a := j.target
  if j.stopped then s.codecFinish j 4
  else if j.bankEn && s.seguePending j.bankNo then s.codecFinish j 6
  else match s.codecProduce j host with
    | (.error st, s1) => s1.codecFinish j st
    | (.ok (bs, po, off), s1) =>
      if j.op = 3 ∧ j.limit < a - j.dst + bs.length then s1.codecFinish j 8
      else if j.fill && !j.dstHost && s1.fillWaits a bs.length then s
      else if !j.dstHost && s1.weightGuarded a bs.length then (s1.sramViolation engineSrc j.hr a).codecFinish j 3
      else
        let s2 := ((s1.codecWrite j a bs po).blockBuilt j bs.length po).incReg codecP 0x0CC
        let j2 :=
          { j with
            next := j.next + 1, lastOff := some off, bytes := j.bytes + bs.length, crc := crcRun j.crc bs, poisoned := j.poisoned || po,
            encoded := if j.op = 3 then j.encoded ++ [bs] else j.encoded }
        if j2.next < j2.past then put s2 j2
        else if j.op = 3 then s2.encodeEnd j2
        else s2.codecFinish j2 1

/-- CODEC_BLOCK (R296): the next queue in turn with a job starts it if need be and has one block of it processed. In HOLD no block
starts, and a job that was stopped ends (R298, R299). -/
def execCodecBlock (ns : Nat) (host : List HostChunk) (s : State) : Host.Outcome State Fault Refusal :=
  if s.pageState codecP = .hold then
    match s.codec.jobs.find? fun j => j.stopped with
    | some j => done (s.codecFinish j 4)
    | none => done s
  else if s.pageState codecP ≠ .running then done s
  else
    let order := (List.range 8).map fun k => (s.codec.last + 1 + k) % 8
    let jobOf := fun (s : State) (h : Nat) => s.codec.jobs.find? fun j => decide (j.hr = h)
    match order.find? fun h => (match jobOf s h with
        | some j => j.stopped || !s.shareSpent h
        | none => s.codecReady h) with
    | none => done s
    | some h =>
      let s1 := if (jobOf s h).isSome then s else s.codecStart h host
      let s2 := match jobOf s1 h with
        | some j => s1.codecStep j host
        | none => s1
      let s3 := { s2 with codec := { s2.codec with last := h } }
      done ((s3.modHr h fun q => { q with engineUsed := q.engineUsed + ns }).setRegN codecP 0x0C4 (min (s3.regN codecP 0x0C4 + ns) 0xFFFFFFFF))

/-! ## The CODEC page (R299) -/

/-- The jobs in progress end STOPPED. -/
def State.codecStopJobs (s : State) : State := s.codec.jobs.foldl (fun s j => s.codecFinish j 4) s

/-- A queue's EN clears and its pending jobs are discarded. -/
def State.codecDropQueue (s : State) (h : Nat) : State :=
  (s.qDrop codecP h).qDisable codecP h

def codecStop (s : State) : Ans × State :=
  if !s.inState codecP [.running, .hold] then (ansDone, s)
  else
    let s1 := ((List.range 8).foldl (fun u h => u.codecDropQueue h) s).codecStopJobs
    (ansDone, if s1.pageState codecP = .hold then s1.toState codecP .running else s1)

def codecEnable (s : State) : Ans × State :=
  if s.pageState codecP = .hold then (ansDone, s.toState codecP .running) else (ansState, s)

end Sys2Proof.Machine
end

