-- ==== Sys2Proof/Machine/Kv.lean ====
section
/-!
DEFINITION. The KV Pager (section 9.5): sequences and their pages, requests, swaps, batches, and the KV page.
-/

namespace Sys2Proof.Machine

def State.modKv (s : State) (f : Kv → Kv) : State := { s with kv := f s.kv }

/-! ## Pool and lists (R300 to R302) -/

def State.kvTokenBytes (s : State) : Nat := s.regF kvP 0x044 16 0
def State.kvPageBytes (s : State) : Nat := 16 * s.kvTokenBytes
def State.kvPool (s : State) : Nat := s.regF kvP 0x050 15 0
def State.kvMax (s : State) : Nat := s.regF kvP 0x054 10 0
def State.kvPageAddr (s : State) (q : Nat) : Nat := s.reg64 kvP 0x048 + q * s.kvPageBytes
def State.kvListOff (s : State) (q : Nat) : Nat := 64 * s.regF kvP 0x058 23 0 + 4096 + q * 2 * s.kvMax

def State.seqPages (s : State) (q : Nat) : Nat := fld (s.seqWord q 0) 31 16
def State.seqLength (s : State) (q : Nat) : Nat := fld (s.seqWord q 1) 23 0
def State.seqPriority (s : State) (q : Nat) : Nat := fld (s.seqWord q 0) 15 8

/-- The page list of a sequence. -/
def State.kvList (s : State) (q : Nat) : List Nat :=
  let bs := s.readGrant s.kvClient (s.kvListOff q) (2 * s.seqPages q)
  (List.range (s.seqPages q)).map (halfAt bs ∘ (2 * ·))

/-- Every page number of the list is one the sequence holds (R302). -/
def State.kvListOk (s : State) (q : Nat) : Bool :=
  (s.kvList q).all fun n => decide (n < s.kvPool) && decide (tabGet 0 s.kv.used n = q + 1)

def State.kvShowFree (s : State) : State := s.setRegN kvP 0x080 (s.kvPool - s.kv.used.length)

def State.kvFree (s : State) : Nat := s.kvPool - s.kv.used.length

/-- The pages of a sequence go back to the pool. -/
def State.kvRelease (s : State) (q : Nat) : State :=
  (s.modKv fun k => { k with used := k.used.filter fun e => decide (e.2 ≠ q + 1) }).kvShowFree

/-- Takes the n lowest free pages for a sequence (R305, R308). -/
def State.kvTake (s : State) (q n : Nat) : List Nat × State :=
  let pages := ((List.range s.kvPool).filter fun k => decide (tabGet 0 s.kv.used k = 0)).take n
  (pages, (s.modKv fun k => { k with used := pages.foldl (fun m p => tabSet 0 m p (q + 1)) k.used }).kvShowFree)

/-- Writes page numbers into the list of a sequence from an entry on. -/
def State.kvPutList (s : State) (q first : Nat) (pages : List Nat) : State :=
  s.writeGrant s.kvClient (s.kvListOff q + 2 * first) (pages.flatMap (leBytes 2))

/-- A sequence becomes LOST and its pages are free (R308). -/
def State.kvLose (s : State) (q : Nat) : State :=
  (((s.setSeqWord q 0 (setFld (setFld (s.seqWord q 0) 2 0 5) 31 16 0)).kvRelease q).raise kvP 2)

/-! ## Swaps (R307, R308) -/

def State.kvSlot (s : State) (q : Nat) : Nat := s.reg64 kvP 0x064 + q * s.regN kvP 0x06C
def State.kvParam (s : State) : ApkvParam := ApkvParam.ofNat (s.regF kvP 0x070 9 0)

def State.kvHostErr (s : State) : State := s.bumpF kvP 0x094 15 0 1

/-- A swap-out is written to the host and waits for its read-back. A sequence with an invalid page becomes LOST instead. -/
def State.kvSwapOut (s : State) (q : Nat) : State :=
  if !s.kvListOk q then s.kvLose q
  else
    let s := s.lookGrant s.kvClient (s.kvListOff q) (2 * s.seqPages q)
    let got := (s.kvList q).foldl (fun (x : List Byte × Bool × State) n =>
      let g := x.2.2.engineLoad s.kvClient (s.kvPageAddr n) s.kvPageBytes
      (x.1 ++ g.1, x.2.1 || g.2.1, g.2.2)) ([], false, s)
    let stream := encodeStream s.kvParam got.1
    let s1 := got.2.2
    let wr : HostWrite := ⟨s.kvSlot q, s.hostPasid s.kvClient, stream, got.2.1⟩
    let s2 := s1.sendHost wr
    (s2.setSeqState q 2).modKv fun k => { k with swap := some ⟨q, crc32 stream⟩ }

/-- The read-back completes (R307). -/
def State.kvSwapDone (s : State) (w : KvSwap) (ok : Bool) : State :=
  let s1 := s.modKv fun k => { k with swap := none }
  if ok then
    let s2 := ((s1.kvRelease w.seq).setSeqWord w.seq 3 w.crc).setSeqState w.seq 3
    (s2.bumpF kvP 0x08C 31 16 1).hwSignal 0x32 (now s)
  else (s1.setSeqState w.seq 1).kvHostErr

/-- The outcome of a swap-in: done, no page for it, failed. -/
inductive SwapIn where
  | done | noPages | lost
  deriving DecidableEq, Repr

/-- A swap-in (R308). -/
def State.kvSwapIn (s : State) (q : Nat) (host : List HostChunk) : SwapIn × State :=
  let need := s.seqPages q
  let at' := s.kvSlot q
  let lose := fun (s : State) => (SwapIn.lost, s.kvLose q)
  if s.kvFree < need then (.noPages, s)
  else match (chunkRead host at' 64).bind fun hd => chunkRead host at' (wordAt hd 0x1C).toNat with
    | none => lose s.kvHostErr
    | some bs =>
      if crc32 bs ≠ s.seqWord q 3 || chunkBad host at' bs.length then lose s
      else
        let raw := if need = 0 then some [] else decodeStream bs
        match raw with
        | none => lose s
        | some out =>
          if out.length ≠ need * s.kvPageBytes then lose s
          else
            let t := s.kvTake q need
            let s1 := (t.1.zip (List.range need)).foldl (fun u e =>
              u.engineStore s.kvClient (s.kvPageAddr e.1) ((out.drop (e.2 * s.kvPageBytes)).take s.kvPageBytes) false) t.2
            (.done, (((s1.kvPutList q 0 t.1).setSeqState q 1).bumpF kvP 0x08C 15 0 1).hwSignal 0x32 (now s))

/-! ## Requests (Table 9-13, R303) -/

def KvReq.w (r : KvReq) (off : Nat) : Word := wordAt r.bytes off
def KvReq.op (r : KvReq) : Nat := fld (r.w 0) 3 0
def KvReq.seq (r : KvReq) : Nat := fld (r.w 0) 15 8
def KvReq.priority (r : KvReq) : Nat := fld (r.w 0) 23 16
def KvReq.cue (r : KvReq) : Nat := fld (r.w 4) 15 0
def KvReq.entries (r : KvReq) : Nat := fld (r.w 4) 24 16
def KvReq.list (r : KvReq) : Nat := 64 * fld (r.w 8) 23 0
def KvReq.out (r : KvReq) : Nat := 64 * fld (r.w 0xC) 23 0
def KvReq.limit (r : KvReq) : Nat := (r.w 0x10).toNat

/-- Real tokens admitted so far. -/
def KvReq.tokens (r : KvReq) : Nat := r.results.foldl (fun n e => if e.1 = 0 then n + e.2.2 else n) 0

/-- A request ends with a status. -/
def State.kvFinish (s : State) (r : KvReq) (status : Nat) : State :=
  let h := s.kvClient
  let base := 64 * s.regF kvP 0x05C 23 0 + 32 * r.index
  let s1 := s.writeGrant h (base + 0x14) (leBytes 4 (status + r.number % 0x10000 * 0x10000) ++ leBytes 4 r.tokens)
  let s2 := ((s1.modKv fun k => { k with req := none, swap := none, halted := false }).signalFor h r.cue).setRegN kvP 0x090
    (status * 0x10000000 + r.index)
  let s3 := if status = 1 then s2 else s2.raise kvP 0
  if s3.kv.quiescing then (((s3.modKv fun k => { k with quiescing := false }).toState kvP .hold).finishQuiesce kvP 2 none) else s3

/-! ## BATCH (R305, R306, R310) -/

/-- Entry i of the length table: sequence and new tokens. -/
def State.kvEntry (s : State) (r : KvReq) (i : Nat) : Nat × Nat :=
  let w := wordAt (s.readGrant s.kvClient (r.list + 4 * i) 4) 0
  (fld w 7 0, fld w 20 8)

def State.kvEntries (s : State) (r : KvReq) : List (Nat × Nat) := (List.range r.entries).map (s.kvEntry r)

/-- The table is one R305 allows. -/
def State.kvTableOk (s : State) (r : KvReq) : Bool :=
  let l := s.kvEntries r
  decide (1 ≤ r.entries) && decide (r.entries ≤ 256) && l.all (fun e => decide (e.2 ≤ 4096)) &&
  decide (l.foldl (fun n e => n + e.2) 0 ≤ 65536) && ((List.range 256).all fun q => decide ((l.filter fun e => decide (e.1 = q)).length ≤ 1))

/-- The victim for an entry of a priority (R306). -/
def State.kvVictim (s : State) (r : KvReq) (priority : Nat) : Option Nat :=
  let named := (s.kvEntries r).map (·.1)
  let cand := (List.range 256).filter fun q =>
    decide (s.seqState q = 1) && !named.contains q && !r.failed.contains q && decide (s.seqPriority q ≤ priority)
  let key := fun (q : Nat) => s.seqPriority q * 0x100000000 + (s.seqWord q 2).toNat
  cand.foldl (fun best q => match best with
    | none => some q
    | some b => if key q ≤ key b then some q else some b) none

def State.kvPushResult (s : State) (r : KvReq) (x : Nat × Nat × Nat) : State :=
  s.modKv fun k => { k with req := some { r with entry := r.entry + 1, results := r.results ++ [x] } }

/-- Step 4 of R305 for a resident sequence. -/
def State.kvAdmit (s : State) (r : KvReq) (q n : Nat) : State :=
  let len := s.seqLength q
  let have' := s.seqPages q
  let t := s.kvTake q ((len + n + 15) / 16 - have')
  let s1 := t.2.kvPutList q have' t.1
  let s2 := s1.setSeqWord q 0 (setFld (s1.seqWord q 0) 31 16 (have' + t.1.length))
  ((s2.setSeqWord q 1 (word (len + n))).setSeqWord q 2 (word s.kv.batches)).kvPushResult r (0, len, n)

/-- One entry: its result, or a swap-out it waits for. -/
def State.kvEntryStep (s : State) (r : KvReq) : State :=
  let e := s.kvEntry r r.entry
  let q := e.1
  let st := s.seqState q
  let total := (s.seqLength q + e.2 + 15) / 16
  if st = 0 ∨ st = 5 then s.kvPushResult r (4, 0, 0)
  else if s.kvMax < total then s.kvPushResult r (3, 0, 0)
  else if st = 1 ∧ !s.kvListOk q then (s.kvLose q).kvPushResult r (2, 0, 0)
  else
    let need := (if st = 3 then s.seqPages q else 0) + (total - s.seqPages q)
    if s.kvFree < need then
      match s.kvVictim r (s.seqPriority q) with
      | some v => s.kvSwapOut v
      | none => s.kvPushResult r (1, 0, 0)
    else if st = 3 then
      match s.kvSwapIn q r.host with
      | (.done, s1) => s1.kvAdmit r q e.2
      | (_, s1) => s1.kvPushResult r (2, 0, 0)
    else s.kvAdmit r q e.2

/-- The batch output (R310). Results, token map and page lists follow the header in that order. -/
def State.kvOutput (s : State) (r : KvReq) : Bool × List Byte :=
  let es := (s.kvEntries r).zip r.results
  let lists := es.map fun e => if e.2.1 = 0 then (s.kvList e.1.1).map s.kvPageAddr else []
  let firsts := lists.foldl (fun (a : List Nat × Nat) l => (a.1 ++ [a.2], a.2 + l.length)) ([], 0)
  let results := (es.zip firsts.1).flatMap fun x =>
    leBytes 4 (x.1.1.1 + x.1.2.1 * 0x100) ++ leBytes 4 x.1.2.2.1 ++ leBytes 4 x.1.2.2.2 ++ leBytes 4 (x.2 % 0x100000)
  let map := (es.zip (List.range es.length)).flatMap fun x =>
    if x.1.2.1 = 0 then (List.range x.1.2.2.2).flatMap fun i => leBytes 4 (x.2 + (x.1.2.2.1 + i) * 0x100) else []
  let mapOff := 64 + results.length
  let listOff := mapOff + map.length
  let head := leBytes 4 r.tokens ++ leBytes 4 r.entries ++ leBytes 4 64 ++ leBytes 4 mapOff ++ leBytes 4 listOff ++ leBytes 44 0
  let all := head ++ results ++ map ++ lists.flatten.flatMap (leBytes 4)
  if r.limit < all.length then (false, (head ++ results).take r.limit) else (true, all)

/-- Treats entries until the batch ends or waits for a swap-out. -/
def State.kvBatchRun (s : State) : Nat → State
  | 0 => s
  | k + 1 =>
    match s.kv.req with
    | none => s
    | some r =>
      if s.kv.swap.isSome then s
      else if r.entry < r.entries then (s.kvEntryStep r).kvBatchRun k
      else
        let o := s.kvOutput r
        let s1 := s.writeGrant s.kvClient r.out o.2
        s1.kvFinish r (if !o.1 then 5 else if r.results.all fun e => decide (e.1 = 0) then 1 else 6)

/-- Entries and victims of one batch. -/
def kvFuel : Nat := 1024

/-! ## The commands -/

/-- What a request with its state of the sequence does: a status, or none while a swap-out or a batch goes on. -/
def State.kvOpRun (s : State) (r : KvReq) : State :=
  let q := r.seq
  let st := s.seqState q
  match r.op with
  | 1 => if st ≠ 0 then s.kvFinish r 2
    else ((s.setSeqWord q 0 (word (1 + r.priority * 0x100))).setSeqWord q 1 0).kvFinish r 1
  | 2 =>
    if !s.inGrant s.kvClient r.list (4 * r.entries) then (s.violateBy s.kvClient 4 2 0 engineSrc (r.list % 0x100000000) 0).kvFinish r 3
    else if !s.inGrant s.kvClient r.out r.limit then (s.violateBy s.kvClient 4 2 0 engineSrc (r.out % 0x100000000) 0).kvFinish r 3
    else if !s.kvTableOk r then s.kvFinish r 2
    else (s.modKv fun k => { k with batches := k.batches + 1 }).kvBatchRun kvFuel
  | 3 => ((s.setSeqWord q 0 (setFld (setFld (s.seqWord q 0) 2 0 0) 31 16 0)).kvRelease q).kvFinish r 1
  | 4 =>
    if st ≠ 1 then s.kvFinish r 2
    else
      let s1 := s.kvSwapOut q
      if s1.kv.swap.isSome then s1 else s1.kvFinish r 2
  | 5 =>
    if st ≠ 3 then s.kvFinish r 2
    else match s.kvSwapIn q r.host with
      | (.done, s1) => s1.kvFinish r 1
      | (.noPages, s1) => s1.kvFinish r 2
      | (.lost, s1) => s1.kvFinish r 7
  | 6 => (s.setSeqWord q 0 (setFld (s.seqWord q 0) 15 8 r.priority)).kvFinish r 1
  | _ => s.kvFinish r 2

/-- A command runs the request at the head of the ring where it is of its operation, or of none. -/
def State.kvRun (s : State) (op ns : Nat) (host : List HostChunk) : State :=
  let h := s.kvClient
  let i := s.regF kvP 0x084 15 0
  let bs := s.readGrant h (64 * s.regF kvP 0x05C 23 0 + 32 * i) 32
  let theirs := fld (wordAt bs 0) 3 0
  if s.pageState kvP ≠ .running ∨ s.kv.req.isSome ∨ s.kvPending = 0 ∨ s.shareSpent h ∨
     !(decide (theirs = op) || decide (theirs = 0) || decide (6 < theirs)) then s
  else
    let r : KvReq := { index := i, bytes := bs, number := s.kv.requests + 1, host := host, entry := 0, results := [], failed := [] }
    let s1 := (s.setCueCount h (s.regF kvP 0x060 15 0) (s.kvPending - 1)).setRegF kvP 0x084 15 0 ((i + 1) % s.ringSize kvP 0x05C)
    let look := fun (s : State) =>
      if op = 2 then (s.lookGrant h (s.seqOff 0) 4096).lookGrant h r.list (4 * r.entries) else s.lookGrant h (s.seqOff r.seq) 16
    let s2 := (look (s1.lookGrant h (64 * s.regF kvP 0x05C 23 0 + 32 * i) 32)).modKv fun k => { k with req := some r, requests := k.requests + 1 }
    (s2.kvOpRun r).modHr h fun q => { q with engineUsed := q.engineUsed + ns }

/-- OPEN (R304). -/
def execOpenSeq (ns : Nat) (s : State) : Host.Outcome State Fault Refusal := done (s.kvRun 1 ns [])

/-- BATCH (R305). -/
def execBatchSeq (ns : Nat) (host : List HostChunk) (s : State) : Host.Outcome State Fault Refusal := done (s.kvRun 2 ns host)

/-- CLOSE (R304). -/
def execCloseSeq (ns : Nat) (s : State) : Host.Outcome State Fault Refusal := done (s.kvRun 3 ns [])

/-- SWAP_OUT (R307): it ends with SWAP_OUT_READBACK_DONE. -/
def execSwapOut (ns : Nat) (s : State) : Host.Outcome State Fault Refusal := done (s.kvRun 4 ns [])

/-- SWAP_IN (R308). -/
def execSwapIn (ns : Nat) (host : List HostChunk) (s : State) : Host.Outcome State Fault Refusal := done (s.kvRun 5 ns host)

/-- SET_PRIORITY (R304). -/
def execSetPriority (ns : Nat) (s : State) : Host.Outcome State Fault Refusal := done (s.kvRun 6 ns [])

/-- SWAP_OUT_READBACK_DONE (R307): the read-back of the stream's last word completes, without error where ok. A batch goes
on. Where the request was stopped meanwhile, it ends STOPPED. -/
def execSwapOutReadbackDone (ok : Bool) (ns : Nat) (s : State) : Host.Outcome State Fault Refusal :=
  match s.kv.req with
  | none => done s
  | some r =>
    if s.kv.halted then done (s.kvFinish r 4)
    else match s.kv.swap with
      | none => done s
      | some w =>
        let s1 := (s.kvSwapDone w ok).modHr s.kvClient fun q => { q with engineUsed := q.engineUsed + ns }
        if r.op = 4 then done (s1.kvFinish r (if ok then 1 else 7))
        else
          let s2 := if ok then (s1.bumpF kvP 0x088 31 0 1).raise kvP 1
            else s1.modKv fun k => { k with req := some { r with failed := r.failed ++ [w.seq] } }
          done (s2.kvBatchRun kvFuel)

/-! ## The KV page (Table 9-15, Table 9-16) -/

def State.kvRegionOk (s : State) : Bool :=
  let h := s.kvClient
  let tb := s.kvTokenBytes
  let lg := s.regF kvP 0x05C 27 24
  decide (64 ≤ tb) && decide (tb ≤ 65536) && decide (tb % 64 = 0) && decide (s.reg64 kvP 0x048 % 4096 = 0) && decide (1 ≤ s.kvPool) &&
  decide (1 ≤ s.kvMax) && decide (s.kvMax ≤ 1024) && decide (4 ≤ lg) && decide (lg ≤ 10) && decide (s.reg64 kvP 0x064 % 4096 = 0) &&
  decide (s.regN kvP 0x06C % 4096 = 0) && s.kvParam.ok && s.reachesAll h (s.reg64 kvP 0x048) (s.kvPool * s.kvPageBytes) &&
  s.inGrant h (64 * s.regF kvP 0x058 23 0) (4096 + 256 * 2 * s.kvMax) && s.inGrant h (64 * s.regF kvP 0x05C 23 0) (32 * 2 ^ lg) &&
  s.ownsCue h (s.regF kvP 0x060 15 0)

/-- The size of the largest stream (R309). -/
def State.kvSlotNeed (s : State) : Nat := 80 + 4112 * ((s.kvMax * s.kvPageBytes + 4095) / 4096)

def kvEnable (s : State) : Ans × State :=
  match s.pageState kvP with
  | .idle =>
    let h := s.kvClient
    if h = 0 ∨ (s.page (hrP h)).owner ≠ h then (ansArg 1 0, s)
    else if !s.kvRegionOk then (ansArg 2 0, s)
    else if s.regN kvP 0x06C < s.kvSlotNeed then (ansArg 3 0, s)
    else
      let s1 := s.writeGrant h (s.seqOff 0) (List.replicate 4096 0)
      (ansDone, ((s1.modKv fun _ => Kv.atReset).kvShowFree).toState kvP .running)
  | .hold => (ansDone, s.toState kvP .running)
  | _ => (ansState, s)

def kvQuiesce (s : State) : Ans × State :=
  if s.pageState kvP ≠ .running then (ansDone, s)
  else if s.kv.req.isSome then (ansAccepted, s.modKv fun k => { k with quiescing := true })
  else (ansDone, s.toState kvP .hold)

def kvDisable (s : State) : Ans × State :=
  if s.pageState kvP = .hold then (ansDone, s.toState kvP .idle) else (ansState, s)

/-- STOP: the request in progress ends STOPPED. -/
def kvStop (s : State) : Ans × State :=
  let s1 := s.kvHalt
  (ansDone, match s1.kv.req with
    | some r => if s1.kv.halted then s1.kvFinish r 4 else s1
    | none => s1)

/-- RESET_PAGE: reset values. -/
def kvReset (s : State) : Ans × State :=
  if s.inState kvP [.idle, .fault] then
    let s1 := s.resetRegs kvP 0x040 0x094
    (ansDone, if s.pageState kvP = .fault then s1.toState kvP .idle else s1)
  else (ansState, s)

end Sys2Proof.Machine
end

