-- ==== Sys2Proof/Machine/Dynamics.lean ====
section
/-!
DEFINITION. Dynamics (chapter 14): descents, wakes, the thermal throttle, the brown-out warning, and the DYNAMICS page.
-/

namespace Sys2Proof.Machine

def compP : PageRef := ⟨.compositor, 0⟩

/-- WAKE_TOL_WRITE (R470): HR_WAKE_TOL of a homeroom. -/
def execWakeTolWrite (r : Requester) (h : Fin 8) (v : Word) (s : State) : Host.Outcome State Fault Refusal :=
  done (s.guardWrite r (hrP h.val) 0x04C fun s _ => s.plainWrite (hrP h.val) 0x04C v)

/-! ## Descents (R474, Table 14-1) -/

/-- A change of STATE: the time is credited, STATE_CHANGE raised. -/
def State.setDyn (s : State) (dst : Nat) : State := ((s.creditRes).setRegF dynP 0x040 2 0 dst).raise dynP 0

/-- Pages whose domain is off in PIANISSIMO and TACET: the Locker stacks, engines and IO; the sensors and axes of a die that is
not pinned (Table 14-1). -/
def State.deepPages (s : State) : List PageRef :=
  let pins := s.loopPins
  (allPages s.chip.grade).filter fun p => match p.ty with
    | .locker | .dma | .camera | .pfe | .dpp | .codec | .eth | .can | .compositor => true
    | .loop | .pstage | .angle => !pins.testBit (p.inst / 8)
    | .jsl => !pins.testBit (p.inst / 4)
    | .adc => !pins.testBit p.inst
    | _ => false

/-- Pages that only TACET turns off. -/
def State.tacetPages (s : State) : List PageRef :=
  (allPages s.chip.grade).filter fun p => match p.ty with
    | .cue | .weight | .kv | .tempo => true
    | _ => false

/-- A page of a unit that TACET turns off from any state (Table 9-4, Table 9-16, R56). -/
def State.sleepAny (s : State) (p : PageRef) : State :=
  if s.inState p [.off, .excused, .locked] then s
  else (s.modPage p fun g => { g with asleep := some g.state }).toState p .off

def State.linkPm (s : State) (v : Nat) : State := if s.msix.linkUp then s.setRegF (pcieP 0) 0x040 17 16 v else s

/-- A frame of the Compositor and a COMMIT end with the power of the IO domain (R518). -/
def State.compOff (s : State) : State :=
  { (s.finishAll compP 3 none) with comp := { CompUnit.atReset with started := s.comp.started } }

/-- PIANISSIMO: the Sections go into retention or are gated, engines, IO and unpinned LOOP domains off. -/
def State.enterPianissimo (s : State) : State :=
  let s1 := (List.range 4).foldl (fun s q => s.gateSection q (s.usedSection q)) s
  ((s1.deepPages.foldl (fun s p => s.sleepPage p) s1).syncCheck.compOff).linkPm 1

/-- What TACET loses beside power: SRAM, Scores, Cue counts and waiters, bank switches, KV jobs, ticks, Ostinato tables and
Locker counters (R479, Table 5-15, Table 9-4, Table 9-16, R337). -/
def State.loseAll (s : State) : State :=
  let s1 := (List.range 8).foldl (fun s k => if s.inState (weightP k) activeStates then s.bankEnd k .idle else s) s
  let s2 := (List.range 32).foldl (fun s t => if (s.tile t).act.isSome then (s.dropWaiters t).leaveTile t else s) s1.kvHalt
  let s3 := (List.range 8).foldl (fun s h => s.modHr h fun r => { r with
    score := none, pendingScore := none, oldScores := [], replaced := none, readmit := false }) s2
  let s4 := (s3.updateReflex.dropChange.modTempo fun t => { t with quiet := false, quietDue := false }).finishAll tempoP 3 none
  let s5 := if s4.ticking then s4.ticksStop.restartWindows else s4
  let s6 := (List.range s5.chip.grade.axes).foldl (fun s n => s.resetRegs (loopP n) 0x800 0xFFC) s5
  let s7 := (List.range s6.chip.grade.stacks).foldl (fun s k => (s.resetRegs (lockerP k) 0x048 0x060).resetReg (lockerP k) 0x070) s6
  let s8 := (List.range 256).foldl (fun s b => s.resetRegs (cueP b) 0x100 0x2FC) s7
  { s8 with mem := [], sram := { s8.sram with poison := [], errs := [], stale := [], tags := [] },
            cues := { s8.cues with counts := [], copies := [], waiters := [] } }

def State.enterTacet (s : State) : State :=
  let s1 := s.loseAll
  let s2 := (List.range 4).foldl (fun s q => s.gateSection q false) s1
  let s3 := s2.tacetPages.foldl (fun s p => s.sleepAny p) (s2.deepPages.foldl (fun s p => s.sleepPage p) s2)
  (s3.syncCheck.compOff).linkPm 3

/-- PIANO: the unused Sections are gated. -/
def State.enterPiano (s : State) : State :=
  (List.range 4).foldl (fun s q => if s.usedSection q then s else s.gateSection q false) s

/-- A descent goes straight to a state. -/
def State.descend (s : State) (dst : Nat) : State :=
  let s1 := if dst = 2 then s.enterPiano else if dst = 3 then s.enterPianissimo else if dst = 4 then s.enterTacet else s
  (s1.setDyn dst).modDyn fun d => { d with dwellFrom := none, due := false }

/-- A descent that is due falls after step 5 of a Beat boundary; a wake source in the same cycle is taken instead (R474,
R475). -/
def State.dynBeat (s : State) : State :=
  if s.dyn.due && s.dyn.wake.isNone && decide (s.dynState < s.dynTarget) then s.descend s.dynTarget else s

/-- DWELL_EXPIRY (R474): the target has stayed deeper for DYN_DWELL_US. While ticks run the descent waits for the next Beat
boundary. -/
def execDwellExpiry (time : Dword) (s : State) : Host.Outcome State Fault Refusal :=
  match s.dyn.dwellFrom with
  | none => done s
  | some t0 =>
    let s1 := advanceTo time.toNat s
    if now s1 < t0 + 1000 * s1.regF dynP 0x04C 23 0 ∨ s1.dyn.wake.isSome ∨ s1.dynTarget ≤ s1.dynState then done s1
    else if s1.ticking then done (s1.modDyn fun d => { d with due := true })
    else done (s1.descend s1.dynTarget)

/-! ## Host access to SRAM (R157, R191, R491) -/

/-- One access of at most 64 bytes within an access unit. -/
def State.bar2Unit (s : State) (pasid : Option (BitVec 20)) (h a : Nat) (write : Bool) (bs : List Byte) : List Byte × Bool × State :=
  let r : Requester := .host pasid
  if write then ([], false, (s.streamWrite r h a bs false).2)
  else
    let x := s.streamRead r h a bs.length
    (x.1.data, x.1.poisoned, x.2)

/-- The units of an access, in rising address. -/
def State.bar2Run (s : State) (pasid : Option (BitVec 20)) (h a : Nat) (write : Bool) : Nat → List Byte → List Byte × Bool × State
  | 0, _ => ([], false, s)
  | k + 1, bs =>
    if bs.isEmpty then ([], false, s)
    else
      let n := 64 - a % 64
      let x := s.bar2Unit pasid h a write (bs.take n)
      let y := x.2.2.bar2Run pasid h (a + n) write k (bs.drop n)
      (x.1 ++ y.1, x.2.1 || y.2.1, y.2.2)

/-- A BAR2 access that is served. A read's data goes to the host, poisoned data with EP set (R171). -/
def State.bar2 (s : State) (pasid : Option (BitVec 20)) (a : Nat) (write : Bool) (data : List Byte) : State :=
  match s.requesterHr (.host pasid) with
  | none =>
    let s1 := s.unmappedBy (.host pasid) write
    if write then s1 else s1.answer (List.replicate data.length 0) false
  | some h =>
    let x := s.bar2Run pasid h a write (data.length + 1) data
    if write then x.2.2 else x.2.2.answer x.1 x.2.1

/-- HOST_SRAM_ACCESS (R191): an access through BAR2; of a read, `data` has the length. -/
def execHostSramAccess (pasid : Option (BitVec 20)) (addr : Word) (write : Bool) (data : List Byte) (s : State) :
    Host.Outcome State Fault Refusal :=
  if 0x10000000 ≤ addr.toNat then done s
  else if s.dynState = 4 then
    (let s1 := s.wakeBy 1
     done (if write then s1 else s1.answer (List.replicate data.length 0) false))
  else if s.dynState = 3 then
    (let s1 := s.wakeBy 1
     done { s1 with sram := { s1.sram with heldHost := s1.sram.heldHost ++ [(pasid, addr.toNat, write, data)] } })
  else done (s.bar2 pasid addr.toNat write data)

/-! ## Wakes (section 14.3) -/

/-- The Conductor image comes back after TACET (R480). A header or a body that does not match, or a flash error, lowers the level
to SAFE-STOP. -/
def State.reloadConductor (s : State) (flashFail : Bool) : State :=
  let slot := s.regF imageP 0x040 0 0
  let head := s.imageHead slot 2
  let n := (wordAt head 0x018).toNat
  if s.boot.headC.isEmpty then s
  else if !flashFail && decide (sha256 head = s.regBytes imageP 0x080 8) &&
      decide (sha256 (s.flashRead (imageAddr slot 2 + 512) n) = (head.drop 0x040).take 32) then s.loadConductor slot
  else s.capLevel

/-- The state in which a page leaves OFF: the one before, unless its chapter states another (Table 3-3). -/
def wakeTo (tacet : Bool) (p : PageRef) (st : PageState) : PageState :=
  match p.ty with
  | .weight | .kv | .compositor | .loop => .idle
  | .cue => .running
  | .camera => if st = .running ∨ st = .hold then .armed else st
  | .eth | .can => if tacet then .idle else st
  | .tempo => if st = .running ∨ st = .hold then .armed else st
  | _ => st

/-- Steps 1 to 5 of a wake: power, the Conductor image, Sections, pages. -/
def State.powerUp (s : State) (src dst : Nat) (flashFail : Bool) : State :=
  let tacet := decide (src = 4)
  let s1 := if tacet then s.reloadConductor flashFail else s
  let s2 := (List.range 4).foldl (fun s q => if dst ≤ 1 ∨ s.usedSection q then s.powerSection q else s) s1
  if src < 3 then s2
  else
    let tempo := (s2.page tempoP).asleep
    let s3 := (allPages s2.chip.grade).foldl (fun s p =>
      if p.ty = .tile ∨ p.ty = .sect then s else s.wakePage p (wakeTo tacet p)) s2
    if tempo = some .armed ∨ tempo = some .running ∨ tempo = some .hold then s3.modTempo fun t => { t with resumeAfter := some (now s3) } else s3

/-- The page commands WAKE that wait for Cue WAKE. -/
def State.wakeDone (s : State) : State := s.finishPending dynP 2 none

/-- The host accesses held in PIANISSIMO are served, oldest first, each read with an answer of its own (R191). -/
def State.serveHeld (s : State) : State :=
  s.sram.heldHost.foldl (fun s e =>
    let t := s.bar2 e.1 e.2.1 e.2.2.1 e.2.2.2
    if e.2.2.1 then t
    else { t with out := { t.out with served := t.out.served ++ [(e.1, e.2.1, t.out.readData, t.out.readPoison)] } })
    { s with sram := { s.sram with heldHost := [] }, out := { s.out with served := [] } }

/-- WAKE_COMPLETE (R478): a wake ends at a Metronome value; `flashFail`: the flash failed as the Conductor image was read. -/
def execWakeComplete (time : Dword) (flashFail : Bool) (s : State) : Host.Outcome State Fault Refusal :=
  match s.dyn.wake with
  | none => done s
  | some (src, from', start) =>
    let s1 := advanceTo time.toNat s
    let dst := if 3 ≤ from' then min s1.dynTarget 2 else min s1.dynTarget from'
    let s2 := s1.powerUp from' dst flashFail
    let s3 := if dst = from' then s2 else s2.setDyn dst
    let ns := now s3 - start
    let s4 := ((s3.setRegN dynP 0x058 (dst * 0x100 + from' * 0x10 + src)).setRegN dynP 0x05C (min ns F32)).linkPm 0
    let s5 := if 1000 * wakeBound from' < ns then s4.raise dynP 4 else s4
    let s6 := s5.modDyn fun d => { d with wake := none, dwellFrom := none }
    done ((s6.hwSignal 6 (now s6)).wakeDone.serveHeld)

/-- LINK_EXIT_FROM_L1 (Table 14-3): the host brings the link out of L1 or L1.2. -/
def execLinkExitFromL1 (s : State) : Host.Outcome State Fault Refusal :=
  if s.regF (pcieP 0) 0x040 17 16 = 0 then done s else done ((s.setRegF (pcieP 0) 0x040 17 16 0).wakeBy 1)

/-- WAKE (R487). -/
def execWakeCmd (r : Requester) (arg : BitVec 24) (s : State) : Host.Outcome State Fault Refusal :=
  done (s.pageCmd r dynP 0x10 arg fun s _ =>
    let s1 := s.wakeBy 2
    if s1.dyn.wake.isSome then (ansAccepted, s1) else (ansDone, s1))

/-- DYN_ALARM_EXPIRY (Table 14-3): the Metronome reaches DYN_ALARM. -/
def execDynAlarmExpiry (s : State) : Host.Outcome State Fault Refusal :=
  let a := s.reg64 dynP 0x050
  if a = 0 then done s else done (((advanceTo a s).wakeBy 3).setReg64 dynP 0x050 0)

/-! ## Thermal throttle (section 14.4) -/

/-- Upper junction limit of the suffix, in °C (Table 0-3). -/
def State.tMax (s : State) : Int := if s.chip.hot then 125 else 105

/-- Tile clock of a throttle level, in MHz (Table 14-4). -/
def levelMhz (l : Nat) : Nat := 1000 - 125 * l

def State.throttleLevel (s : State) : Nat := s.regF dynP 0x07C 18 16

/-- A new throttle level: the clock, THROTTLE, the fit at the next Bar boundary (R483). -/
def State.setThrottle (s : State) (l : Nat) : State :=
  if s.throttleLevel = l then s
  else ((s.setRegN dynP 0x07C (l * 0x10000 + levelMhz l)).raise dynP 1).modDyn fun d =>
    { d with throttleAt := some (now s), fitDue := true }

/-- A sensor's reading, an absent die's reading 0x80. -/
def State.dieTemps (s : State) (w : Word) : Word := if s.chip.grade.ioDies = 1 then setFld w 23 16 0x80 else w

/-- The temperatures of the sensors there are: Sections, main die, I/O dies, hottest stack. -/
def State.temps (s : State) (sec die : Word) : List Int :=
  let t := fun (w : Word) (k : Nat) => sext 8 (fld w (8 * k + 7) (8 * k))
  (List.range 4).map (t sec) ++ ([0, 1] ++ (if s.chip.grade.ioDies = 2 then [2] else []) ++ [3]).map (t die)

/-- Every activation leaves its tiles without a commit (R484). -/
def State.stopTiles (s : State) : State :=
  (List.range 32).foldl (fun s t => if (s.tile t).act.isSome then (s.dropWaiters t).leaveTile t else s) s

/-- The hottest sensor; `tooHot`: one has reached Tmax + 5 °C, which the bytes of the registers cannot say of a -E part (R484). -/
def State.hottest (s : State) (sec die : Word) (tooHot : Bool) : Int :=
  let t := (s.temps sec die).foldl max (-128)
  if tooHot then max t (s.tMax + 5) else t

/-- THERMAL_SAMPLE (R482, R484): the sensors as DYN_TEMP_SEC and DYN_TEMP_DIE hold them, whether one has reached Tmax + 5 °C, and the
Metronome value of the sample. -/
def execThermalSample (sec die : Word) (tooHot : Bool) (time : Dword) (s : State) : Host.Outcome State Fault Refusal :=
  let s1 := advanceTo time.toNat s
  let dieW := s1.dieTemps die
  let s2 := (s1.setReg dynP 0x074 sec).setReg dynP 0x078 dieW
  let t := s2.hottest sec dieW tooHot
  let o : Int := (s2.regF dynP 0x080 7 0 : Nat)
  let cool := decide (t < s2.tMax - o - 5)
  let s3 := s2.modDyn fun d => { d with lastHot := if cool then d.lastHot else some (now s2) }
  if s2.tMax + 5 ≤ t ∧ !s3.dyn.tripped then
    done ((((((s3.modDyn fun d => { d with tripped := true }).stopTiles).latchV 4 0xFFFF .thermal).log 0x85 0 0 4 0).raise dynP 2).judge false)
  else if s3.dyn.tripped then
    done (if cool then (s3.setThrottle 4).modDyn fun d => { d with tripped := false } else s3)
  else if s2.tMax - o ≤ t then
    let late := match s3.dyn.throttleAt with
      | some a => decide (a + 10000000 ≤ now s3)
      | none => true
    done (if decide (s3.throttleLevel < 4) && late then s3.setThrottle (s3.throttleLevel + 1) else s3)
  else
    let calm := match s3.dyn.lastHot with
      | some a => decide (a + 100000000 ≤ now s3)
      | none => true
    done (if decide (0 < s3.throttleLevel) && calm && !bit (s3.reg dynP 0x084) 31 then s3.setThrottle (s3.throttleLevel - 1) else s3)

/-! ## Battery brown-out warning (R485) -/

/-- PWRWARN_ASSERT (R485): PWRWARN_N has stayed low for 2 µs. -/
def execPwrwarnAssert (s : State) : Host.Outcome State Fault Refusal :=
  let w := s.reg dynP 0x084
  let s1 := (s.setReg dynP 0x084 (setBit w 31 true)).raise dynP 3
  let s2 := if bit w 4 && decide (s.dynState < 3) then s1.setThrottle 4 else s1
  let req := max (s2.regF procP 0x0A0 1 0) (min (fld w 1 0) 2)
  done ((s2.setRegF procP 0x0A0 1 0 req).judge false)

/-- PWRWARN_CLEAR (R485): the input has stayed high for 10 ms. -/
def execPwrwarnClear (s : State) : Host.Outcome State Fault Refusal :=
  done (s.setReg dynP 0x084 (setBit (s.reg dynP 0x084) 31 false))

/-! ## Writes to the DYNAMICS page -/

/-- A write to a block register: CFG_ARG refuses it as a whole (Table 14-7); an alarm that has passed wakes at once and
clears. -/
def dynWrite (off : Nat) (v : Word) (s : State) : State × Bool :=
  if (off = 0x084 ∧ fld v 1 0 = 3) ∨ (off = 0x080 ∧ (fld v 7 0 < 5 ∨ 40 < fld v 7 0)) then
    ((s.countRefusal dynP).syndrome dynP 1 0, false)
  else
    let x := s.plainWrite dynP off v
    let a := x.1.reg64 dynP 0x050
    if (off = 0x050 ∨ off = 0x054) ∧ a ≠ 0 ∧ a ≤ now x.1 then ((x.1.wakeBy 3).setReg64 dynP 0x050 0, x.2) else x

end Sys2Proof.Machine
end

