-- ==== Sys2Proof/Machine/Pcie.lean ====
section
/-!
DEFINITION. The PCI Express endpoint (section 15.1): configuration requests, the link, MSI-X, completions for reads of host
memory, and the PCIE page.
-/

namespace Sys2Proof.Machine

/-- Held interrupt messages that can be sent now are sent, once each (R496, R497). -/
def State.flushMsix (s : State) : State :=
  (List.range 64).foldl (fun s e =>
    let m := s.msix
    if m.pba.getLsbD e && s.hostUp && m.enabled && !m.funcMask && !m.masked.getLsbD e then
      { s with out := { s.out with msix := s.out.msix ++ [e] }, msix := { m with pba := m.pba &&& ~~~(1#64 <<< e) } }
    else s) s

/-! ## Configuration space (R490, Table 15-2) -/

/-- Bits of a BAR that software sets, and those it reads (PRESUMED, log entry 31). -/
def barBits (k : Nat) : Nat × Nat :=
  if k = 0 then (0xFC000000, 0x4) else if k = 2 then (0xF0000000, 0xC) else if k = 4 then (0xFFFFE000, 0)
  else if k = 5 then (0, 0) else (F32, 0)

/-- A double-word of the header. Where Table 15-2 gives no value it is a free value (log entry 10). The offsets are those of
the PCI Express specification (PRESUMED, log entry 31). -/
def State.cfgHeader (s : State) (k : Nat) : Word :=
  if k = 0 then 0x71401F9D
  else if k = 2 then word (0x12000000 + s.chip.stepping % 256)
  else if 4 ≤ k ∧ k ≤ 9 then word ((tabGet 0 s.msix.bars (k - 4)).toNat + (barBits (k - 4)).2)
  else if k = 11 then word (0x1F9D + s.chip.grade.code * 0x10000)
  else Config.freeWord s.freeCtr (500 + k)

def State.cfgAnswer (s : State) : CfgReq → State
  | .header k => (s.answerWord (s.cfgHeader k.val)).drawFree
  | .bar k v => { s with msix := { s.msix with bars := tabSet 0 s.msix.bars k.val (v &&& word (barBits k.val).1) } }
  | .msix en mask => ({ s with msix := { s.msix with enabled := en, funcMask := mask } }).flushMsix
  | .pasid en => { s with msix := { s.msix with pasidEn := en } }
  | .linkStatus clear =>
    let s1 := s.answerWord (word (s.regF (pcieP 0) 0x040 9 0 + if s.msix.autoBw then 0x8000 else 0))
    if clear then { s1 with msix := { s1.msix with autoBw := false } } else s1

/-- PCIE_CONFIG_REQUEST (R492): Retry Status until 20 ms after the start of boot and 100 ms after PCIE_PERST_N deasserted. -/
def execPcieConfigRequest (req : CfgReq) (time : Dword) (s : State) : Host.Outcome State Fault Refusal :=
  let s1 := advanceTo time.toNat s
  if !s1.hostUp then done s1
  else
    let early := decide (now s1 < max 20000000 (s1.msix.perstAt + 100000000))
    let s2 := { s1 with out := { s1.out with retry := early } }
    done (if early then s2 else s2.cfgAnswer req)

/-! ## The link -/

/-- PCIE_LINK_RESET (R497): PCIE_PERST_N asserted until a Metronome value, or a Hot Reset or a link down. -/
def execPcieLinkReset (perst : Bool) (released : Dword) (s : State) : Host.Outcome State Fault Refusal :=
  done (if perst then { s.linkDown with msix := { s.linkDown.msix with perstAt := released.toNat } } else s.linkDown)

/-- Highest width the endpoint trains (R493, R494). -/
def State.maxWidth (s : State) : Nat :=
  if s.chip.grade.ioDies = 2 ∧ !bit (s.reg (pcieP 0) 0x040) 13 ∧ !s.isExcused 147 ∧ !s.isExcused 81 then 8 else 4

/-- PCIE_LINK_UP (R497): training ends at a rate and a width that the endpoint supports. Held messages are sent, RETRAIN is done. -/
def execPcieLinkUp (speed : BitVec 3) (width : BitVec 4) (s : State) : Host.Outcome State Fault Refusal :=
  let w := width.toNat
  if s.isExcused 146 || s.isExcused 80 || speed.toNat = 0 || decide (s.regF (pcieP 0) 0x044 2 0 < speed.toNat) ||
      !([1, 2, 4, 8].contains w) || decide (s.maxWidth < w) then done s
  else
    let s1 := { s with msix := { s.msix with linkUp := true } }
    done ((((s1.showLink speed.toNat w).setRegF (pcieP 0) 0x040 17 16 0).finishPending (pcieP 0) 2 none).flushMsix)

/-- PCIE_LANE_LOSS (R494). -/
def execPcieLaneLoss (s : State) : Host.Outcome State Fault Refusal := done s.degradeLink

/-- RETRAIN (R494): instance 0 only; no request in flight is lost, and DONE follows once the link is up again. -/
def execRetrain (r : Requester) (d : Fin 2) (arg : BitVec 24) (s : State) : Host.Outcome State Fault Refusal :=
  done (s.pageCmd r (pcieP d.val) 0x10 arg fun s _ =>
    if d.val = 1 then (ansUnknown, s) else (ansAccepted, (s.showLink 0 0).bumpF (pcieP 0) 0x054 15 0 1))

/-- MSIX_UNMASK (R496): the host writes the mask bit of an MSI-X entry through BAR4. -/
def execMsixUnmask (e : Fin 64) (masked : Bool) (s : State) : Host.Outcome State Fault Refusal :=
  let m := s.msix
  let mask := if masked then m.masked ||| (1#64 <<< e.val) else m.masked &&& ~~~(1#64 <<< e.val)
  done ({ s with msix := { m with masked := mask } }).flushMsix

/-! ## Completions (R184) -/

/-- What a read of a source row of a DMA channel brings. -/
def State.hostRow (s : State) (c row : Nat) (data : Option (List Byte)) (ep : Bool) : State :=
  match (s.chan c).job with
  | none => s
  | some j =>
    if !j.srcHost || decide (j.rows ≤ row) || j.hostRows.any fun e => decide (e.1 = row) then s
    else
      let got := match data with
        | some bs => if bs.length = j.rowBytes then some bs else none
        | none => none
      s.setChan c { s.chan c with job := some { j with hostRows := j.hostRows ++ [(row, got)], epRows := if ep then j.epRows ++ [row] else j.epRows } }

/-- HOST_COMPLETION (R184): the data of a row, poisoned where EP is set, or an error completion. -/
def execHostCompletion (c : Fin 8) (row : Nat) (got : HostRow) (s : State) : Host.Outcome State Fault Refusal :=
  done (if s.hostUp then s.hostRow c.val row got.data got.ep else s)

/-- HOST_COMPLETION_TIMEOUT (R184): a read of a DMA channel, or of the Codec, the KV Pager or a MAC, times out. A completion timeout is
an uncorrectable error of the PCI Express specification (PRESUMED, log entry 31). -/
def execHostCompletionTimeout (c : Option (Fin 8)) (row : Nat) (s : State) : Host.Outcome State Fault Refusal :=
  let s1 := ((s.bumpF (pcieP 0) 0x058 15 0 1).bumpF (pcieP 0) 0x050 15 0 1).raise (pcieP 0) 2
  done (match c with
    | some k => s1.hostRow k.val row none false
    | none => s1)

end Sys2Proof.Machine
end

