-- ==== Sys2Proof/Machine/Ethernet.lean ====
section
/-!
DEFINITION. The Ethernet MACs (section 15.3): rings and descriptors, frames, gate control lists, gPTP, and the ETH page.
-/

namespace Sys2Proof.Machine


def State.mac (s : State) (m : Nat) : EthMac := tabGet EthMac.atReset s.macs m
def State.setMac (s : State) (m : Nat) (x : EthMac) : State := { s with macs := tabSet EthMac.atReset s.macs m x }

def State.ethUp (s : State) (m : Nat) : Bool := bit (s.reg (ethP m) 0x0A8) 0

def State.ethRunning (s : State) (m : Nat) : Bool := decide (s.pageState (ethP m) = .running) && s.ethUp m

/-- Link rate in Mb/s. -/
def State.ethMbps (s : State) (m : Nat) : Nat :=
  match s.regF (ethP m) 0x0A8 3 1 with
  | 1 => 10 | 2 => 100 | 3 => 1000 | _ => 2500

/-- Time of n bytes on the line, in ns, rounded up. -/
def State.lineTime (s : State) (m n : Nat) : Nat := (8000 * n + s.ethMbps m - 1) / s.ethMbps m

/-- A captured stamp with ETH_TS_ADJ. -/
def State.ethStamp (s : State) (m : Nat) (time : Nat) : Nat := wrapBits 64 ((time : Int) + sext 16 (s.regF (ethP m) 0x04C 15 0))

/-! ## Rings and descriptors (Table 15-5) -/

/-- Ring register of a ring: transmit rings 0 to 7, the receive ring 8; its tail register follows. -/
def ringReg (q : Nat) : Nat := 0x060 + 8 * q

def State.ringHead (s : State) (p : PageRef) (tail : Nat) : Nat := s.regF p tail 31 16
def State.ringTail (s : State) (p : PageRef) (tail : Nat) : Nat := s.regF p tail 15 0

structure EthDesc where
  /-- Grant offset of the descriptor. -/
  at' : Nat
  addr : Nat
  len : Nat
  host : Bool
  ts : Bool
  vlan : Bool
  cueEn : Bool
  tci : Nat
  cue : Nat
  /-- Its reserved bits are 0. -/
  clean : Bool
  deriving DecidableEq, Repr

/-- The descriptor at the head of a ring; none: the ring is empty. -/
def State.ethDesc (s : State) (m q : Nat) : Option EthDesc :=
  let p := ethP m
  let head := s.ringHead p (ringReg q + 4)
  if head = s.ringTail p (ringReg q + 4) then none
  else
    let off := 64 * s.regF p (ringReg q) 23 0 + 32 * head
    let b := s.readGrant (s.page p).owner off 32
    let w2 := wordAt b 8
    let w3 := wordAt b 12
    some { at' := off, addr := leNat (b.take 8), len := fld w2 13 0, host := bit w2 16, ts := bit w2 17, vlan := bit w2 18,
           cueEn := bit w2 19, tci := fld w3 15 0, cue := fld w3 31 16,
           clean := decide (fld w2 15 14 = 0) && decide (fld w2 31 20 = 0) && decide (wordAt b 20 = 0) }

/-- The ring moves on. -/
def State.ringStep (s : State) (p : PageRef) (ring tail : Nat) : State :=
  s.setRegF p tail 31 16 ((s.ringHead p tail + 1) % s.ringSize p ring)

/-- Writes STATUS with CLASS, then STAMP, and signals CUE (R506). -/
def State.ethWriteBack (s : State) (m : Nat) (d : EthDesc) (status : Nat) (cls len stamp : Option Nat) : State :=
  let h := (s.page (ethP m)).owner
  let old := wordAt (s.readGrant h (d.at' + 16) 4) 0
  let w4 := setFld (setFld old 3 0 status) 18 16 (cls.getD (fld old 18 16))
  let s0 := match len with
    | some n => s.writeGrant h (d.at' + 8) (leBytes 4 (setFld (wordAt (s.readGrant h (d.at' + 8) 4) 0) 13 0 n).toNat)
    | none => s
  let s1 := (s0.lookGrant h d.at' 32).writeGrant h (d.at' + 16) (leBytes 4 w4.toNat)
  let s2 := match stamp with
    | some t => s1.writeGrant h (d.at' + 24) (leBytes 8 t)
    | none => s1
  if !d.cueEn || decide (status = 6) then s2
  else if s2.mayCue h d.cue 1 then s2.signalCue d.cue 1
  else s2.violateBy h 4 3 0 engineSrc (0x10000 + d.cue) 0

/-! ## Gate control lists (R503) -/

/-- The windows of one cycle: gates, start, end. -/
def gateWindows (cycle : Nat) : Nat → List Word → List (Nat × Nat × Nat)
  | _, [] => []
  | t, [e] => if t < cycle then [(fld e 31 24, t, cycle)] else []
  | t, e :: es =>
    let past := min cycle (t + 8 * fld e 23 0)
    if t < cycle then (fld e 31 24, t, past) :: gateWindows cycle past es else []

/-- How long a class stays open from a place in the cycle; 0 while it is closed, none while no window closes it. -/
def GateList.openRun (g : GateList) (c pos : Nat) : Option Nat :=
  let ws := gateWindows g.cycle 0 g.entries
  let ahead := (ws.filter fun w => decide (pos < w.2.2)).map fun w => (w.1, max pos w.2.1, w.2.2)
  if ws.all fun w => w.1.testBit c then none
  else some (((ahead ++ ws).takeWhile fun w => w.1.testBit c).foldl (fun n w => n + (w.2.2 - w.2.1)) 0)

/-- The longest open interval of a class. -/
def GateList.longest (g : GateList) (c : Nat) : Option Nat :=
  (gateWindows g.cycle 0 g.entries).foldl (fun (m : Option Nat) w => match m, g.openRun c w.2.1 with
    | some a, some b => some (max a b)
    | _, _ => none) (some 0)

/-- A transmission of some length that starts at a Metronome value ends before its gate closes (R504). -/
def State.gateTakes (s : State) (m c t ns : Nat) : Bool :=
  match (s.mac m).oper with
  | none => true
  | some g => match g.openRun c ((t - g.base) % g.cycle) with
    | none => true
    | some n => decide (ns ≤ n)

/-- A frame longer than every open interval of its class. -/
def State.gateNever (s : State) (m c ns : Nat) : Bool :=
  match (s.mac m).oper with
  | none => false
  | some g => match g.longest c with
    | none => false
    | some n => decide (n < ns)

/-! ## Transmission (R504, R506) -/

/-- Bytes of a frame on the line without preamble, FCS included. -/
def EthDesc.frameBytes (d : EthDesc) : Nat := d.len + (if d.vlan then 4 else 0) + 4

/-- Time of a frame with preamble and inter-frame gap. -/
def State.frameTime (s : State) (m : Nat) (d : EthDesc) : Nat := s.lineTime m (8 + d.frameBytes + 12)

/-- Largest frame: 1,522 bytes, 9,018 with JUMBO (Table 15-4). -/
def State.frameMax (s : State) (m : Nat) : Nat := if bit (s.reg (ethP m) 0x040) 2 then 9018 else 1522

/-- A transmit descriptor ends. -/
def State.txEnd (s : State) (m q : Nat) (d : EthDesc) (status : Nat) (stamp : Option Nat) : State :=
  (((s.ethWriteBack m d status none none stamp).ringStep (ethP m) (ringReg q) (ringReg q + 4))).raise (ethP m) 0

/-- Frames at the head of a ring that are longer than every open interval end OVERSIZE. -/
def State.dropOversize (s : State) (m q : Nat) : Nat → State
  | 0 => s
  | k + 1 => match s.ethDesc m q with
    | none => s
    | some d =>
      if s.gateNever m q (s.frameTime m d) then ((s.txEnd m q d 4 none).bumpF (ethP m) 0x0B4 15 0 1).dropOversize m q k else s

/-- A frame as it is sent: the tag after the addresses, the FCS at the end. -/
def EthDesc.frame (d : EthDesc) (bs : List Byte) : List Byte :=
  let f := if d.vlan then bs.take 12 ++ [0x81, 0x00, BitVec.ofNat 8 (d.tci / 256), BitVec.ofNat 8 d.tci] ++ bs.drop 12 else bs
  f ++ leBytes 4 (crc32 f).toNat

/-- The frame of a descriptor is read and sent; `start`: the Metronome value captured at its start of frame delimiter. -/
def State.txSend (s : State) (m q : Nat) (d : EthDesc) (host : List HostChunk) (start : Nat) : State :=
  let p := ethP m
  let h := (s.page p).owner
  let send := fun (bs : List Byte) (s : State) =>
    ({ s with out := { s.out with eth := s.out.eth ++ [(m, d.frame bs)] } }).txEnd m q d 1
      (if d.ts then some (s.ethStamp m start) else none)
  if !d.clean || decide (d.frameBytes < 64) || decide (s.frameMax m < d.frameBytes) then s.txEnd m q d 2 none
  else if d.host then
    match if s.hostUp then chunkRead host d.addr d.len else none with
    | some bs => send bs s
    | none => s.txEnd m q d 7 none
  else if !s.reachesAll h d.addr d.len then ((s.sramViolation engineSrc h d.addr).syndrome p 3 q).txEnd m q d 3 none
  else
    let x := s.engineLoad h d.addr d.len
    send x.1 x.2.2

/-- ETH_FRAME_TRANSMIT (R504): the MAC sends the next frame of the highest open class that fits. -/
def execEthFrameTransmit (m : Fin 4) (host : List HostChunk) (time : Dword) (s : State) : Host.Outcome State Fault Refusal :=
  let k := m.val
  let s1 := advanceTo time.toNat s
  if !s1.ethRunning k then done s1
  else
    let s2 := (List.range 8).foldl (fun s q => s.dropOversize k q (s.ringSize (ethP k) (ringReg q))) s1
    let begin' := time.toNat - s2.lineTime k 7
    let pick := ((List.range 8).map (7 - ·)).find? fun q => match s2.ethDesc k q with
      | some d => s2.gateTakes k q begin' (s2.frameTime k d)
      | none => false
    match pick with
    | none => done s2
    | some q => match s2.ethDesc k q with
      | some d => done (s2.txSend k q d host time.toNat)
      | none => done s2

/-! ## Reception (R506) -/

/-- Word of two bytes in network order. -/
def be16 (bs : List Byte) (off : Nat) : Nat := byteAt bs off * 256 + byteAt bs (off + 1)

def tagged (f : List Byte) : Bool := decide (be16 f 12 = 0x8100)

def etherType (f : List Byte) : Nat := if tagged f then be16 f 16 else be16 f 12

/-- The destination is the MAC's address, a broadcast or multicast address, or any with PROMISC. -/
def State.ethAccepts (s : State) (m : Nat) (f : List Byte) : Bool :=
  let p := ethP m
  bit (s.reg p 0x040) 3 || (byteAt f 0).testBit 0 || decide (leNat (f.take 6) = s.regN p 0x044 + 0x100000000 * s.regF p 0x048 15 0)

/-- ETH_FRAME_RECEIVE (R506): a frame without its FCS, whether the FCS is good, and the captured stamp. PAUSE frames are discarded
and gPTP frames are never placed in a ring. -/
def execEthFrameReceive (m : Fin 4) (frame : List Byte) (fcsOk : Bool) (time : Dword) (s : State) : Host.Outcome State Fault Refusal :=
  let k := m.val
  let p := ethP k
  let s1 := advanceTo time.toNat s
  let n := frame.length
  if !s1.ethRunning k || decide (n + 4 < 64) then done s1
  else if s1.frameMax k < n + 4 then done (s1.bumpF p 0x0B4 15 0 1)
  else if etherType frame = 0x88F7 ∨ (etherType frame = 0x8808 ∧ be16 frame 14 = 1) ∨ !s1.ethAccepts k frame then done s1
  else match s1.ethDesc k 8 with
    | none => done ((s1.bumpF p 0x0B4 31 16 1).raise p 4)
    | some d =>
      let h := (s1.page p).owner
      let cls := some (if tagged frame then byteAt frame 14 / 32 else 0)
      let stamp := some (s1.ethStamp k time.toNat)
      let step := fun (s : State) => (s.ringStep p 0x0A0 0x0A4).raise p 1
      if !d.clean || decide (d.len < n) then done (step (s1.ethWriteBack k d 2 cls none stamp))
      else
        let ok := if fcsOk then 1 else 5
        if d.host then done (step ((s1.sendHost ⟨d.addr, s1.hostPasid h, frame, false⟩).ethWriteBack k d ok cls (some n) stamp))
        else if !s1.reachesAll h d.addr n || s1.weightGuarded d.addr n then
          done (step (((s1.sramViolation engineSrc h d.addr).syndrome p 3 8).ethWriteBack k d 3 cls none stamp))
        else done (step ((s1.engineStore h d.addr frame false).ethWriteBack k d ok cls (some n) stamp))

/-- ETH_LINK_CHANGE (R507): the link comes up at a rate of the page's mode, or goes down (0). -/
def execEthLinkChange (m : Fin 4) (speed : BitVec 3) (s : State) : Host.Outcome State Fault Refusal :=
  let p := ethP m.val
  let v := speed.toNat
  let ok := decide (v = 0) || (if s.regF p 0x040 1 0 = 1 then decide (v = 4) else decide (v ≤ 3))
  if !s.inState p [.running, .hold] || !ok then done s
  else done ((s.setRegN p 0x0A8 (if v = 0 then 0 else 2 * v + 1)).raise p 2)

/-! ## gPTP (R500 to R502, Table 2-2) -/


/-- The servo takes an offset: LOCKED after 16 intervals in a row below 1 µs, ACQUIRING at 1 µs or more. -/
def State.servoTake (s : State) (offset : Int) : State :=
  if offset.natAbs < 1000 then
    let n := min (s.tempo.syncGood + 1) 16
    let s1 := s.modTempo fun t => { t with syncGood := n }
    if n = 16 then s1.setSync 2 else s1
  else (s.modTempo fun t => { t with syncGood := 0 }).setSync 1


/-- GPTP_MESSAGE_RECEIVE (R500). -/
def execGptpMessageReceive (m : Fin 4) (msg : GptpMsg) (s : State) : Host.Outcome State Fault Refusal :=
  let k := m.val
  if !s.ethRunning k || decide (s.gptpRole k ≠ 1) then done s
  else match msg with
    | .other => done s
    | .sync off =>
      let s1 := s.setReg (ethP k) 0x0AC off
      done (if s.regF tempoP 0x080 11 8 = k then s1.servoTake (sext 32 off.toNat) else s1)

/-- GPTP_SYNC_SEND (R502): a MASTER port sends the Metronome value. -/
def execGptpSyncSend (m : Fin 4) (time : Dword) (s : State) : Host.Outcome State Fault Refusal :=
  let s1 := advanceTo time.toNat s
  if s1.ethRunning m.val && decide (s1.gptpRole m.val = 2) then
    done { s1 with out := { s1.out with gptp := s1.out.gptp ++ [(m.val, 0, now s1)] } }
  else done s1

/-- GPTP_PDELAY (R500): an exchange ends with a mean link delay. -/
def execGptpPdelay (m : Fin 4) (delay : Word) (s : State) : Host.Outcome State Fault Refusal :=
  if s.ethRunning m.val && decide (s.gptpRole m.val ≠ 0) then
    done ({ s with out := { s.out with gptp := s.out.gptp ++ [(m.val, 1, now s)] } }.setReg (ethP m.val) 0x0B0 delay)
  else done s

/-! ## Qbv commands (R503, R505) -/

/-- QBV_APPLY (R505): the administrative list becomes pending. -/
def execQbvApply (r : Requester) (m : Fin 4) (arg : BitVec 24) (s : State) : Host.Outcome State Fault Refusal :=
  let p := ethP m.val
  done (s.pageCmd r p 0x10 arg fun s _ =>
    let n := s.regF p 0x110 6 0
    let cycle := s.regF p 0x104 29 0
    let base := s.reg64 p 0x108
    if !s.inState p [.idle, .armed, .running, .hold] then (ansState, s)
    else if n < 1 ∨ 64 < n ∨ cycle < 10000 ∨ 1000000000 < cycle then (ansArg 2 0, s)
    else
      let first := if now s ≤ base then base else base + (now s + 10000 - base + cycle - 1) / cycle * cycle
      let list : GateList := ⟨first, cycle, (List.range n).map fun e => s.reg p (0x400 + 4 * e)⟩
      (ansAccepted, (s.setMac m.val { s.mac m.val with pend := some list }).setRegF p 0x100 1 1 1))

/-- The operative list shows in its registers. -/
def State.showOper (s : State) (m : Nat) (g : GateList) : State :=
  ((List.range 64).foldl (fun s e => s.setReg (ethP m) (0x600 + 4 * e) (g.entries.getD e 0)) s).setRegN (ethP m) 0x100 1

/-- A Metronome value at which a cycle of a list starts. -/
def GateList.startsAt (g : GateList) (t : Nat) : Bool := decide (g.base ≤ t) && decide ((t - g.base) % g.cycle = 0)

/-- QBV_CYCLE_START (R503, R505): a cycle starts at a Metronome value; a pending list becomes operative at the first start of its
own timing. -/
def execQbvCycleStart (m : Fin 4) (time : Dword) (s : State) : Host.Outcome State Fault Refusal :=
  let k := m.val
  let p := ethP k
  let t := time.toNat
  let x := s.mac k
  if t < now s ∨ !s.inState p [.idle, .armed, .running, .hold] then done s
  else
    let s1 := advanceTo t s
    let signal := fun (s : State) => s.hwSignal (0x70 + k) t
    match x.pend with
    | some g =>
      if g.startsAt t then
        done (signal ((((s1.setMac k { oper := some g, pend := none }).showOper k g).finishPending p 2 none).raise p 3))
      else if (x.oper.map fun o => o.startsAt t).getD false then done (signal s1) else done s
    | none => if (x.oper.map fun o => o.startsAt t).getD false then done (signal s1) else done s

/-! ## The ETH page (R507) -/

/-- Every ring lies in the owner's Commons grant. -/
def State.ethRingsOk (s : State) (m : Nat) : Bool :=
  (List.range 9).all fun q =>
    let l := s.regF (ethP m) (ringReg q) 27 24
    decide (4 ≤ l) && decide (l ≤ 10) && s.inGrant (s.page (ethP m)).owner (64 * s.regF (ethP m) (ringReg q) 23 0) (32 * 2 ^ l)

/-- The checks of CFG_ARG. -/
def State.ethCfgOk (s : State) (m : Nat) : Bool :=
  let p := ethP m
  let sync := sext 8 (s.regF p 0x050 7 0)
  decide (s.gptpRole m ≠ 3) && decide (s.regF p 0x040 1 0 ≤ 1) && decide (-5 ≤ sync) && decide (sync ≤ 0) && decide (s.regF p 0x050 15 8 ≤ 3) &&
  (decide (s.gptpRole m ≠ 1) || (List.range 4).all fun k => decide (k = m) || decide (s.gptpRole k ≠ 1) || !s.inState (ethP k) activeStates) &&
  s.ethRingsOk m

def ethEnable (s : State) (m : Nat) : Ans × State :=
  match s.pageState (ethP m) with
  | .idle => if s.ethCfgOk m then (ansDone, s.toState (ethP m) .running) else (ansArg 1 0, s)
  | .hold => (ansDone, s.toState (ethP m) .running)
  | _ => (ansState, s)

/-- Descriptors that wait in a ring end STOPPED. -/
def State.stopRing (s : State) (m q : Nat) : Nat → State
  | 0 => s
  | k + 1 => match s.ethDesc m q with
    | none => s
    | some d => ((s.ethWriteBack m d 6 none none none).ringStep (ethP m) (ringReg q) (ringReg q + 4)).stopRing m q k

/-- STOP: pending descriptors end STOPPED, a pending list is abandoned, the link ends. -/
def ethStop (s : State) (m : Nat) : Ans × State :=
  let p := ethP m
  if !s.inState p activeStates then (ansDone, s)
  else
    let s1 := (List.range 9).foldl (fun s q => s.stopRing m q (s.ringSize p (ringReg q))) s
    let s2 := (s1.setMac m { s1.mac m with pend := none }).setRegF p 0x100 1 1 0
    let s3 := if s2.ethUp m then (s2.setRegN p 0x0A8 0).raise p 2 else s2
    (ansDone, (s3.toState p .idle).syncCheck)

/-- A tail register is written modulo the entries of its ring. -/
def State.tailWrite (s : State) (p : PageRef) (ring tail : Nat) (v : Word) : State × Bool :=
  (s.setRegF p tail 15 0 (fld v 15 0 % s.ringSize p ring), true)

def ethWrite (m off : Nat) (v : Word) (s : State) : State × Bool :=
  if 0x064 ≤ off ∧ off ≤ 0x0A4 ∧ off % 8 = 4 then s.tailWrite (ethP m) (off - 4) off v else s.plainWrite (ethP m) off v

end Sys2Proof.Machine
end

