-- ==== Sys2Proof/Machine/Can.lean ====
section
/-!
DEFINITION. The CAN FD ports (section 15.4).
-/

namespace Sys2Proof.Machine

def canP (m : Nat) : PageRef := ⟨.can, m⟩

/-- Data bytes a DLC stands for. -/
def dlcBytes (fd : Bool) (dlc : Nat) : Nat :=
  if !fd then min dlc 8 else if dlc ≤ 8 then dlc else [12, 16, 20, 24, 32, 48, 64].getD (dlc - 9) 64

/-- The port takes part in the bus: RUNNING and not bus-off. -/
def State.canOn (s : State) (m : Nat) : Bool := decide (s.pageState (canP m) = .running) && decide (s.regF (canP m) 0x05C 17 16 ≠ 2)

/-- Grant offset of the record at the head of a ring; none: the ring is empty. -/
def State.canRecord (s : State) (m ring tail : Nat) : Option Nat :=
  let head := s.ringHead (canP m) tail
  if head = s.ringTail (canP m) tail then none else some (64 * s.regF (canP m) ring 23 0 + 80 * head)

/-- Writes STATUS into a record. -/
def State.canStatus (s : State) (m off status : Nat) : State :=
  let h := (s.page (canP m)).owner
  (s.lookGrant h (off + 4) 4).writeGrant h (off + 4) (leBytes 4 (setFld (wordAt (s.readGrant h (off + 4) 4) 0) 11 8 status).toNat)

/-- A filter takes a frame: (ID XOR FILTER_ID) AND FILTER_MASK is 0, with EXT equal. -/
def State.canMatch (s : State) (m k : Nat) (f : CanFrame) : Bool :=
  let id := s.reg (canP m) (0x080 + 8 * k)
  let mask := s.regF (canP m) (0x084 + 8 * k) 28 0
  bit id 31 && (bit id 29 == f.ext) && decide ((f.id.toNat ^^^ fld id 28 0) &&& mask = 0)

def canWord0 (f : CanFrame) : Nat :=
  f.id.toNat + (if f.ext then 0x20000000 else 0) + (if f.rtr then 0x40000000 else 0) + if f.fd then 0x80000000 else 0

def canWord1 (f : CanFrame) (status : Nat) : Nat :=
  f.dlc.toNat + (if f.brs then 0x10 else 0) + (if f.esi then 0x20 else 0) + status * 0x100

/-- CAN_FRAME_RECEIVE (R509): the frame's end falls at a Metronome value. -/
def execCanFrameReceive (m : Fin 4) (f : CanFrame) (time : Dword) (s : State) : Host.Outcome State Fault Refusal :=
  let k := m.val
  let p := canP k
  let s1 := advanceTo time.toNat s
  if !s1.canOn k || (f.fd && !bit (s1.reg p 0x040) 0) || !(List.range 32).any fun i => s1.canMatch k i f then done s1
  else match s1.canRecord k 0x050 0x058 with
    | none => done s1
    | some off =>
      let n := if f.rtr then 0 else dlcBytes f.fd f.dlc.toNat
      let data := f.data.take n ++ List.replicate (n - f.data.length) 0
      let bs := leBytes 4 (canWord0 f) ++ leBytes 4 (canWord1 f 1) ++ leBytes 8 time.toNat ++ data
      done (((s1.writeGrant (s1.page p).owner off bs).ringStep p 0x050 0x058).raise p 0)

/-- CAN_FRAME_TRANSMIT (R509): the next transmit record in ring order is sent, or loses arbitration to its limit. -/
def execCanFrameTransmit (m : Fin 4) (arbLost : Bool) (time : Dword) (s : State) : Host.Outcome State Fault Refusal :=
  let k := m.val
  let p := canP k
  let s1 := advanceTo time.toNat s
  let cfg := s1.reg p 0x040
  if !s1.canOn k || bit cfg 2 then done s1
  else match s1.canRecord k 0x04C 0x054 with
    | none => done s1
    | some off =>
      let h := (s1.page p).owner
      let r := s1.readGrant h off 80
      let w0 := wordAt r 0
      let w1 := wordAt r 4
      let finish := fun (s : State) (status : Nat) => ((s.canStatus k off status).ringStep p 0x04C 0x054).raise p 1
      if bit w0 30 || (bit w0 31 && !bit cfg 0) then done (finish s1 2)
      else if arbLost then done (finish s1 4)
      else
        let brs := bit w1 4 && bit w0 31 && bit cfg 1
        let sent := leBytes 4 w0.toNat ++ leBytes 4 (setBit (w1 &&& 0x3F) 4 brs).toNat ++ (r.drop 16).take (dlcBytes (bit w0 31) (fld w1 3 0))
        let s0 := s1.lookGrant h off 80
        let s2 := { s0 with out := { s1.out with can := s0.out.can ++ [(k, sent)] } }
        done (finish (s2.writeGrant h (off + 8) (leBytes 8 time.toNat)) 1)

/-- CAN_BUS_OFF (R509). -/
def execCanBusOff (m : Fin 4) (s : State) : Host.Outcome State Fault Refusal :=
  let p := canP m.val
  if !s.inState p [.running, .hold] || bit (s.reg p 0x040) 2 || decide (s.regF p 0x05C 17 16 = 2) then done s
  else
    let s1 := (s.setRegF p 0x05C 17 16 2).raise p 2
    done (if bit (s.reg p 0x040) 3 then s1 else ((s1.toState p .fault).syndrome p 2 0).finishAll p 3 none)

/-- CAN_BUS_OFF_RECOVERY (R509): the port takes part in the bus again, its error counters 0 (PRESUMED, log entry 32). -/
def execCanBusOffRecovery (m : Fin 4) (s : State) : Host.Outcome State Fault Refusal :=
  let p := canP m.val
  if s.inState p [.running, .hold] && bit (s.reg p 0x040) 3 && decide (s.regF p 0x05C 17 16 = 2) then
    done ((s.setRegN p 0x05C 0).raise p 2)
  else done s

/-- A bit rate in kbit/s gives an integer number of 12.5 ns quanta within bounds (R508). -/
def rateOk (kbit lo hi quanta : Nat) : Bool :=
  decide (lo ≤ kbit) && decide (kbit ≤ hi) && decide (80000 % kbit = 0) && decide (8 ≤ 80000 / kbit) && decide (80000 / kbit ≤ quanta)

def State.canCfgOk (s : State) (m : Nat) : Bool :=
  let p := canP m
  rateOk (s.regF p 0x044 31 16) 125 1000 640 && rateOk (s.regF p 0x048 31 16) 500 5000 160 &&
  [0x04C, 0x050].all fun ring =>
    let l := s.regF p ring 27 24
    decide (4 ≤ l) && decide (l ≤ 10) && s.inGrant (s.page p).owner (64 * s.regF p ring 23 0) (80 * 2 ^ l)

def canEnable (s : State) (m : Nat) : Ans × State :=
  match s.pageState (canP m) with
  | .idle => if s.canCfgOk m then (ansDone, (s.setRegN (canP m) 0x05C 0).toState (canP m) .running) else (ansArg 1 0, s)
  | .hold => (ansDone, s.toState (canP m) .running)
  | _ => (ansState, s)

/-- Records that wait in a ring end STOPPED. -/
def State.stopRecords (s : State) (m ring tail : Nat) : Nat → State
  | 0 => s
  | k + 1 => match s.canRecord m ring tail with
    | none => s
    | some off => ((s.canStatus m off 3).ringStep (canP m) ring tail).stopRecords m ring tail k

def canStop (s : State) (m : Nat) : Ans × State :=
  let p := canP m
  if !s.inState p activeStates then (ansDone, s)
  else
    let s1 := s.stopRecords m 0x04C 0x054 (s.ringSize p 0x04C)
    (ansDone, (s1.stopRecords m 0x050 0x058 (s1.ringSize p 0x050)).toState p .idle)

def canWrite (m off : Nat) (v : Word) (s : State) : State × Bool :=
  if off = 0x054 then s.tailWrite (canP m) 0x04C off v
  else if off = 0x058 then s.tailWrite (canP m) 0x050 off v
  else s.plainWrite (canP m) off v

end Sys2Proof.Machine
end

