-- ==== Sys2Proof/Machine/Compositor.lean ====
section
/-!
DEFINITION. The Compositor (sections 15.5 to 15.7): layers, colour conversion, scaling, blending, dithering, frames, writeback,
DSI packets, and the COMPOSITOR page.
-/

namespace Sys2Proof.Machine

def State.modComp (s : State) (f : CompUnit → CompUnit) : State := { s with comp := f s.comp }

/-- A pixel in 10 bits: R, G, B. -/
abbrev Rgb := Nat × Nat × Nat

def Rgb.map (f : Nat → Nat) (p : Rgb) : Rgb := (f p.1, f p.2.1, f p.2.2)

/-! ## Layer registers -/

/-- The staged layer registers, 7 words a layer, and COMP_BG. -/
def State.stagedLayers (s : State) : List Word :=
  ((List.range 8).flatMap fun l => (List.range 7).map fun k => s.reg compP (0x100 + 0x20 * l + 4 * k)) ++ [s.reg compP 0x048]

/-- Register k of a layer: 0 CTL, 1 ADDR, 2 ADDR2, 3 PITCH, 4 SRC, 5 POS, 6 DST. -/
def layerWord (ls : List Word) (l k : Nat) : Word := ls.getD (7 * l + k) 0

/-- The layers a COMMIT or an ENABLE applies to, one at a time. -/
structure Layer where
  video : Bool
  en : Bool
  fmt : Nat
  premult : Bool
  galpha : Nat
  addr : Nat
  addr2 : Nat
  pitch : Nat
  srcW : Nat
  srcH : Nat
  posX : Nat
  posY : Nat
  dstW : Nat
  dstH : Nat
  deriving DecidableEq, Repr

def layerAt (ls : List Word) (l : Nat) : Layer :=
  let w := layerWord ls l
  let video := decide (l < 2)
  { video := video, en := bit (w 0) 0, fmt := fld (w 0) 3 1, premult := bit (w 0) 4, galpha := fld (w 0) 15 8,
    addr := 64 * fld (w 1) 23 0, addr2 := 64 * fld (w 2) 23 0, pitch := fld (w 3) 23 0, srcW := fld (w 4) 12 0,
    srcH := fld (w 4) 28 16, posX := fld (w 5) 12 0, posY := fld (w 5) 28 16,
    dstW := if video then fld (w 6) 12 0 else fld (w 4) 12 0, dstH := if video then fld (w 6) 28 16 else fld (w 4) 28 16 }

/-- Bytes of a row of a layer's first plane (Table 15-9). -/
def Layer.rowBytes (y : Layer) : Nat :=
  match y.fmt with
  | 0 => y.srcW | 1 => 4 * ((y.srcW + 1) / 2) | 2 => 3 * y.srcW | 3 => 4 * y.srcW | 4 => 2 * y.srcW | _ => y.srcW

/-- A plane lies in the owner's Commons grant. -/
def State.planeOk (s : State) (off pitch rows bytes : Nat) : Bool :=
  s.inGrant (s.page compP).owner off (if rows = 0 then 0 else (rows - 1) * pitch + bytes)

/-- R510. -/
def State.layerOk (s : State) (y : Layer) : Bool :=
  let ratio := fun (src dst : Nat) => decide (src ≤ 4 * dst) && decide (dst ≤ 8 * src)
  !y.en || ((if y.video then decide (y.fmt ≤ 3) else decide (3 ≤ y.fmt) && decide (y.fmt ≤ 5)) && decide (y.pitch % 64 = 0) &&
    decide (1 ≤ y.srcW) && decide (1 ≤ y.srcH) && (!y.video || (ratio y.srcW y.dstW && ratio y.srcH y.dstH)) &&
    s.planeOk y.addr y.pitch y.srcH y.rowBytes &&
    (if y.fmt = 0 then s.planeOk y.addr2 y.pitch ((y.srcH + 1) / 2) (2 * ((y.srcW + 1) / 2))
     else if y.fmt = 5 then s.planeOk y.addr2 0 1 1024 else true))

/-- The first layer that breaks R510. -/
def State.badLayer (s : State) (ls : List Word) : Option Nat := (List.range 8).find? fun l => !s.layerOk (layerAt ls l)

/-! ## Source pixels (R511) -/

def exp8 (v : Nat) : Nat := v * 4 + v / 64
def exp5 (v : Nat) : Nat := v * 32 + v
def exp6 (v : Nat) : Nat := v * 16 + v / 4

/-- COMP_CSC coefficient M of row c and column k, signed Q3.12. -/
def State.csc (s : State) (c k : Nat) : Int :=
  let i := 3 * c + k
  sext 16 (s.regF compP (0x060 + 4 * (i / 2)) (16 * (i % 2) + 15) (16 * (i % 2)))

/-- A YUV pixel of 8-bit components in R, G and B. -/
def State.fromYuv (s : State) (y cb cr : Nat) : Rgb :=
  let yo : Int := (4 * s.regF compP 0x074 7 0 : Nat)
  let co : Int := (4 * s.regF compP 0x074 15 8 : Nat)
  let out := fun (c : Nat) =>
    (clampInt 0 1023 ((s.csc c 0 * ((exp8 y : Int) - yo) + s.csc c 1 * ((exp8 cb : Int) - co) + s.csc c 2 * ((exp8 cr : Int) - co) + 2048) / 4096)).toNat
  (out 0, out 1, out 2)

/-- A source pixel of a layer: 10-bit components and alpha. -/
def State.srcPixel (s : State) (y : Layer) (px py : Nat) : Rgb × Nat :=
  let b := fun (off : Nat) => byteAt (s.readGrant (s.page compP).owner off 1) 0
  let row := y.addr + py * y.pitch
  let argb := fun (off : Nat) => ((exp8 (b (off + 2)), exp8 (b (off + 1)), exp8 (b off)), b (off + 3))
  match y.fmt with
  | 0 =>
    let c := y.addr2 + py / 2 * y.pitch + 2 * (px / 2)
    (s.fromYuv (b (row + px)) (b c) (b (c + 1)), 255)
  | 1 =>
    let q := row + 4 * (px / 2)
    (s.fromYuv (b (q + 2 * (px % 2))) (b (q + 1)) (b (q + 3)), 255)
  | 2 => ((exp8 (b (row + 3 * px)), exp8 (b (row + 3 * px + 1)), exp8 (b (row + 3 * px + 2))), 255)
  | 3 => argb (row + 4 * px)
  | 4 =>
    let v := b (row + 2 * px) + 256 * b (row + 2 * px + 1)
    ((exp5 (v / 2048), exp6 (v / 32 % 64), exp5 (v % 32)), 255)
  | _ => argb (y.addr2 + 4 * b (row + px))

/-- Offsets of the bytes that a source pixel is read from. -/
def State.srcOffs (s : State) (y : Layer) (px py : Nat) : List Nat :=
  let row := y.addr + py * y.pitch
  let run := fun (off n : Nat) => (List.range n).map (off + ·)
  match y.fmt with
  | 0 => (row + px) :: run (y.addr2 + py / 2 * y.pitch + 2 * (px / 2)) 2
  | 1 => run (row + 4 * (px / 2)) 4
  | 2 => run (row + 3 * px) 3
  | 3 => run (row + 4 * px) 4
  | 4 => run (row + 2 * px) 2
  | _ => (row + px) :: run (y.addr2 + 4 * byteAt (s.readGrant (s.page compP).owner (row + px) 1) 0) 4

/-- Source place of an output place on one axis: the two neighbours and the weight of the second. -/
def scalePos (src dst x : Nat) : Nat × Nat × Nat :=
  let step := src * 65536 / dst
  let v := (clampInt 0 ((src - 1) * 65536 : Nat) ((((2 * x + 1) * step : Nat) - 65536 : Int) / 2)).toNat
  (v / 65536, min (v / 65536 + 1) (src - 1), v / 256 % 256)

/-- A layer at a place of its own (R511). -/
def State.sample (s : State) (y : Layer) (dx dy : Nat) : Rgb × Nat :=
  if !y.video then s.srcPixel y dx dy
  else
    let (x0, x1, fx) := scalePos y.srcW y.dstW dx
    let (y0, y1, fy) := scalePos y.srcH y.dstH dy
    let a := s.srcPixel y x0 y0
    let b := s.srcPixel y x1 y0
    let c := s.srcPixel y x0 y1
    let d := s.srcPixel y x1 y1
    let mix := fun (p q r t : Nat) =>
      (p * (256 - fx) * (256 - fy) + q * fx * (256 - fy) + r * (256 - fx) * fy + t * fx * fy + 32768) / 65536
    ((mix a.1.1 b.1.1 c.1.1 d.1.1, mix a.1.2.1 b.1.2.1 c.1.2.1 d.1.2.1, mix a.1.2.2 b.1.2.2 c.1.2.2 d.1.2.2), mix a.2 b.2 c.2 d.2)

/-- Offsets of the bytes a layer reads for a place of its own. -/
def State.sampleOffs (s : State) (y : Layer) (dx dy : Nat) : List Nat :=
  if !y.video then s.srcOffs y dx dy
  else
    let (x0, x1, _) := scalePos y.srcW y.dstW dx
    let (y0, y1, _) := scalePos y.srcH y.dstH dy
    s.srcOffs y x0 y0 ++ s.srcOffs y x1 y0 ++ s.srcOffs y x0 y1 ++ s.srcOffs y x1 y1

/-! ## Blending (R512) -/

def bgPixel (ls : List Word) : Rgb :=
  let w := ls.getD 56 0
  (exp8 (fld w 23 16), exp8 (fld w 15 8), exp8 (fld w 7 0))

def Layer.covers (y : Layer) (px py : Nat) : Bool :=
  decide (y.posX ≤ px) && decide (px < y.posX + y.dstW) && decide (y.posY ≤ py) && decide (py < y.posY + y.dstH)

/-- One layer over a component. -/
def blend (y : Layer) (src alpha c : Nat) : Nat :=
  let a := (alpha * y.galpha + 127) / 255
  if y.premult then min 1023 ((src * y.galpha + 127) / 255 + (c * (255 - a) + 127) / 255)
  else (src * a + c * (255 - a) + 127) / 255

/-- An output pixel over COMP_BG, layers in rising order. -/
def State.outPixel (s : State) (ls : List Word) (px py : Nat) : Rgb :=
  (List.range 8).foldl (fun (c : Rgb) l =>
    let y := layerAt ls l
    if y.en && y.covers px py then
      let p := s.sample y (px - y.posX) (py - y.posY)
      (blend y p.1.1 p.2 c.1, blend y p.1.2.1 p.2 c.2.1, blend y p.1.2.2 p.2 c.2.2)
    else c) (bgPixel ls)

/-- Offsets of the bytes that an output pixel is composed from. -/
def State.outOffs (s : State) (ls : List Word) (px py : Nat) : List Nat :=
  (List.range 8).flatMap fun l =>
    let y := layerAt ls l
    if y.en && y.covers px py then s.sampleOffs y (px - y.posX) (py - y.posY) else []

def State.compW (s : State) : Nat := s.regF compP 0x044 12 0
def State.compH (s : State) : Nat := s.regF compP 0x044 28 16
def State.compOut (s : State) : Nat := s.regF compP 0x040 1 0

/-- The frame; in HOLD COMP_BG only (R518). -/
def State.composed (s : State) : List (List Rgb) :=
  let ls := s.comp.layers
  (List.range s.compH).map fun py => (List.range s.compW).map fun px =>
    if s.pageState compP = .hold then bgPixel ls else s.outPixel ls px py

/-- The pixels of the frame that poisoned data goes into (R171). -/
def State.composedBad (s : State) : List (List Bool) :=
  (List.range s.compH).map fun py => (List.range s.compW).map fun px =>
    decide (s.pageState compP ≠ .hold) && (s.outOffs s.comp.layers px py).any (s.badGrant (s.page compP).owner)

/-- The reads of a frame meet the errors that stand in the words they touch, each word once (R177). -/
def State.lookFrame (s : State) : State :=
  if s.pageState compP = .hold then s
  else
    let words := ((List.range s.compH).flatMap fun py => (List.range s.compW).flatMap fun px =>
      (s.outOffs s.comp.layers px py).map (· / 8)).eraseDups
    (words.foldl (fun s w => s.meetGrant (s.page compP).owner (8 * w) 8) s).takeCondemned

/-! ## Dithering (R513) -/

def ditherM : List (List Nat) := [[0, 8, 2, 10], [12, 4, 14, 6], [3, 11, 1, 9], [15, 7, 13, 5]]

def ditherOff (f : Nat) : Nat × Nat := match f % 4 with
  | 0 => (0, 0) | 1 => (1, 1) | 2 => (0, 1) | _ => (1, 0)

/-- Panel depth of a component. -/
def State.panelDepth (s : State) : Nat := if s.regF compP 0x080 5 4 = 0 then 8 else 6

def State.dither (s : State) (f px py c : Nat) : Nat :=
  let mode := s.regF compP 0x040 3 2
  let d := s.panelDepth
  let k := 10 - d
  let (ox, oy) := if mode = 2 then ditherOff f else (0, 0)
  let t := if mode = 0 then 2 ^ (k - 1) else (((ditherM.getD ((py + oy) % 4) []).getD ((px + ox) % 4) 0) * 2 ^ k) / 16
  min ((c + t) / 2 ^ k) (2 ^ d - 1)

/-- Rows of a frame at panel depth. -/
def State.toPanel (s : State) (f : Nat) (rows : List (List Rgb)) : List (List Rgb) :=
  ((List.range rows.length).zip rows).map fun r => ((List.range r.2.length).zip r.2).map fun e =>
    Rgb.map (s.dither f e.1 r.1) e.2

/-! ## Frames (R514, R515, R518) -/

/-- The frame in progress ends: a QUIESCE or STOP that waited for it is done. -/
def State.compEnd (s : State) : State :=
  let s1 := s.modComp fun c => { c with inFrame := false, ending := 0 }
  if s.comp.ending = 1 then (s1.toState compP .hold).finishQuiesce compP 2 none
  else if s.comp.ending = 2 then (s1.toState compP .idle).finishPending compP 2 none
  else s1

/-- A frame starts: a COMMIT at least 50 µs old takes effect, the frame is composed. -/
def State.compBegin (s : State) (wb : Nat → Bool) : State :=
  let f := s.comp.started
  let s1 := match s.comp.commit with
    | some (t0, ls) =>
      if t0 + 50000 ≤ now s then
        ((s.modComp fun c => { c with layers := ls, commit := none }).finishPending compP 2 none).raise compP 0
      else s
    | none => s
  (s1.lookFrame.setRegN compP 0x058 f).modComp fun c =>
    { c with frame := s1.composed, bad := s1.composedBad, started := f + 1, inFrame := true, wb := if wb f then some f else c.wb }

/-- COMP_FRAME_START (R515): the vertical sync of a frame of DSI timing. -/
def execCompFrameStart (time : Dword) (s : State) : Host.Outcome State Fault Refusal :=
  let s1 := advanceTo time.toNat s
  if !s1.inState compP [.running, .hold] || !([1, 3].contains s1.compOut) then done s1
  else
    let s2 := s1.compEnd
    if !s2.inState compP [.running, .hold] then done s2
    else
      let run := decide (s2.pageState compP = .running)
      let div := s2.regF compP 0x04C 31 24 + 1
      let s3 := s2.compBegin fun f => run && decide (s2.compOut = 3) && decide ((f + 1) % div = 0)
      let s4 := { s3 with out := { s3.out with display := s3.toPanel s2.comp.started s3.comp.frame } }
      done (s4.hwSignal 0x33 (now s4))

/-- With OUT = WB a frame is composed at every (WB_DIV + 1)-th Bar boundary (R514). -/
def State.compBar (s : State) : State :=
  if s.pageState compP = .running ∧ s.compOut = 2 ∧ s.regN tempoP 0x074 % (s.regF compP 0x04C 31 24 + 1) = 0 ∧ s.comp.wb.isNone then
    s.compBegin fun _ => true
  else s

/-- COMP_LINE_UNDERRUN (R515): from pixel x of a line on, COMP_BG is sent. -/
def execCompLineUnderrun (line x : BitVec 11) (s : State) : Host.Outcome State Fault Refusal :=
  if !s.comp.inFrame || !([1, 3].contains s.compOut) || decide (s.compH ≤ line.toNat) then done s
  else
    let f := s.comp.started - 1
    let bg := bgPixel s.comp.layers
    let row := (s.out.display.getD line.toNat []).take x.toNat ++
      ((List.range s.compW).drop x.toNat).map fun px => Rgb.map (s.dither f px line.toNat) bg
    let s1 := { s with out := { s.out with display := listSet s.out.display line.toNat row } }
    done ((s1.bumpF compP 0x05C 15 0 1).raise compP 1)

/-- Bytes of a row of the writeback frame: ARGB8888, undithered (R514). -/
def wbRow (row : List Rgb) : List Byte :=
  let v := fun (c : Nat) => BitVec.ofNat 8 (min ((c + 2) / 4) 255)
  row.flatMap fun p => [v p.2.2, v p.2.1, v p.1, 255]

/-- A row of the writeback frame is stored, two pixels to a word; a word with a pixel of poisoned data is poisoned (R171). -/
def State.wbStore (s : State) (off : Nat) (row : List Rgb) (bad : List Bool) : State :=
  (List.range ((row.length + 1) / 2)).foldl (fun s i =>
    s.writeGrant (s.page compP).owner (off + 8 * i) (wbRow ((row.drop (2 * i)).take 2)) (((bad.drop (2 * i)).take 2).any id)) s

/-- COMP_WRITEBACK_DONE (R514): the last line of the frame has taken effect. -/
def execCompWritebackDone (s : State) : Host.Outcome State Fault Refusal :=
  match s.comp.wb with
  | none => done s
  | some f =>
    let b := s.comp.buf
    let pitch := s.regF compP 0x050 23 0
    let base := 64 * s.regF compP 0x04C 23 0 + b * pitch * s.compH
    let s1 := ((List.range s.comp.frame.length).zip s.comp.frame).foldl (fun s e =>
      s.wbStore (base + e.1 * pitch) e.2 (s.comp.bad.getD e.1 [])) s
    let s2 := ((s1.setRegN compP 0x054 (f % 0x10000 * 0x10000 + b)).raise compP 2).hwSignal 0x34 (now s1)
    let s3 := s2.modComp fun c => { c with wb := none, buf := 1 - b }
    done (if s3.compOut = 2 then s3.compEnd else s3)

/-! ## The COMPOSITOR page (Table 15-12) -/

/-- COMMIT (R518). -/
def execCommitLayers (r : Requester) (arg : BitVec 24) (s : State) : Host.Outcome State Fault Refusal :=
  done (s.pageCmd r compP 0x10 arg fun s _ =>
    if !s.inState compP [.running, .hold] then (ansState, s)
    else match s.badLayer s.stagedLayers with
      | some l => (ansArg 3 l, s)
      | none => (ansAccepted, s.modComp fun c => { c with commit := some (now s, s.stagedLayers) }))

/-- Data types of long packets (PRESUMED, log entry 33). -/
def longPacket (dt : Nat) : Bool := dt = 0x29 || dt = 0x39

/-- The packet of DSI_PKT and its payload. -/
def State.dsiPacket (s : State) : List Byte :=
  let dt := s.regF compP 0x090 5 0
  let n := s.regF compP 0x090 23 8
  BitVec.ofNat 8 dt :: leBytes 2 n ++
    (if longPacket dt then ((List.range 16).flatMap fun k => leBytes 4 (s.reg compP (0x0A0 + 4 * k)).toNat).take n else [])

/-- A packet may be sent: IDLE or HOLD, at most 64 bytes. -/
def State.dcsCmd (s : State) (code : Nat) (r : Requester) (arg : BitVec 24) (answer : Option Dword) : State :=
  s.pageCmd r compP code arg fun s _ =>
    if !s.inState compP [.idle, .hold] then (ansState, s)
    else if longPacket (s.regF compP 0x090 5 0) && decide (64 < s.regF compP 0x090 23 8) then (ansArg 1 0, s)
    else (ansAccepted, s.modComp fun c => { c with answer := answer })

/-- DCS_SEND (R516): the packet goes out before the command completes. -/
def execDcsSend (r : Requester) (arg : BitVec 24) (s : State) : Host.Outcome State Fault Refusal := done (s.dcsCmd 0x11 r arg none)

/-- DCS_READ (R516): `answer`: the read response; none: no response, or an acknowledge-and-error report. -/
def execDcsRead (r : Requester) (arg : BitVec 24) (answer : Option Dword) (s : State) : Host.Outcome State Fault Refusal :=
  done (s.dcsCmd 0x12 r arg answer)

/-- The completion of a command of the page: a packet has been sent, or the frame QUIESCE or STOP waited for has ended. -/
def State.compComplete (s : State) : State :=
  let sent := { s with out := { s.out with dcs := s.out.dcs ++ [s.dsiPacket] } }
  match (s.page compP).pending with
  | some c =>
    if c.code = 0x11 then sent.finishPending compP 2 none
    else if c.code = 0x12 then
      (match s.comp.answer with
       | some v => ((sent.setRegN compP 0x0E0 v.toNat).setRegN compP 0x0E4 (v.toNat / 0x100000000)).finishPending compP 2 none
       | none => (sent.finishPending compP 5 (some (4, 0))).raise compP 3)
    else if s.comp.ending ≠ 0 then s.compEnd else s
  | none => if s.comp.ending ≠ 0 then s.compEnd else s

def State.compCfgOk (s : State) : Bool :=
  let f := fun (off hi lo : Nat) => s.regF compP off hi lo
  decide (s.compOut ≠ 0) && decide (f 0x040 3 2 ≤ 2) && decide (16 ≤ s.compW) && decide (s.compW ≤ 1920) && decide (16 ≤ s.compH) &&
  decide (s.compH ≤ 1080) && decide (f 0x050 23 0 % 64 = 0) && decide (80 ≤ f 0x080 31 16) && decide (f 0x080 31 16 ≤ 1500) &&
  decide (f 0x080 5 4 ≤ 2) && decide (f 0x080 1 0 ≤ 2)

/-- R517. -/
def State.bandwidthOk (s : State) : Bool :=
  let lanes := 2 ^ s.regF compP 0x080 1 0
  let bpp := if s.regF compP 0x080 5 4 = 1 then 18 else 24
  decide (5 * (bpp * s.regF compP 0x08C 19 0) ≤ 4 * (lanes * s.regF compP 0x080 31 16 * 1000))

def compEnable (s : State) : Ans × State :=
  if !s.inState compP [.idle, .hold] then (ansState, s)
  else if !s.compCfgOk then (ansArg 1 0, s)
  else if !s.bandwidthOk then (ansArg 2 0, s)
  else match s.badLayer s.stagedLayers with
    | some l => (ansArg 3 l, s)
    | none => (ansDone, (s.toState compP .running).modComp fun c =>
        { c with layers := s.stagedLayers, commit := none, buf := if s.pageState compP = .idle then 0 else c.buf })

def compQuiesce (s : State) : Ans × State :=
  if s.pageState compP ≠ .running then (ansDone, s)
  else if s.comp.inFrame then (ansAccepted, s.modComp fun c => { c with ending := 1 })
  else (ansDone, s.toState compP .hold)

def compStop (s : State) : Ans × State :=
  let s1 := s.modComp fun c => { c with commit := none, answer := none }
  if !s.inState compP activeStates then (ansDone, s1)
  else if s.comp.inFrame then (ansAccepted, s1.modComp fun c => { c with ending := 2 })
  else (ansDone, s1.toState compP .idle)

end Sys2Proof.Machine
end

