-- ==== Sys2Proof/Machine/Ticks.lean ====
section
/-!
DEFINITION. What happens at Pulse, Beat and Bar boundaries (R43 to R45). At one Metronome value the Beat or Bar actions come
first, the Pulse of the Loop Engines and sensors after them.
-/

namespace Sys2Proof.Machine

/-! ## The tick that falls next -/

/-- Metronome value of the Pulse boundary that falls next (R43). -/
def State.tickTime (s : State) : Nat := s.epoch + s.tempo.nextK * s.tPulse

def State.onBeat (s : State) : Bool := decide (s.tempo.nextK % s.nBeat = 0)
def State.onBar (s : State) : Bool := decide (s.tempo.nextK % (s.nBeat * s.mBar) = 0)

/-- Ticks fall: the TEMPO page is in RUNNING or HOLD and ticks have started. -/
def State.tickFalls (s : State) : Bool := s.ticking && s.tempo.ticks

/-- TEMPO_BAR_COUNT and TEMPO_POS at the boundary that falls next. -/
def State.showTick (s : State) : State :=
  let k := s.tempo.nextK
  let bar := (s.regN tempoP 0x070 + k / (s.nBeat * s.mBar)) % 2 ^ 32
  (s.setRegN tempoP 0x074 bar).setRegN tempoP 0x078 (k / s.nBeat % s.mBar * 0x100 + k % s.nBeat)

/-! ## Steps 2 to 5 of R45 -/

/-- A homeroom at a Bar boundary: its pending Score and its re-admission take effect, ARMED becomes RUNNING, releases that
HOLD kept back resume (Table 4-10). -/
def State.hrBar (s : State) (h : Nat) : State :=
  let s1 := (s.applyReadmit h).replaceScore h
  let s2 := if s1.pageState (hrP h) = .armed ∧ s1.pageState tempoP = .running ∧ (s1.score h).isSome then s1.toState (hrP h) .running else s1
  let s3 := if (s2.hr h).resumeAtBar then s2.modHr h fun r => { r with resumeAtBar := false, noRelease := false } else s2
  (s3.modHr h fun r => { r with windowCount := 0, windowStart := now s }).syncTiles h

/-- Step 4 and what falls on every Beat beside it: the Seat, the Proctor, CALIBRATE. -/
def State.beatJudge (s : State) : State :=
  let s1 := if s.boot.seatDue then (s.modBoot fun b => { b with seatDue := false }).setSeat 1 else s
  s1.proctorBeat.calibBeat

/-- Step 5: releases due at the boundary, each Beat with fresh engine shares; then a descent that is due (R474). -/
def State.beatRelease (s : State) (bar : Bool) : State :=
  let s1 := (List.range 8).foldl (fun s h => s.modHr h fun r => { r with engineUsed := 0 }) s.quiesceBeat
  let s2 := (s1.tickLevel 0).tickLevel 1
  let s3 := if bar then (s2.tickLevel 2).releaseDue.retryTriggers else s2.releaseDue
  s3.dynBeat.modTempo fun t => { t with beatDone := true }

/-- BEAT_BOUNDARY (R44): a Beat boundary that is no Bar boundary. Otherwise nothing happens. -/
def execBeatBoundary (s : State) : Host.Outcome State Fault Refusal :=
  if !s.tickFalls || s.tempo.beatDone || !s.onBeat || s.onBar then done s
  else
    let s1 := (advanceTo s.tickTime s).showTick
    done (((s1.hwSignal 1 s.tickTime).beatJudge).beatRelease false)

/-- BAR_BOUNDARY (R45). Otherwise nothing happens. -/
def execBarBoundary (s : State) : Host.Outcome State Fault Refusal :=
  if !s.tickFalls || s.tempo.beatDone || !s.onBar then done s
  else
    let t := s.tickTime
    let s1 := (advanceTo t s).showTick
    let s2 := s1.applyChange
    let applied := decide (s2.epoch ≠ s1.epoch)
    let s3 := if applied then s2.jslRefit else s2
    let s4 := (List.range 8).foldl (fun s h => s.hrBar h) s3.refitAll
    let sw := s4.segueBoundary
    let s5 := sw.1.foldl (fun s k => s.hwSignal (0x40 + k) t) sw.2
    let s6 := (s5.planFsync.compBar).modTempo fun x => { x with quiet :=
    x.quiet && (decide (s5.pageState tempoP ≠ .running) || !(s5.page tempoP).quiesces.isEmpty) }
    let s7 := (s6.hwSignal 1 t).hwSignal 2 t
    let s8 := if applied then s7.hwSignal 3 t else s7
    done (s8.beatJudge.beatRelease true)

/-! ## The Pulse -/

/-- The JSL sample of a tracker among those that became available. -/
def jslFor (l : List (Nat × Nat × List Byte × Nat)) (at' : Nat × Nat) : Option (List Byte × Nat) :=
  (l.find? fun e => decide (e.1 = at'.1) && decide (e.2.1 = at'.2)).map fun e => e.2.2

/-- STOP of the TEMPO page is carried out once no axis is torque-enabled (Table 2-5). -/
def State.tempoStopped (s : State) : State :=
  if s.tempo.stopping && !s.anyTorque then
    (((s.modTempo fun t => { t with stopping := false }).toState tempoP .idle).ticksStop.restartWindows).finishPending tempoP 2 none
  else s

/-- PULSE_BOUNDARY (R43): JSL data, the trackers, the Loop Engines and the Proctor, in this order. On a Beat boundary it follows
the Beat or Bar actions; before them nothing happens. -/
def execPulseBoundary (s : State) : Host.Outcome State Fault Refusal :=
  if !s.tickFalls || (s.onBeat && !s.tempo.beatDone) then done s
  else
    let beat := s.onBeat
    let s1 := (advanceTo s.tickTime s).showTick
    let s2 := if beat then s1 else (s1.tickLevel 0).releaseDue
    let js := s2.jslPublish
    let axes := List.range s.chip.grade.axes
    let s3 := axes.foldl (fun s n => s.trackerPulse n (jslFor js.1 (s.angJsl n))) js.2
    let s4 := axes.foldl (fun s n => s.loopPulse n) s3
    let s5 := (s4.proctorPulse beat).modTempo fun t => { t with nextK := t.nextK + 1, beatDone := false }
    done s5.tempoStopped

end Sys2Proof.Machine
end

