-- ==== Sys2Proof/Machine/Universal.lean ====
section
/-!
DEFINITION. The universal commands of Table 3-5 on every page type (Table 3-3, and the table a block's chapter gives in its
place), and the completion of a command that posted ACCEPTED (R99).
-/

namespace Sys2Proof.Machine

/-! ## What each page type does -/

/-- ENABLE, by page type. -/
def enableBody (p : PageRef) (s : State) : Ans × State :=
  match p.ty with
  | .tempo => tempoEnable s
  | .homeroom => hrEnable s p.inst
  | .tile => tileEnable s p.inst
  | .dma => dmaEnable s p.inst
  | .camera => camEnable s p.inst
  | .pfe => pfeEnable s p.inst
  | .dpp => dppEnable s
  | .codec => codecEnable s
  | .weight => weightEnable s p.inst
  | .kv => kvEnable s
  | .loop => loopEnable s p.inst
  | .pstage => let x := pstageEnable s p.inst; (x.1, x.2.calibAbort)
  | .angle => angleEnable s p.inst
  | .jsl => jslEnable s p.inst
  | .rubric => rubricEnable s
  | .safeio => safeioEnable s
  | .eth => ethEnable s p.inst
  | .can => canEnable s p.inst
  | .compositor => compEnable s
  | .cue | .sect | .locker | .adc | .proctor | .hallmon | .image | .identity | .dynamics | .pcie => (ansState, s)

/-- DISABLE, by page type. -/
def disableBody (p : PageRef) (s : State) : Ans × State :=
  match p.ty with
  | .tempo => tempoDisable s
  | .homeroom => hrDisable s p.inst
  | .dma => dmaDisable s p.inst
  | .camera => camDisable s p.inst
  | .weight => weightDisable s p.inst
  | .kv => kvDisable s
  | .loop => loopDisable s p.inst
  | .pstage => pstageDisable s p.inst
  | .angle => angleDisable s p.inst
  | .safeio => safeioDisable s
  | .pfe | .jsl | .eth | .can | .compositor => genDisable s p
  | .cue | .tile | .dpp | .codec | .sect | .locker | .adc | .proctor | .rubric | .hallmon | .image | .identity | .dynamics
  | .pcie => (ansState, s)

/-- QUIESCE, by page type. -/
def quiesceBody (p : PageRef) (s : State) : Ans × State :=
  match p.ty with
  | .tempo => tempoQuiesce s
  | .homeroom => hrQuiesce s p.inst
  | .tile => tileQuiesce s p.inst
  | .dma => dmaQuiesce s p.inst
  | .camera => camQuiesce s p.inst
  | .pfe => pfeQuiesce s p.inst
  | .dpp => dppQuiesce s
  | .kv => kvQuiesce s
  | .loop => loopQuiesce s p.inst
  | .jsl => jslQuiesce s p.inst
  | .proctor => procQuiesce s
  | .compositor => compQuiesce s
  | .eth => let x := genQuiesce s p; (x.1, x.2.syncCheck)
  | .codec | .weight | .can => genQuiesce s p
  | .cue | .pstage | .angle | .safeio | .rubric | .sect | .locker | .adc | .hallmon | .image | .identity | .dynamics | .pcie =>
    (ansDone, s)

/-- STOP, by page type. `old` is the command that was pending (R467). -/
def stopBody (p : PageRef) (old : Option PendCmd) (s : State) : Ans × State :=
  match p.ty with
  | .tempo => tempoStop s
  | .homeroom => hrStop s p.inst
  | .cue => cueStop s p.inst
  | .tile => tileStop s p.inst
  | .dma => dmaStopCmd s p.inst
  | .camera => camStop s p.inst
  | .pfe => pfeStop s p.inst
  | .dpp => dppStop s
  | .codec => codecStop s
  | .weight => weightStop s p.inst
  | .kv => kvStop s
  | .loop => loopStop s p.inst
  | .pstage => pstageStop s p.inst
  | .angle => angleStop s p.inst
  | .jsl => jslStop s p.inst
  | .proctor => procStop s
  | .rubric => rubricStop s
  | .safeio => safeioStop s
  | .image => imageStop old s
  | .identity => identStop old s
  | .eth => ethStop s p.inst
  | .can => canStop s p.inst
  | .compositor => compStop s
  | .sect | .locker | .adc | .hallmon | .dynamics | .pcie => (ansDone, s)

/-- RESET_PAGE, by page type. `healthy`: the unit passes the self-test of Table 3-3, which rules where no table of the block's chapter
replaces that row. -/
def resetBody (p : PageRef) (healthy : Bool) (s : State) : Ans × State :=
  match p.ty with
  | .tempo => tempoReset s
  | .homeroom => hrReset s p.inst
  | .cue => cueReset s p.inst
  | .tile => tileReset s p.inst
  | .dma => dmaReset s p.inst
  | .camera => camReset s p.inst
  | .weight => weightReset s p.inst
  | .kv => kvReset s
  | .loop => loopReset s p.inst
  | .pstage => pstageReset s p.inst
  | .safeio => safeioReset s
  | .pfe | .angle | .jsl | .eth | .can | .compositor => if healthy then genReset s p else (ansState, s)
  | .dpp | .codec | .sect | .locker | .adc | .proctor | .rubric | .hallmon | .image | .identity | .dynamics | .pcie => (ansState, s)

/-! ## The commands -/

/-- RESET_PAGE (R91). -/
def execResetPage (r : Requester) (p : PageRef) (arg : ResetArg) (s : State) : Host.Outcome State Fault Refusal :=
  done (s.pageCmd r p 1 arg.arg fun s _ => resetBody p arg.healthy s)

/-- ENABLE (R91, R104). -/
def execEnable (r : Requester) (p : PageRef) (arg : BitVec 24) (s : State) : Host.Outcome State Fault Refusal :=
  done (s.pageCmd r p 2 arg fun s _ => enableBody p s)

/-- DISABLE (R91). -/
def execDisable (r : Requester) (p : PageRef) (arg : BitVec 24) (s : State) : Host.Outcome State Fault Refusal :=
  done (s.pageCmd r p 3 arg fun s _ => disableBody p s)

/-- QUIESCE (R91, R102). -/
def execQuiesce (r : Requester) (p : PageRef) (arg : BitVec 24) (s : State) : Host.Outcome State Fault Refusal :=
  done (s.pageCmd r p 0x0E arg fun s _ => quiesceBody p s)

/-- STOP (R91, R100, R101). -/
def execStop (r : Requester) (p : PageRef) (arg : BitVec 24) (s : State) : Host.Outcome State Fault Refusal :=
  let old := (s.page p).pending
  done (s.pageCmd r p 0x0F arg fun s _ => stopBody p old s)

/-- COMMAND_COMPLETION (R99): a command that posted ACCEPTED, and whose unit is finished, posts its final result. `detail` is
what the unit reports: the failed paths of TEST_PATH, an error of the boot flash. The commands whose end is an event of its own
(ADMIT, SET_TEMPO, BIST, RELEASE, WAKE and the others) complete there. -/
def execCommandCompletion (p : PageRef) (detail : Word) (s : State) : Host.Outcome State Fault Refusal :=
  let waits := fun (code : Nat) => match (s.page p).pending with
    | some c => decide (c.code = code)
    | none => false
  done (match p.ty with
    | .homeroom => if s.pageState p = .running then s.hrQuiesceDone p.inst else s
    | .tempo => s.tempoQuiesceDone.tempoStopped
    | .pfe => if waits 2 then s.pfeEnableDone p.inst else s
    | .pstage => if waits 0x10 then s.testPathDone p.inst detail.toNat else s
    | .rubric => if waits 2 then s.rubricEnableDone else s
    | .image => s.imageComplete detail.toNat
    | .identity => s.identComplete detail.toNat
    | .compositor => s.compComplete
    | _ => s)

end Sys2Proof.Machine
end

