-- ==== Sys2Proof/Machine/RegWrite.lean ====
section
/-!
DEFINITION. REGISTER_WRITE: a write to register space, by address (R76 to R89). A write to a register that a command of its own
covers has that command's effect; every other register takes what its definition lets it take.
-/

namespace Sys2Proof.Machine

/-! ## PAGE_CMD -/

/-- The block commands of a page type (R95, the command tables of the chapters): none where the type has no such code. -/
def blockCommand (r : Requester) (p : PageRef) (code : Nat) (arg : BitVec 24) (s : State) : Option (Host.Outcome State Fault Refusal) :=
  let n := p.inst
  match p.ty, code with
  | .tempo, 0x10 => some (execSetTempo r arg s)
  | .tempo, 0x11 => some (execStepMtn r arg s)
  | .homeroom, 0x10 => some (execAdmitScore r (Fin.ofNat 8 n) arg s)
  | .homeroom, 0x20 => if n = 0 then some (execConfigure r arg s) else none
  | .homeroom, 0x21 => if n = 0 then some (execGrantPage r arg s) else none
  | .homeroom, 0x22 => if n = 0 then some (execRevokePage r arg s) else none
  | .homeroom, 0x23 => if n = 0 then some (execRelease r arg s) else none
  | .tile, 0x20 => some (execSetTags r (Fin.ofNat 32 n) arg s)
  | .tile, 0x21 => some (execInjectCk r (Fin.ofNat 32 n) arg s)
  | .sect, 0x10 => some (execBist r (Fin.ofNat 4 n) arg s)
  | .locker, 0x10 => some (execInject r (Fin.ofNat 4 n) arg s)
  | .weight, 0x10 => some (execBuildBegin r (Fin.ofNat 8 n) arg s)
  | .weight, 0x11 => some (execSegue r (Fin.ofNat 8 n) arg s)
  | .loop, 0x10 => some (execCapture r (Fin.ofNat 16 n) arg s)
  | .loop, 0x11 => some (execCapStop r (Fin.ofNat 16 n) arg s)
  | .loop, 0x12 => some (execOstClear r (Fin.ofNat 16 n) arg s)
  | .pstage, 0x10 => some (execTestPath r (Fin.ofNat 16 n) arg s)
  | .adc, 0x10 => some (execCalibrate r (Fin.ofNat 2 n) arg s)
  | .jsl, 0x10 => some (execAcyc r (Fin.ofNat 8 n) arg s)
  | .proctor, 0x10 => some (execHostRequestRelease r arg s)
  | .image, 0x10 => some (execFlashErase r arg s)
  | .image, 0x11 => some (execFlashWrite r arg s)
  | .image, 0x12 => some (execVerifySlot r arg s)
  | .image, 0x13 => some (execSetPreferred r arg s)
  | .image, 0x14 => some (execConfirm r arg s)
  | .image, 0x15 => some (execCommitSvn r arg s)
  | .image, 0x16 => some (execRevokeKey r arg s)
  | .image, 0x17 => some (execDeviceReset r arg s)
  | .identity, 0x10 => some (execQuote r arg s)
  | .identity, 0x11 => some (execSeatAccept r arg s)
  | .identity, 0x12 => some (execFleetEnrol r arg s)
  | .dynamics, 0x10 => some (execWakeCmd r arg s)
  | .pcie, 0x10 => some (execRetrain r (Fin.ofNat 2 n) arg s)
  | .eth, 0x10 => some (execQbvApply r (Fin.ofNat 4 n) arg s)
  | .compositor, 0x10 => some (execCommitLayers r arg s)
  | .compositor, 0x11 => some (execDcsSend r arg s)
  | .compositor, 0x12 => some (execDcsRead r arg none s)
  | _, _ => none

/-- A write to PAGE_CMD: the command it spells. The outcome of the self-test of RESET_PAGE is a free value here (log entry 148). -/
def writeCommand (r : Requester) (p : PageRef) (v : Word) (s : State) : Host.Outcome State Fault Refusal :=
  let code := v.toNat / 0x1000000
  let arg := v.setWidth 24
  match code with
  | 0x00 => execNop r p arg s
  | 0x01 => execResetPage r p ⟨arg, (Config.freeWord s.freeCtr 301).getLsbD 0⟩ s.drawFree
  | 0x02 => execEnable r p arg s
  | 0x03 => execDisable r p arg s
  | 0x0E => execQuiesce r p arg s
  | 0x0F => execStop r p arg s
  | _ => (blockCommand r p code arg s).getD (execUnknownCommand r p (BitVec.ofNat 8 code) arg s)

/-! ## Block registers -/

/-- A write to CUE_COUNTi or CUE_SIGNALi (Table 4-13): SET or SIGNAL by the owner; HW_CUE in block 0 (R152). -/
def cueCountWrite (r : Requester) (b off : Nat) (v : Word) (s : State) (h : Nat) : State × Bool :=
  if b = 0 then ((s.countRefusal (cueP b)).syndrome (cueP b) 3 ((off - if off < 0x800 then 0x400 else 0x800) / 4), false)
  else if off < 0x800 then (s.opSet r h (256 * b + (off - 0x400) / 4) v.toNat, true)
  else (s.opSignal r h (256 * b + (off - 0x800) / 4) v.toNat, true)

/-- A WEIGHT page refuses its configuration in FAULT. -/
def weightWrite (k off : Nat) (v : Word) (s : State) : State × Bool :=
  if 0x058 ≤ off ∧ off ≤ 0x068 ∧ s.pageState (weightP k) = .fault then (s.refuseState (weightP k), false)
  else s.plainWrite (weightP k) off v

/-- TEMPO_SYNC.PORT naming a port that does not run leaves the servo in FREE. -/
def tempoSyncWrite (v : Word) (s : State) : State × Bool :=
  let x := s.plainWrite tempoP 0x080 v
  (x.1.syncCheck, x.2)

/-- A block register with an effect of its own, or a plain one. -/
def blockEffect (r : Requester) (p : PageRef) (off : Nat) (v : Word) (s : State) (h : Nat) : State × Bool :=
  match p.ty with
  | .tempo => if off = 0x080 then tempoSyncWrite v s else s.plainWrite p off v
  | .cue => if 0x400 ≤ off ∧ off < 0xC00 then cueCountWrite r p.inst off v s h else s.plainWrite p off v
  | .dpp => if 0x060 ≤ off ∧ off < 0x0A0 then queueWrite p 128 off v s else s.plainWrite p off v
  | .codec => if 0x060 ≤ off ∧ off < 0x0A0 then queueWrite p 64 off v s else s.plainWrite p off v
  | .weight => weightWrite p.inst off v s
  | .adc => adcWrite p.inst off v s
  | .safeio => safeioWrite off v s
  | .dynamics => dynWrite off v s
  | .eth => ethWrite p.inst off v s
  | .can => canWrite p.inst off v s
  | .homeroom | .tile | .sect | .locker | .dma | .camera | .pfe | .kv | .loop | .pstage | .angle | .jsl | .proctor | .rubric
  | .hallmon | .image | .identity | .pcie | .compositor => s.plainWrite p off v

/-- A write to a block register. A register that a command of the block writes has that command's effect. -/
def writeBlock (r : Requester) (p : PageRef) (off : Nat) (v : Word) (s : State) : Host.Outcome State Fault Refusal :=
  let n := p.inst
  let plain := done (s.guardWrite r p off fun s h => blockEffect r p off v s h)
  match p.ty with
  | .tempo => if off = 0x07C then execTempoSlewWrite r v s else plain
  | .cue => if 0x100 ≤ off ∧ off < 0x300 then execCueCfgWrite r (BitVec.ofNat 8 n) (Fin.ofNat 128 ((off - 0x100) / 4)) v s else plain
  | .tile => if off = 0x0C0 then execTileBankmapWrite r (Fin.ofNat 32 n) v s else plain
  | .dma => if off = 0x044 then execDmaTailWrite r (Fin.ofNat 8 n) v s else plain
  | .loop =>
    if 0x050 ≤ off ∧ off < 0x0C8 then execLoopGainWrite r (Fin.ofNat 16 n) (Fin.ofNat 30 ((off - 0x050) / 4)) v s
    else if off = 0x18C then execLoopTgtCommit r (Fin.ofNat 16 n) v s
    else if 0x800 ≤ off then execOstTableWrite r (Fin.ofNat 16 n) (Fin.ofNat 512 ((off - 0x800) / 4)) v s
    else plain
  | .angle =>
    if 0x060 ≤ off ∧ off < 0x0E0 then
      execAngEventWrite r (Fin.ofNat 16 n) (Fin.ofNat 16 ((off - 0x060) / 8)) (decide (off % 8 = 4)) v s
    else plain
  | _ => plain

/-- One aligned 32-bit write to a page. The other header registers are read-only. -/
def writePage (r : Requester) (p : PageRef) (off : Nat) (v : Word) (s : State) : Host.Outcome State Fault Refusal :=
  if off = 0x010 then writeCommand r p v s
  else if off = 0x020 then execIrqPendWrite r p v s
  else if off = 0x024 then execIrqEnWrite r p v s
  else if off = 0x02C then done (s.crcWrite r p v)
  else if off < 0x040 then done (s.hostWake r)
  else writeBlock r p off v s

/-! ## REGISTER_WRITE -/

/-- One aligned 32-bit write to register space. The Roll Book and reserved addresses take no write (R76, R83). -/
def writeWord (r : Requester) (addr : Nat) (v : Word) (s : State) : Host.Outcome State Fault Refusal :=
  match s.requesterHr r with
  | none => done ((s.hostWake r).unmappedBy r true)
  | some _ => match pageAt s.chip.grade addr with
    | none => done (s.hostWake r)
    | some (p, off) => writePage r p off v s

/-- A write of another size or alignment has no effect and counts on the page (R78). -/
def State.badWrite (s : State) (r : Requester) (addr : Nat) : State :=
  let s := s.hostWake r
  match s.requesterHr r with
  | none => s.unmappedBy r true
  | some _ => match pageAt s.chip.grade addr with
    | none => s
    | some (p, _) => s.countRefusal p

/-- REGISTER_WRITE (R78, R89): `size` in bytes. An aligned 64-bit write is two 32-bit writes, the low address first. -/
def execRegisterWrite (r : Requester) (addr : Word) (size : Nat) (v : Dword) (s : State) : Host.Outcome State Fault Refusal :=
  let a := addr.toNat
  if size = 4 ∧ a % 4 = 0 then writeWord r a (v.setWidth 32) s
  else if size = 8 ∧ a % 8 = 0 then
    match writeWord r a (v.setWidth 32) s with
    | .next s1 => writeWord r (a + 4) ((v >>> 32).setWidth 32) s1
    | .fault f => .fault f
    | .refused f => .refused f
  else done (s.badWrite r a)

end Sys2Proof.Machine
end

