-- ==== Sys2Proof/Machine/Dispatch.lean ====
section
/-!
DEFINITION. One arm for every constructor of Instr: the direct call of its meaning.
-/

namespace Sys2Proof.Machine

def exec (i : Instr) (s : State) : Host.Outcome State Fault Refusal :=
  match i with
  | .pulseBoundary => Sys2Proof.Machine.execPulseBoundary s
  | .beatBoundary => Sys2Proof.Machine.execBeatBoundary s
  | .barBoundary => Sys2Proof.Machine.execBarBoundary s
  | .tempoEpochReached => Sys2Proof.Machine.execTempoEpochReached s
  | .triggerHoldExpiry h ix => Sys2Proof.Machine.execTriggerHoldExpiry h ix s
  | .deadlineExpiry h ix => Sys2Proof.Machine.execDeadlineExpiry h ix s
  | .budgetExpiry h ix at' => Sys2Proof.Machine.execBudgetExpiry h ix at' s
  | .skipDeadlineExpiry h ix => Sys2Proof.Machine.execSkipDeadlineExpiry h ix s
  | .noTriggerExpiry h ix => Sys2Proof.Machine.execNoTriggerExpiry h ix s
  | .fsyncAssert n => Sys2Proof.Machine.execFsyncAssert n s
  | .fsyncDeassert n => Sys2Proof.Machine.execFsyncDeassert n s
  | .setTempo r arg => Sys2Proof.Machine.execSetTempo r arg s
  | .setTempoCheckDone => Sys2Proof.Machine.execSetTempoCheckDone s
  | .stepMtn r arg => Sys2Proof.Machine.execStepMtn r arg s
  | .tempoSlewWrite r v => Sys2Proof.Machine.execTempoSlewWrite r v s
  | .latchingRead r a => Sys2Proof.Machine.execLatchingRead r a s
  | .refClockLoss => Sys2Proof.Machine.execRefClockLoss s
  | .beatTimingFault => Sys2Proof.Machine.execBeatTimingFault s
  | .syncHoldoverTimeout => Sys2Proof.Machine.execSyncHoldoverTimeout s
  | .ioLinkDown d => Sys2Proof.Machine.execIoLinkDown d s
  | .ioLinkWatchdogExpiry d => Sys2Proof.Machine.execIoLinkWatchdogExpiry d s
  | .registerWrite r addr size v => Sys2Proof.Machine.execRegisterWrite r addr size v s
  | .rcRegisterRead r a => Sys2Proof.Machine.execRcRegisterRead r a s
  | .irqPendWrite r p v => Sys2Proof.Machine.execIrqPendWrite r p v s
  | .irqEnWrite r p v => Sys2Proof.Machine.execIrqEnWrite r p v s
  | .nop r p arg => Sys2Proof.Machine.execNop r p arg s
  | .resetPage r p arg => Sys2Proof.Machine.execResetPage r p arg s
  | .enable r p arg => Sys2Proof.Machine.execEnable r p arg s
  | .disable r p arg => Sys2Proof.Machine.execDisable r p arg s
  | .quiesce r p arg => Sys2Proof.Machine.execQuiesce r p arg s
  | .stop r p arg => Sys2Proof.Machine.execStop r p arg s
  | .unknownCommand r p code arg => Sys2Proof.Machine.execUnknownCommand r p code arg s
  | .commandCompletion p detail => Sys2Proof.Machine.execCommandCompletion p detail s
  | .admitScore r h arg => Sys2Proof.Machine.execAdmitScore r h arg s
  | .admitComplete h => Sys2Proof.Machine.execAdmitComplete h s
  | .configure r arg => Sys2Proof.Machine.execConfigure r arg s
  | .grantPage r arg => Sys2Proof.Machine.execGrantPage r arg s
  | .revokePage r arg => Sys2Proof.Machine.execRevokePage r arg s
  | .release r arg => Sys2Proof.Machine.execRelease r arg s
  | .releaseComplete => Sys2Proof.Machine.execReleaseComplete s
  | .violationWindowExpiry h => Sys2Proof.Machine.execViolationWindowExpiry h s
  | .wakeTolWrite r h v => Sys2Proof.Machine.execWakeTolWrite r h v s
  | .cueSignal r cue v => Sys2Proof.Machine.execCueSignal r cue v s
  | .cueWait r cue n timeout => Sys2Proof.Machine.execCueWait r cue n timeout s
  | .cueArrive r cue timeout => Sys2Proof.Machine.execCueArrive r cue timeout s
  | .cueTest r cue => Sys2Proof.Machine.execCueTest r cue s
  | .cueSet r cue v => Sys2Proof.Machine.execCueSet r cue v s
  | .cueTake r cue => Sys2Proof.Machine.execCueTake r cue s
  | .waiterTimeout ix => Sys2Proof.Machine.execWaiterTimeout ix s
  | .cueCfgWrite r b j v => Sys2Proof.Machine.execCueCfgWrite r b j v s
  | .cueStorageError b idx => Sys2Proof.Machine.execCueStorageError b idx s
  | .scratchpadAccessIssue t ecc => Sys2Proof.Machine.execScratchpadAccessIssue t ecc s
  | .scrubRead addr ecc => Sys2Proof.Machine.execScrubRead addr ecc s
  | .lockerLinkDown flit => Sys2Proof.Machine.execLockerLinkDown flit s
  | .corridorParityFail flit => Sys2Proof.Machine.execCorridorParityFail flit s
  | .setTags r t arg => Sys2Proof.Machine.execSetTags r t arg s
  | .inject r k arg => Sys2Proof.Machine.execInject r k arg s
  | .tileBankmapWrite r t v => Sys2Proof.Machine.execTileBankmapWrite r t v s
  | .bankPhaseApply t => Sys2Proof.Machine.execBankPhaseApply t s
  | .dmaTailWrite r c v => Sys2Proof.Machine.execDmaTailWrite r c v s
  | .dmaDescriptorStart c => Sys2Proof.Machine.execDmaDescriptorStart c s
  | .dmaDescriptorEnd c ns => Sys2Proof.Machine.execDmaDescriptorEnd c ns s
  | .dmaTagTimeout c => Sys2Proof.Machine.execDmaTagTimeout c s
  | .hostSramAccess pasid addr write data => Sys2Proof.Machine.execHostSramAccess pasid addr write data s
  | .mxCfg t f => Sys2Proof.Machine.execMxCfg t f s
  | .mxLdw t f => Sys2Proof.Machine.execMxLdw t f s
  | .mxSwap t f => Sys2Proof.Machine.execMxSwap t f s
  | .mxPass t f ups => Sys2Proof.Machine.execMxPass t f ups s
  | .mxOut t f => Sys2Proof.Machine.execMxOut t f s
  | .mxZacc t f => Sys2Proof.Machine.execMxZacc t f s
  | .vxLd t f => Sys2Proof.Machine.execVxLd t f s
  | .vxSt t f => Sys2Proof.Machine.execVxSt t f s
  | .vxAlu t op f => Sys2Proof.Machine.execVxAlu t op f s
  | .vxFma t f => Sys2Proof.Machine.execVxFma t f s
  | .vxFn t op f => Sys2Proof.Machine.execVxFn t op f s
  | .vxCvt t f dst sat => Sys2Proof.Machine.execVxCvt t f dst sat s
  | .vxQmul t f => Sys2Proof.Machine.execVxQmul t f s
  | .vxMac8 t f => Sys2Proof.Machine.execVxMac8 t f s
  | .vxLred t f maximum => Sys2Proof.Machine.execVxLred t f maximum s
  | .vxSel t f => Sys2Proof.Machine.execVxSel t f s
  | .vxPerm t f => Sys2Proof.Machine.execVxPerm t f s
  | .vxArgmax t f => Sys2Proof.Machine.execVxArgmax t f s
  | .vxAtaddi t f => Sys2Proof.Machine.execVxAtaddi t f s
  | .vxAtaddf t f => Sys2Proof.Machine.execVxAtaddf t f s
  | .mvCopy t f => Sys2Proof.Machine.execMvCopy t f s
  | .mvBcast t f => Sys2Proof.Machine.execMvBcast t f s
  | .mvRed t f => Sys2Proof.Machine.execMvRed t f s
  | .mvGather t f => Sys2Proof.Machine.execMvGather t f s
  | .sySignal t f => Sys2Proof.Machine.execSySignal t f s
  | .syWait t f => Sys2Proof.Machine.execSyWait t f s
  | .syArrive t f => Sys2Proof.Machine.execSyArrive t f s
  | .syTest t f => Sys2Proof.Machine.execSyTest t f s
  | .sySet t f => Sys2Proof.Machine.execSySet t f s
  | .syTake t f => Sys2Proof.Machine.execSyTake t f s
  | .syWaitany t f => Sys2Proof.Machine.execSyWaitany t f s
  | .syFence t f => Sys2Proof.Machine.execSyFence t f s
  | .syTags t first count1 v => Sys2Proof.Machine.execSyTags t first count1 v s
  | .ctSets t f => Sys2Proof.Machine.execCtSets t f s
  | .ctAlu t op f => Sys2Proof.Machine.execCtAlu t op f s
  | .ctBr t f => Sys2Proof.Machine.execCtBr t f s
  | .ctLoop t f => Sys2Proof.Machine.execCtLoop t f s
  | .ctPhase t f => Sys2Proof.Machine.execCtPhase t f s
  | .ctYield t f => Sys2Proof.Machine.execCtYield t f s
  | .ctEnd t f => Sys2Proof.Machine.execCtEnd t f s
  | .ctMtn t f => Sys2Proof.Machine.execCtMtn t f s
  | .ctTid t f => Sys2Proof.Machine.execCtTid t f s
  | .ctLds t f => Sys2Proof.Machine.execCtLds t f s
  | .ctSts t f => Sys2Proof.Machine.execCtSts t f s
  | .ckCrc t f => Sys2Proof.Machine.execCkCrc t f s
  | .ckFin t f => Sys2Proof.Machine.execCkFin t f s
  | .ckBound t f => Sys2Proof.Machine.execCkBound t f s
  | .ckTrap t f => Sys2Proof.Machine.execCkTrap t f s
  | .ckStamp t f => Sys2Proof.Machine.execCkStamp t f s
  | .activationDispatch h ix => Sys2Proof.Machine.execActivationDispatch h ix s
  | .activationStop t => Sys2Proof.Machine.execActivationStop t s
  | .yieldBarrierRelease h ix => Sys2Proof.Machine.execYieldBarrierRelease h ix s
  | .stallTimeout t => Sys2Proof.Machine.execStallTimeout t s
  | .hardwareStall t => Sys2Proof.Machine.execHardwareStall t s
  | .injectCk r t arg => Sys2Proof.Machine.execInjectCk r t arg s
  | .bist r q arg => Sys2Proof.Machine.execBist r q arg s
  | .bistComplete q passed failMap => Sys2Proof.Machine.execBistComplete q passed failMap s
  | .readmissionComplete h => Sys2Proof.Machine.execReadmissionComplete h s
  | .csiFrameStart n fn hdr => Sys2Proof.Machine.execCsiFrameStart n fn hdr s
  | .csiFrameEnd n fn hdr => Sys2Proof.Machine.execCsiFrameEnd n fn hdr s
  | .csiLinePacket n hdr payload crcOk => Sys2Proof.Machine.execCsiLinePacket n hdr payload crcOk s
  | .csiIgnoredPacket n hdr => Sys2Proof.Machine.execCsiIgnoredPacket n hdr s
  | .camNoFeTimeout n => Sys2Proof.Machine.execCamNoFeTimeout n s
  | .camNoFrameTimeout n => Sys2Proof.Machine.execCamNoFrameTimeout n s
  | .csiPhyLoss n => Sys2Proof.Machine.execCsiPhyLoss n s
  | .pfeFrameCommit n time => Sys2Proof.Machine.execPfeFrameCommit n time s
  | .pfeSampleStart n => Sys2Proof.Machine.execPfeSampleStart n s
  | .dppJobStart => Sys2Proof.Machine.execDppJobStart s
  | .dppJobEnd ns => Sys2Proof.Machine.execDppJobEnd ns s
  | .buildBegin r k arg => Sys2Proof.Machine.execBuildBegin r k arg s
  | .segue r k arg => Sys2Proof.Machine.execSegue r k arg s
  | .decodeWpkf h host => Sys2Proof.Machine.execDecodeWpkf h host s
  | .decodeApkv h host => Sys2Proof.Machine.execDecodeApkv h host s
  | .encodeApkv h host => Sys2Proof.Machine.execEncodeApkv h host s
  | .copyBlocks h host => Sys2Proof.Machine.execCopyBlocks h host s
  | .codecBlock ns host => Sys2Proof.Machine.execCodecBlock ns host s
  | .openSeq ns => Sys2Proof.Machine.execOpenSeq ns s
  | .batchSeq ns host => Sys2Proof.Machine.execBatchSeq ns host s
  | .closeSeq ns => Sys2Proof.Machine.execCloseSeq ns s
  | .swapOut ns => Sys2Proof.Machine.execSwapOut ns s
  | .swapIn ns host => Sys2Proof.Machine.execSwapIn ns host s
  | .setPriority ns => Sys2Proof.Machine.execSetPriority ns s
  | .swapOutReadbackDone ok ns => Sys2Proof.Machine.execSwapOutReadbackDone ok ns s
  | .limitWord n errors => Sys2Proof.Machine.execLimitWord n errors s
  | .obsRideTimeout n => Sys2Proof.Machine.execObsRideTimeout n s
  | .loopTgtCommit r n v => Sys2Proof.Machine.execLoopTgtCommit r n v s
  | .setpointTimeout n => Sys2Proof.Machine.execSetpointTimeout n s
  | .loopGainWrite r n k v => Sys2Proof.Machine.execLoopGainWrite r n k v s
  | .ostTableWrite r n ix v => Sys2Proof.Machine.execOstTableWrite r n ix v s
  | .capture r n arg => Sys2Proof.Machine.execCapture r n arg s
  | .capStop r n arg => Sys2Proof.Machine.execCapStop r n arg s
  | .ostClear r n arg => Sys2Proof.Machine.execOstClear r n arg s
  | .captureDone n => Sys2Proof.Machine.execCaptureDone n s
  | .pwmUpdatePoint n => Sys2Proof.Machine.execPwmUpdatePoint n s
  | .adcSample d codes time => Sys2Proof.Machine.execAdcSample d codes time s
  | .gateDriverFault n sw levels time => Sys2Proof.Machine.execGateDriverFault n sw levels time s
  | .blankingExpiry n sw time => Sys2Proof.Machine.execBlankingExpiry n sw time s
  | .ocComparatorTrip n phase levels time => Sys2Proof.Machine.execOcComparatorTrip n phase levels time s
  | .faultWindowExpiry n => Sys2Proof.Machine.execFaultWindowExpiry n s
  | .ascTimeout n => Sys2Proof.Machine.execAscTimeout n s
  | .testPath r n arg => Sys2Proof.Machine.execTestPath r n arg s
  | .calibrate r d arg => Sys2Proof.Machine.execCalibrate r d arg s
  | .pulseInputEdge n sig rising time => Sys2Proof.Machine.execPulseInputEdge n sig rising time s
  | .syntheticTooth n => Sys2Proof.Machine.execSyntheticTooth n s
  | .trackerHalt n => Sys2Proof.Machine.execTrackerHalt n s
  | .angleEventFire n e => Sys2Proof.Machine.execAngleEventFire n e s
  | .angEventWrite r n e ctl v => Sys2Proof.Machine.execAngEventWrite r n e ctl v s
  | .jslTransactionStart p => Sys2Proof.Machine.execJslTransactionStart p s
  | .jslResponse p a frame stopOk => Sys2Proof.Machine.execJslResponse p a frame stopOk s
  | .jslResponseTimeout p a => Sys2Proof.Machine.execJslResponseTimeout p a s
  | .acyc r p arg => Sys2Proof.Machine.execAcyc r p arg s
  | .lockstepMismatch => Sys2Proof.Machine.execLockstepMismatch s
  | .proctorSramUe => Sys2Proof.Machine.execProctorSramUe s
  | .stoTestPulse b seen => Sys2Proof.Machine.execStoTestPulse b seen s
  | .stoFeedbackCheck b fb => Sys2Proof.Machine.execStoFeedbackCheck b fb s
  | .brakeFeedbackTimeout k fb => Sys2Proof.Machine.execBrakeFeedbackTimeout k fb s
  | .safeInEdge k chB high time => Sys2Proof.Machine.execSafeInEdge k chB high time s
  | .safeInFilterExpiry k time => Sys2Proof.Machine.execSafeInFilterExpiry k time s
  | .discrepancyExpiry k time => Sys2Proof.Machine.execDiscrepancyExpiry k time s
  | .tpTestPulse tp1 during after time => Sys2Proof.Machine.execTpTestPulse tp1 during after time s
  | .ossdIntervalExpiry k chB => Sys2Proof.Machine.execOssdIntervalExpiry k chB s
  | .proctorEvent => Sys2Proof.Machine.execProctorEvent s
  | .hmChallenge cycles => Sys2Proof.Machine.execHmChallenge cycles s
  | .hmAnswer errors ns => Sys2Proof.Machine.execHmAnswer errors ns s
  | .hmAnswerWindowExpiry => Sys2Proof.Machine.execHmAnswerWindowExpiry s
  | .hmSupplyFault => Sys2Proof.Machine.execHmSupplyFault s
  | .cansStatusTimer time => Sys2Proof.Machine.execCansStatusTimer time s
  | .cansCommand id frame => Sys2Proof.Machine.execCansCommand id frame s
  | .cansTimeout => Sys2Proof.Machine.execCansTimeout s
  | .bodyPdu id frame => Sys2Proof.Machine.execBodyPdu id frame s
  | .hostRequestRelease r arg => Sys2Proof.Machine.execHostRequestRelease r arg s
  | .porstNAssert ns => Sys2Proof.Machine.execPorstNAssert ns s
  | .bootStart failed readFail recFail time => Sys2Proof.Machine.execBootStart failed readFail recFail time s
  | .flashErase r arg => Sys2Proof.Machine.execFlashErase r arg s
  | .flashWrite r arg => Sys2Proof.Machine.execFlashWrite r arg s
  | .verifySlot r arg => Sys2Proof.Machine.execVerifySlot r arg s
  | .setPreferred r arg => Sys2Proof.Machine.execSetPreferred r arg s
  | .confirm r arg => Sys2Proof.Machine.execConfirm r arg s
  | .commitSvn r arg => Sys2Proof.Machine.execCommitSvn r arg s
  | .revokeKey r arg => Sys2Proof.Machine.execRevokeKey r arg s
  | .deviceReset r arg => Sys2Proof.Machine.execDeviceReset r arg s
  | .quote r arg => Sys2Proof.Machine.execQuote r arg s
  | .seatAccept r arg => Sys2Proof.Machine.execSeatAccept r arg s
  | .fleetEnrol r arg => Sys2Proof.Machine.execFleetEnrol r arg s
  | .noBodyTimeout => Sys2Proof.Machine.execNoBodyTimeout s
  | .dwellExpiry time => Sys2Proof.Machine.execDwellExpiry time s
  | .wakeCmd r arg => Sys2Proof.Machine.execWakeCmd r arg s
  | .dynAlarmExpiry => Sys2Proof.Machine.execDynAlarmExpiry s
  | .wakeComplete time flashFail => Sys2Proof.Machine.execWakeComplete time flashFail s
  | .thermalSample sec die tooHot time => Sys2Proof.Machine.execThermalSample sec die tooHot time s
  | .pwrwarnAssert => Sys2Proof.Machine.execPwrwarnAssert s
  | .pwrwarnClear => Sys2Proof.Machine.execPwrwarnClear s
  | .pcieConfigRequest req time => Sys2Proof.Machine.execPcieConfigRequest req time s
  | .pcieLinkReset perst released => Sys2Proof.Machine.execPcieLinkReset perst released s
  | .pcieLaneLoss => Sys2Proof.Machine.execPcieLaneLoss s
  | .retrain r d arg => Sys2Proof.Machine.execRetrain r d arg s
  | .msixUnmask e masked => Sys2Proof.Machine.execMsixUnmask e masked s
  | .hostCompletion c row got => Sys2Proof.Machine.execHostCompletion c row got s
  | .hostCompletionTimeout c row => Sys2Proof.Machine.execHostCompletionTimeout c row s
  | .ethFrameReceive m frame fcsOk time => Sys2Proof.Machine.execEthFrameReceive m frame fcsOk time s
  | .ethFrameTransmit m host time => Sys2Proof.Machine.execEthFrameTransmit m host time s
  | .ethLinkChange m speed => Sys2Proof.Machine.execEthLinkChange m speed s
  | .gptpMessageReceive m msg => Sys2Proof.Machine.execGptpMessageReceive m msg s
  | .gptpSyncSend m time => Sys2Proof.Machine.execGptpSyncSend m time s
  | .gptpPdelay m delay => Sys2Proof.Machine.execGptpPdelay m delay s
  | .qbvCycleStart m time => Sys2Proof.Machine.execQbvCycleStart m time s
  | .qbvApply r m arg => Sys2Proof.Machine.execQbvApply r m arg s
  | .canFrameReceive m f time => Sys2Proof.Machine.execCanFrameReceive m f time s
  | .canFrameTransmit m arbLost time => Sys2Proof.Machine.execCanFrameTransmit m arbLost time s
  | .canBusOff m => Sys2Proof.Machine.execCanBusOff m s
  | .canBusOffRecovery m => Sys2Proof.Machine.execCanBusOffRecovery m s
  | .compFrameStart time => Sys2Proof.Machine.execCompFrameStart time s
  | .compLineUnderrun line x => Sys2Proof.Machine.execCompLineUnderrun line x s
  | .compWritebackDone => Sys2Proof.Machine.execCompWritebackDone s
  | .commitLayers r arg => Sys2Proof.Machine.execCommitLayers r arg s
  | .dcsSend r arg => Sys2Proof.Machine.execDcsSend r arg s
  | .dcsRead r arg answer => Sys2Proof.Machine.execDcsRead r arg answer s
  | .supplyMonitorFault vddSafe => Sys2Proof.Machine.execSupplyMonitorFault vddSafe s
  | .proctorHang => Sys2Proof.Machine.execProctorHang s
  | .pcieLinkUp speed width => Sys2Proof.Machine.execPcieLinkUp speed width s
  | .linkExitFromL1 => Sys2Proof.Machine.execLinkExitFromL1 s

end Sys2Proof.Machine
end

