-- ==== Sys2Proof/WellFormed.lean ====
section
/-!
DEFINITION. Well-formed commands: the conditions on operands that their types do not say. A sender of the block sends no
other; the meanings are total all the same.
-/

namespace Sys2Proof

/-- Instances of a page type in the largest grade (Table 3-13). -/
def mostInstances : PageType → Nat
  | .homeroom | .dma | .weight | .jsl => 8
  | .cue => 256
  | .tile => 32
  | .sect | .locker | .eth | .can => 4
  | .camera | .pfe => 12
  | .loop | .pstage | .angle => 16
  | .adc | .pcie => 2
  | .tempo | .dpp | .codec | .kv | .proctor | .rubric | .hallmon | .image | .identity | .dynamics | .compositor | .safeio => 1

/-- The page exists in some grade. -/
def PageRef.wf (p : PageRef) : Bool := decide (p.inst < mostInstances p.ty)

/-- A command code that Table 3-5 or the block's chapter defines for a page type. -/
def definedCode (t : PageType) (code : Nat) : Bool :=
  decide (code ≤ 3) || decide (code = 0x0E) || decide (code = 0x0F) ||
  match t with
  | .tempo | .weight | .identity => [0x10, 0x11, 0x12].contains code && (decide (t = .identity) || decide (code ≠ 0x12))
  | .homeroom => [0x10, 0x20, 0x21, 0x22, 0x23].contains code
  | .tile => [0x20, 0x21].contains code
  | .sect | .locker | .pstage | .adc | .jsl | .proctor | .dynamics | .pcie | .eth => decide (code = 0x10)
  | .loop | .compositor => [0x10, 0x11, 0x12].contains code
  | .image => decide (0x10 ≤ code) && decide (code ≤ 0x17)
  | .cue | .dma | .camera | .pfe | .dpp | .codec | .kv | .angle | .rubric | .hallmon | .can | .safeio => false

/-- A Score has at most 1,024 Parts (Table 2-6); those of the k-th latest replaced Score are named from 2,000 × k on. -/
def partWf (i : Nat) : Bool := decide (i % 2000 < 1024)

/-- Bytes of a CAN data field by DLC (ISO 11898-1). -/
def dlcLength (fd : Bool) (dlc : Nat) : Nat :=
  if dlc ≤ 8 then dlc else if !fd then 8 else [12, 16, 20, 24, 32, 48, 64].getD (dlc - 9) 64

/-- The data field has the length of the DLC, an 11-bit identifier fits, and no remote frame is CAN FD. -/
def CanFrame.wf (f : CanFrame) : Bool :=
  decide (f.data.length = if f.rtr then 0 else dlcLength f.fd f.dlc.toNat) && (f.ext || decide (f.id.toNat < 2048)) && !(f.rtr && f.fd)

/-- A command is well formed. -/
def Instr.wellFormed (i : Instr) : Bool :=
  match i with
  | .triggerHoldExpiry _ i => partWf i
  | .deadlineExpiry _ i => partWf i
  | .budgetExpiry _ i _ => partWf i
  | .skipDeadlineExpiry _ i => partWf i
  | .noTriggerExpiry _ i => partWf i
  | .registerWrite _ _ size _ => decide (0 < size) && decide (size ≤ 4096)
  | .latchingRead _ a => decide (0 < a.size) && decide (a.size ≤ 4096)
  | .rcRegisterRead _ a => decide (0 < a.size) && decide (a.size ≤ 4096)
  | .irqPendWrite _ p _ => p.wf
  | .irqEnWrite _ p _ => p.wf
  | .nop _ p _ => p.wf
  | .resetPage _ p _ => p.wf
  | .enable _ p _ => p.wf
  | .disable _ p _ => p.wf
  | .quiesce _ p _ => p.wf
  | .stop _ p _ => p.wf
  | .unknownCommand _ p code _ => p.wf && !definedCode p.ty code.toNat
  | .commandCompletion p _ => p.wf
  | .hostSramAccess _ _ _ data => decide (data ≠ [])
  | .activationDispatch _ i => partWf i
  | .yieldBarrierRelease _ i => partWf i
  | .adcSample _ codes _ => decide (codes.length = 24)
  | .cansCommand _ frame => decide (frame.length ≤ 64)
  | .bodyPdu _ frame => decide (frame.length ≤ 64)
  | .canFrameReceive _ f _ => f.wf
  | .pulseBoundary | .beatBoundary | .barBoundary | .tempoEpochReached | .fsyncAssert _ | .fsyncDeassert _
  | .setTempo _ _ | .setTempoCheckDone | .stepMtn _ _ | .tempoSlewWrite _ _ | .refClockLoss
  | .beatTimingFault | .syncHoldoverTimeout | .ioLinkDown _ | .ioLinkWatchdogExpiry _
  | .admitScore _ _ _ | .admitComplete _ | .configure _ _ | .grantPage _ _ | .revokePage _ _ | .release _ _
  | .releaseComplete | .violationWindowExpiry _ | .wakeTolWrite _ _ _ | .cueSignal _ _ _ | .cueWait _ _ _ _
  | .cueArrive _ _ _ | .cueTest _ _ | .cueSet _ _ _ | .cueTake _ _ | .waiterTimeout _ | .cueCfgWrite _ _ _ _
  | .cueStorageError _ _ | .scratchpadAccessIssue _ _ | .scrubRead _ _ | .lockerLinkDown _ | .corridorParityFail _
  | .setTags _ _ _ | .inject _ _ _ | .tileBankmapWrite _ _ _ | .bankPhaseApply _ | .dmaTailWrite _ _ _
  | .dmaDescriptorStart _ | .dmaDescriptorEnd _ _ | .dmaTagTimeout _ | .mxCfg _ _ | .mxLdw _ _ | .mxSwap _ _
  | .mxPass _ _ _ | .mxOut _ _ | .mxZacc _ _ | .vxLd _ _ | .vxSt _ _ | .vxAlu _ _ _ | .vxFma _ _ | .vxFn _ _ _
  | .vxCvt _ _ _ _ | .vxQmul _ _ | .vxMac8 _ _ | .vxLred _ _ _ | .vxSel _ _ | .vxPerm _ _ | .vxArgmax _ _
  | .vxAtaddi _ _ | .vxAtaddf _ _ | .mvCopy _ _ | .mvBcast _ _ | .mvRed _ _ | .mvGather _ _ | .sySignal _ _
  | .syWait _ _ | .syArrive _ _ | .syTest _ _ | .sySet _ _ | .syTake _ _ | .syWaitany _ _ | .syFence _ _
  | .syTags _ _ _ _ | .ctSets _ _ | .ctAlu _ _ _ | .ctBr _ _ | .ctLoop _ _ | .ctPhase _ _ | .ctYield _ _ | .ctEnd _ _
  | .ctMtn _ _ | .ctTid _ _ | .ctLds _ _ | .ctSts _ _ | .ckCrc _ _ | .ckFin _ _ | .ckBound _ _ | .ckTrap _ _
  | .ckStamp _ _ | .activationStop _ | .stallTimeout _ | .hardwareStall _ | .injectCk _ _ _ | .bist _ _ _
  | .bistComplete _ _ _ | .readmissionComplete _ | .csiFrameStart _ _ _ | .csiFrameEnd _ _ _ | .csiLinePacket _ _ _ _
  | .csiIgnoredPacket _ _ | .camNoFeTimeout _ | .camNoFrameTimeout _ | .csiPhyLoss _ | .pfeFrameCommit _ _
  | .pfeSampleStart _ | .dppJobStart | .dppJobEnd _ | .buildBegin _ _ _ | .segue _ _ _ | .decodeWpkf _ _
  | .decodeApkv _ _ | .encodeApkv _ _ | .copyBlocks _ _ | .codecBlock _ _ | .openSeq _ | .batchSeq _ _ | .closeSeq _
  | .swapOut _ | .swapIn _ _ | .setPriority _ | .swapOutReadbackDone _ _ | .limitWord _ _ | .obsRideTimeout _
  | .loopTgtCommit _ _ _ | .setpointTimeout _ | .loopGainWrite _ _ _ _ | .ostTableWrite _ _ _ _ | .capture _ _ _
  | .capStop _ _ _ | .ostClear _ _ _ | .captureDone _ | .pwmUpdatePoint _ | .gateDriverFault _ _ _ _
  | .blankingExpiry _ _ _ | .ocComparatorTrip _ _ _ _ | .faultWindowExpiry _ | .ascTimeout _ | .testPath _ _ _
  | .calibrate _ _ _ | .pulseInputEdge _ _ _ _ | .syntheticTooth _ | .trackerHalt _ | .angleEventFire _ _
  | .angEventWrite _ _ _ _ _ | .jslTransactionStart _ | .jslResponse _ _ _ _ | .jslResponseTimeout _ _ | .acyc _ _ _ | .lockstepMismatch
  | .proctorSramUe | .stoTestPulse _ _ | .stoFeedbackCheck _ _ | .brakeFeedbackTimeout _ _ | .safeInEdge _ _ _ _
  | .safeInFilterExpiry _ _ | .discrepancyExpiry _ _ | .tpTestPulse _ _ _ _ | .ossdIntervalExpiry _ _ | .proctorEvent
  | .hmChallenge _ | .hmAnswer _ _ | .hmAnswerWindowExpiry | .hmSupplyFault | .cansStatusTimer _ | .cansTimeout
  | .hostRequestRelease _ _ | .porstNAssert _ | .bootStart _ _ _ _ | .flashErase _ _ | .flashWrite _ _ | .verifySlot _ _
  | .setPreferred _ _ | .confirm _ _ | .commitSvn _ _ | .revokeKey _ _ | .deviceReset _ _ | .quote _ _ | .seatAccept _ _
  | .fleetEnrol _ _ | .noBodyTimeout | .dwellExpiry _ | .wakeCmd _ _ | .dynAlarmExpiry | .wakeComplete _ _
  | .thermalSample _ _ _ _ | .pwrwarnAssert | .pwrwarnClear | .pcieConfigRequest _ _ | .pcieLinkReset _ _ | .pcieLaneLoss
  | .retrain _ _ _ | .msixUnmask _ _ | .hostCompletion _ _ _ | .hostCompletionTimeout _ _ | .ethFrameReceive _ _ _ _
  | .ethFrameTransmit _ _ _ | .ethLinkChange _ _ | .gptpMessageReceive _ _ | .gptpSyncSend _ _ | .gptpPdelay _ _
  | .qbvCycleStart _ _ | .qbvApply _ _ _ | .canFrameTransmit _ _ _ | .canBusOff _ | .canBusOffRecovery _
  | .compFrameStart _ | .compLineUnderrun _ _ | .compWritebackDone | .commitLayers _ _ | .dcsSend _ _ | .dcsRead _ _ _
  | .supplyMonitorFault _ | .proctorHang | .pcieLinkUp _ _ | .linkExitFromL1 => true

end Sys2Proof
end

