-- ==== Sys2Proof/Safety.lean ====
section
/-!
DEFINITION. The terms claims are made in: a command that completes, a requester that may act on a page, a tile that issues, what
a command leaves alone, and what a sound state is.
-/

namespace Sys2Proof.Machine

/-! ## Commands that complete -/

/-- A command completes, in a state with a property. -/
def Completes (i : Instr) (s : State) (P : State → Prop) : Prop := ∃ t, exec i s = .next t ∧ P t

/-- Result code that PAGE_CMD_RESULT shows (Table 3-4). -/
def State.resultCode (s : State) (p : PageRef) : Nat := fld (s.page p).result 31 28

/-- A page is present, has no command pending and takes the code from the requester: its owner, or HR0 with NOP, QUIESCE and STOP
(Table 3-1). -/
def State.takes (s : State) (r : Requester) (p : PageRef) (code : Nat) : Bool :=
  present s.chip.grade p && ((s.requesterHr r).any fun h => mayCommand (s.page p).owner h code) && (s.page p).pending.isNone &&
  (s.page p).quiesces.isEmpty

/-- A requester acts as the owner of a page that is present and has no command pending. -/
def State.commands (s : State) (r : Requester) (p : PageRef) : Bool :=
  present s.chip.grade p && decide (s.requesterHr r = some (s.page p).owner) && (s.page p).pending.isNone && (s.page p).quiesces.isEmpty

/-- A requester acts as the owner of a page whose registers take writes at an offset. -/
def State.writes (s : State) (r : Requester) (p : PageRef) (off : Nat) : Bool :=
  present s.chip.grade p && decide (s.requesterHr r = some (s.page p).owner) && !s.inState p [.off, .excused, .locked] &&
  (!idleOnly p.ty off || decide (s.pageState p = .idle))

/-- No error stands in a range of SRAM, and no unit waits to be Excused. -/
def State.errFree (s : State) (a n : Nat) : Bool :=
  s.sram.condemned.isEmpty && s.sram.errs.all fun e => decide (e.1 < a / 8) || decide (a + n ≤ 8 * e.1)

/-- A tile issues an instruction: it holds an activation, does not wait, its program counter lies in the program, and the word there is
legal and spells the instruction, without error or poison. -/
def State.issues (s : State) (t : Nat) (i : Instr) : Bool :=
  s.canIssue t && decide ((s.tile t).pc < (s.tile t).progLen) && s.errFree (s.fetchAt t) 8 && !s.rangePoison (s.fetchAt t) 8 &&
  wordLegal (s.readNat (s.fetchAt t) 8) && wordSpells (s.readNat (s.fetchAt t) 8) i

/-- Program counter of a tile after an instruction that goes on. -/
def State.pcAfter (s : State) (t : Nat) : Nat := (s.tile t).advance.pc

/-! ## Frames -/

/-- Nothing differs but the Dynamics unit, which looks at the state after every command (R474, R476). -/
def Quiet (s u : State) : Prop := u = { s with dyn := u.dyn }

/-- Beside the Dynamics unit and messages of interrupts, nothing differs but the records of some pages (state, result, interrupts,
syndrome) and the registers of some keys. -/
def Beside (ps : List PageRef) (rs : List Nat) (s u : State) : Prop :=
  u = { s with pages := u.pages, regs := u.regs, dyn := u.dyn, out := { s.out with msix := u.out.msix },
               msix := { s.msix with pba := u.msix.pba } } ∧
  (∀ q, (∀ p ∈ ps, pageKey q ≠ pageKey p) → u.page q = s.page q) ∧
  ∀ p off, regKey p off ∉ rs → u.reg p off = s.reg p off

/-- Only one tile, its TILE_PC register, the Dynamics unit and the model's draw count differ. -/
def OnlyTile (t : Nat) (s u : State) : Prop :=
  u = { s with tiles := u.tiles, regs := u.regs, dyn := u.dyn, freeCtr := u.freeCtr } ∧
  (∀ k, k ≠ t → u.tile k = s.tile k) ∧
  ∀ p off, regKey p off ≠ regKey (tileP t) 0x070 → u.reg p off = s.reg p off

/-- Keys of the registers a violation record fills. -/
def recordKeys (h : Nat) : List Nat := [0x098, 0x0A0, 0x0A4, 0x0A8, 0x0AC].map (regKey (hrP h))

/-- A violation record stands in a homeroom's page and is counted (R124, Table 4-5). -/
def ViolationLeft (h first where' detail : Nat) (s u : State) : Prop :=
  u.regN (hrP h) 0x0A0 = first ∧ u.regN (hrP h) 0x0A4 = where' ∧ u.regN (hrP h) 0x0A8 = detail ∧
  u.regN (hrP h) 0x0AC = now s % 2 ^ 32 ∧ u.regF (hrP h) 0x098 15 0 = min 0xFFFF (s.regF (hrP h) 0x098 15 0 + 1) ∧
  (u.hr h).windowCount = (s.hr h).windowCount + 1 ∧ (u.page (hrP h)).pend.getLsbD 1 = true

/-- One more violation does not reach the limit of the homeroom's window (R126). -/
abbrev State.underLimit (s : State) (h : Nat) : Prop :=
  s.regF (hrP h) 0x09C 7 0 = 0 ∨ (s.hr h).windowCount + 1 < s.regF (hrP h) 0x09C 7 0

/-- A byte of a homeroom's grant that a device may write: reachable, and no copy of weights in force or image that is guarded. -/
def State.putOpen (s : State) (h off : Nat) : Bool := (s.grantOpen h off).any fun a => !s.weightGuarded a 1

/-- Offset of a Score's next late record in its homeroom's grant (R71). -/
def State.lateSlot (s : State) (h : Nat) (c : Score) : Nat :=
  64 * c.lateRing + 16 * (leNat (s.readGrant h (64 * c.offset + 0x10) 4) % 2 ^ c.lateLog2)

/-- The next late record and the count of records lie in memory that can be written, and apart. -/
abbrev State.lateRoom (s : State) (h : Nat) (c : Score) : Prop :=
  (∀ k, k < 16 → s.putOpen h (s.lateSlot h c + k) = true) ∧ (∀ k, k < 4 → s.putOpen h (64 * c.offset + 0x10 + k) = true) ∧
  (s.lateSlot h c + 16 ≤ 64 * c.offset + 0x10 ∨ 64 * c.offset + 0x14 ≤ s.lateSlot h c)

/-- A late record of a Part has been written and counted (R71, section 2.7). -/
def LateRecorded (h i : Nat) (c : Score) (p : Part) (outcome cause : Nat) (s u : State) : Prop :=
  u.readGrant h (s.lateSlot h c) 16 =
    leBytes 4 (i % oldBase + outcome * 0x10000 + cause * 0x100000) ++ leBytes 4 p.partId ++ leBytes 8 (now u) ∧
  u.readGrant h (64 * c.offset + 0x10) 4 = leBytes 4 (leNat (s.readGrant h (64 * c.offset + 0x10) 4) + 1)

/-- Offset of the request at the head of the KV ring in the grant of the client. -/
def State.kvAt (s : State) : Nat := 64 * s.regF kvP 0x05C 23 0 + 32 * s.regF kvP 0x084 15 0

/-- The request at the head of the KV ring, as a command with host data takes it. -/
def State.kvNext (s : State) (host : List HostChunk) : KvReq :=
  { index := s.regF kvP 0x084 15 0, bytes := s.readGrant s.kvClient s.kvAt 32,
    number := s.kv.requests + 1, host := host, entry := 0, results := [], failed := [] }

/-- The KV Pager takes the request at the head of its ring: it runs, holds none, and the request is one of an operation that signals
no Cue; no error stands in SRAM. -/
abbrev State.kvTakes (s : State) (op : Nat) : Prop :=
  s.pageState kvP = .running ∧ s.kv.req = none ∧ s.kvPending ≠ 0 ∧ s.shareSpent s.kvClient = false ∧ (s.kvNext []).op = op ∧
  (s.kvNext []).cue = 0 ∧ s.sram.errs = [] ∧ s.sram.condemned = []

/-- The status of the request lies in memory that can be written. -/
abbrev State.kvStatusRoom (s : State) : Prop := ∀ k, k < 8 → s.putOpen s.kvClient (s.kvAt + 0x14 + k) = true

/-- So does the record of its sequence, apart from the status. -/
abbrev State.kvRoom (s : State) : Prop :=
  s.kvStatusRoom ∧ (∀ k, k < 16 → s.putOpen s.kvClient (s.seqOff (s.kvNext []).seq + k) = true) ∧
  (s.seqOff (s.kvNext []).seq + 16 ≤ s.kvAt + 0x14 ∨ s.kvAt + 0x1C ≤ s.seqOff (s.kvNext []).seq)

/-- The request at the head of the KV ring has ended with a status and a count of tokens (R303). -/
def KvEnded (ns status tokens : Nat) (s u : State) : Prop :=
  u.kv.req = none ∧ u.regN kvP 0x090 = status * 0x10000000 + s.regF kvP 0x084 15 0 ∧
  u.readGrant s.kvClient (s.kvAt + 0x14) 8 = leBytes 4 (status + (s.kv.requests + 1) % 0x10000 * 0x10000) ++ leBytes 4 tokens ∧
  u.cueCount s.kvClient (s.regF kvP 0x060 15 0) = s.cueCount s.kvClient (s.regF kvP 0x060 15 0) - 1 ∧
  u.regF kvP 0x084 15 0 = (s.regF kvP 0x084 15 0 + 1) % 2 ^ s.regF kvP 0x05C 27 24 ∧
  (u.hr s.kvClient).engineUsed = (s.hr s.kvClient).engineUsed + ns

/-- It has touched nothing but the KV page, its sequence record and its status. -/
def KvOnly (s u : State) : Prop :=
  Beside [kvP] ([0x080, 0x084, 0x090].map (regKey kvP)) { s with mem := u.mem, sram := u.sram, cues := u.cues, kv := u.kv, hrs := u.hrs } u ∧
  u.sram.tags = s.sram.tags ∧
  ∀ x, (∀ k, k < 16 → s.grantAddr s.kvClient (s.seqOff (s.kvNext []).seq + k) ≠ some x) →
    (∀ k, k < 8 → s.grantAddr s.kvClient (s.kvAt + 0x14 + k) ≠ some x) → u.readByte x = s.readByte x

/-- Only one tile differs, and it has gone on to its next instruction with its activation. -/
def GoesOn (t : Nat) (s u : State) : Prop :=
  OnlyTile t s u ∧ (u.tile t).pc = s.pcAfter t ∧ (u.tile t).act = (s.tile t).act ∧ (u.tile t).wait = .none ∧ (u.tile t).held = none

/-- No Part of a Score in force is triggered by a Cue. -/
abbrev State.noTriggers (s : State) (cue : Nat) : Prop :=
  ∀ e ∈ s.allParts, (s.part? e.1 e.2).all (fun p => !p.trigEn || decide (p.trigCue ≠ cue)) = true

/-- An SRAM level is the Commons. -/
def Level.isCommons : Level → Bool
  | .commons _ => true
  | _ => false

/-- Every 64-byte unit of a range lies in the Commons, the homeroom reaches it, and no error stands in it; no flit waits to fail. -/
abbrev State.cleanUnits (s : State) (h a n : Nat) : Prop :=
  s.sram.flits = [] ∧ ∀ k, k < n → s.reachesAll h (a + 64 * k) 64 = true ∧ (levelAt s.chip.grade (a + 64 * k)).isCommons = true ∧
    s.errFree (a + 64 * k) 64 = true

/-- Every bank of a tile's scratchpad is bound to a class (R160). -/
abbrev State.bound (s : State) (t cls : Nat) : Prop := ∀ j, j < 16 → s.bankClass t j = cls

/-- The codes of a check block of a pass, computed from the activations, weights and accumulators in a state, agree with its outputs
(R204). -/
def State.blockAgrees (s : State) (t : Nat) (f : MxFields) (desc : List Byte) (b : Nat) : Bool :=
  let u := s.tile t
  let aE := opElem u.mode u.actE5
  let ks := List.range (kDim u.mode)
  let cols := List.range (nDim u.mode)
  let rows := blockRows (f.rows1.toNat + 1) b
  (attempt aE (opElem u.mode u.wtE5) (rows.map fun r => ks.map fun k => s.activation t desc f aE.width r k)
    (rows.map fun r => cols.map fun n => if f.accumulate then u.getAcc ((f.row0.toNat + r) % 256) n else 0)
    (cols.map fun n => ks.map fun k => u.weight k n) []).2.isNone

/-- A tile has made a choice (R238): its counters and its homeroom's show one more, and beside them only the tile has changed. -/
def Chose (t : Nat) (s u : State) : Prop :=
  Beside [tileP t] [regKey (tileP t) 0x070, regKey (tileP t) 0x088, regKey (tileP t) 0x08C, regKey (hrP (s.hrOn t)) 0x090,
    regKey (hrP (s.hrOn t)) 0x094] { s with tiles := u.tiles } u ∧
  (∀ k, k ≠ t → u.tile k = s.tile k) ∧ (u.tile t).choiceSeen = true ∧
  u.reg64 (tileP t) 0x088 = (s.reg64 (tileP t) 0x088 + 1) % 2 ^ 64 ∧
  u.reg64 (hrP (s.hrOn t)) 0x090 = (s.reg64 (hrP (s.hrOn t)) 0x090 + 1) % 2 ^ 64

/-- The job at the head of a Codec queue. -/
def State.codecNext (s : State) (h : Nat) : CodecJob :=
  let at' := 64 * s.regF codecP (0x060 + 8 * h) 23 0 + 64 * s.regF codecP (0x0A0 + 4 * h) 15 0
  { hr := h, index := s.regF codecP (0x0A0 + 4 * h) 15 0, at' := at', desc := s.readGrant h at' 64, dst := 0, epoch := 0, head := none,
    headBad := false, lastOff := none, next := 0, past := 0, encoded := [], bytes := 0, crc := 0, poisoned := false, stopped := false }

/-- DST of a job's descriptor (Table 9-8). -/
def CodecJob.dstAt (j : CodecJob) : Nat := leNat ((j.desc.drop 8).take 8)

/-- The Codec takes the next job of a queue: one of an operation, between ranges of SRAM, with its fields in range. -/
abbrev State.codecTakes (s : State) (h op : Nat) : Prop :=
  s.codecReady h = true ∧ (s.codecNext h).op = op ∧ (s.codecNext h).argOk = true ∧ s.grantPoison h (s.codecNext h).at' 64 = false ∧
  (s.codecNext h).srcHost = false ∧ (s.codecNext h).dstHost = false ∧ (s.codecNext h).bankEn = false ∧
  (levelAt s.chip.grade (s.codecNext h).src).isCommons = true ∧ s.sram.errs = [] ∧ s.sram.condemned = [] ∧ s.sram.flits = []

/-- Blocks a job writes: all of a stream from its first on where it gives no number. -/
def CodecJob.blocks (j : CodecJob) (head : Option StreamHead) : Nat :=
  match head with
  | some d => if j.count = 0 then d.blocks - j.first else j.count
  | none => (j.raw + 4095) / 4096

/-- The stream of a job that decodes holds its blocks, and the stream and the output lie in the homeroom's grants. -/
abbrev State.codecFits (s : State) (h : Nat) (d : StreamHead) : Prop :=
  (s.codecNext h).first < d.blocks ∧ (s.codecNext h).first + (s.codecNext h).count ≤ d.blocks ∧
  s.reachesAll h (s.codecNext h).src d.streamBytes = true ∧
  s.reachesAll h (s.codecNext h).dstAt
    ((List.range ((s.codecNext h).blocks (some d))).foldl (fun n i => n + d.outOf ((s.codecNext h).first + i)) 0) = true

/-- The next job of a queue has joined those in progress, and consumed its SUBMIT unit; nothing else differs. -/
def CodecStarted (h : Nat) (head : Option StreamHead) (s u : State) : Prop :=
  (∃ k, u.codec.jobs = s.codec.jobs ++ [k] ∧ k.hr = h ∧ k.desc = (s.codecNext h).desc ∧ k.dst = (s.codecNext h).dstAt ∧ k.head = head ∧
    k.next = 0 ∧ k.past = (s.codecNext h).blocks head ∧ k.stopped = false) ∧
  u.cueCount h (s.qCue codecP h) = s.cueCount h (s.qCue codecP h) - 1 ∧
  u.regF codecP (0x0A0 + 4 * h) 15 0 = ((s.codecNext h).index + 1) % 2 ^ s.qLog2 codecP h % 0x10000 ∧
  Beside [] [regKey codecP (0x0A0 + 4 * h)] { s with cues := u.cues, codec := u.codec } u

/-- A tile waits at a yield barrier. -/
def TileWait.atBarrier : TileWait → Bool
  | .barrier _ => true
  | _ => false

/-- Level that a channel of a SAFE_IN pair shows at a Metronome value, and since when: a level that a mask has hidden counts from the
end of the mask (R407). -/
def State.pairChannel (s : State) (k : Nat) (chB : Bool) (t : Nat) : Bool × Nat :=
  let x := s.spair k
  let shown := if chB then (x.b, x.sinceB) else (x.a, x.sinceA)
  let raw := s.rawLevel (2 * k + if chB then 1 else 0)
  if s.maskEnd k chB ≤ t ∧ shown.1 ≠ raw then (raw, s.maskEnd k chB) else shown

/-- A channel shows DEMAND: A low; B low, or high in an ANTIVALENT pair (R406). -/
def State.demands (s : State) (k : Nat) (chB : Bool) (t : Nat) : Bool :=
  if chB then (s.pairChannel k true t).1 == decide (s.pairMode k = 2) else !(s.pairChannel k false t).1

/-- A channel has shown its level for FILTER at a Metronome value. -/
abbrev State.steady (s : State) (k : Nat) (chB : Bool) (t : Nat) : Prop := (s.pairChannel k chB t).2 + s.pairFilter k ≤ t

/-- A fault of a safety channel has been taken (R400, R404, R426): STOP0 on every axis is latched until power-on reset, the service
level is SAFE-STOP or lower, STO_A and STO_B are off, and the Proctor gives no permit. -/
def SafeStopped (s u : State) : Prop :=
  (⟨5, 0xFFFF, .por⟩ : Latch) ∈ u.proc.latches ∧ u.regF procP 0x040 3 0 ≤ 1 ∧ u.regF procP 0x040 7 7 = 0 ∧ u.outBit 0 = false ∧
  u.outBit 2 = false ∧ u.proc.hmStop = true ∧ (s.noTriggers 5 → s.noTriggers 7 → u.mem = s.mem)

/-- The Hall Monitor has latched a fault (R424): STO_B is off, HM_STATUS shows the latch and the cause. -/
def HallLatched (cause : Nat) (u : State) : Prop :=
  u.hmLatched = true ∧ bit (u.reg hallP 0x040) (7 + cause) = true ∧ bit (u.reg hallP 0x040) 0 = false ∧ u.outBit 2 = false

/-- A device can write a record in a homeroom's ring: no error stands in SRAM, and every byte of the record can be written. -/
abbrev State.recordOpen (s : State) (h off n : Nat) : Prop :=
  s.sram.errs = [] ∧ s.sram.condemned = [] ∧ ∀ k, k < n → s.putOpen h (off + k) = true

/-- The state that boot judges the slots in: the trial counter is written, the device's identity shows (R439, R447). -/
def State.atBoot (s : State) (recFail : Bool) (time : Nat) : State :=
  ((advanceTo time s).writeBcr (trialRule s.bcr.1) (!recFail)).bootIdentity

/-- Every byte of SRAM outside n bytes from an address is as before. -/
def MemoryOutside (a n : Nat) (s u : State) : Prop := ∀ b, b < a ∨ a + n ≤ b → u.readByte b = s.readByte b

/-! ## Sound states -/

/-- SRAM lists its bytes in rising order and none that equals what an unlisted byte reads as. -/
abbrev Memory.wf (m : List Host.Cell) : Prop := tabWf (fun _ => memReset) m = true

/-- The Dynamics unit is never deeper than what the homerooms, the work and the tiles in force allow, unless a wake is in
progress; and a dwell stands only while a deeper state is the target and no wake is in progress (R473, R474, R476). -/
def State.dynSound (s : State) : Prop :=
  (s.dynTarget < s.dynState → s.dyn.wake.isSome) ∧
  (s.dyn.dwellFrom.isSome → s.dynState < s.dynTarget ∧ s.dyn.wake = none)

end Sys2Proof.Machine
end

