-- ==== Sys2Proof/Certificates/Slice0/Obligations.lean ====
section
/-!
DEFINITION. The statements for the provers.
-/

open Sys2Proof Sys2Proof.Machine

/-! ## The machine as a whole -/

/-- One step is the effect of the command at the front of the queue on a state whose queue is the rest; with an empty queue the
block idles (the model's choice, log entry 7). -/
def Obligations.StepRunsTheFrontCommand : Prop :=
  (∀ (c : Instr) (rest : List Instr) (s : State), s.pending = c :: rest → step s = exec c { s with pending := rest }) ∧
  (∀ s : State, s.pending = [] → step s = .next s)

/-- No command of the block ever ends in a fault or a refusal, whatever the state. -/
def Obligations.EveryCommandGoesOn : Prop :=
  ∀ (c : Instr) (s : State), ∃ t, exec c s = .next t

/-- After any step from a sound state the Dynamics unit is no deeper than its target unless a wake is in progress, and a dwell
stands only while a deeper state is the target and no wake is in progress. -/
def Obligations.StepsKeepDynamicsSound : Prop :=
  ∀ s t : State, s.dynSound → step s = .next t → t.dynSound

/-- Every step keeps SRAM in its canonical form: addresses rising, no byte listed that equals what an unlisted byte reads as. -/
def Obligations.StepsKeepMemoryCanonical : Prop :=
  ∀ s t : State, Memory.wf s.mem → step s = .next t → Memory.wf t.mem

/-- The rollback counts stay within 0 to 63 and the revocation bits within four; no command lowers a count or clears a bit; and
they change only through COMMIT_SVN and REVOKE_KEY, as commands of their own or written to PAGE_CMD of the IMAGE page. -/
def Obligations.FuseValuesNeverDecrease : Prop :=
  ∀ (c : Instr) (s t : State), exec c s = .next t →
    (s.boot.fuses.svnS ≤ 63 ∧ s.boot.fuses.svnC ≤ 63 ∧ s.boot.fuses.revoked < 16 →
      t.boot.fuses.svnS ≤ 63 ∧ t.boot.fuses.svnC ≤ 63 ∧ t.boot.fuses.revoked < 16) ∧
    s.boot.fuses.svnS ≤ t.boot.fuses.svnS ∧ s.boot.fuses.svnC ≤ t.boot.fuses.svnC ∧
    (∀ j, s.boot.fuses.revoked.testBit j = true → t.boot.fuses.revoked.testBit j = true) ∧
    ((t.boot.fuses.svnS ≠ s.boot.fuses.svnS ∨ t.boot.fuses.svnC ≠ s.boot.fuses.svnC ∨
        t.boot.fuses.revoked ≠ s.boot.fuses.revoked) →
      (∃ r a, c = .commitSvn r a ∨ c = .revokeKey r a) ∨
      ∃ r addr size v, c = .registerWrite r addr size v ∧ pageAt s.chip.grade addr.toNat = some (imageP, 0x010) ∧
        (v.toNat % 0x100000000 / 0x1000000 = 0x15 ∨ v.toNat % 0x100000000 / 0x1000000 = 0x16))

/-- The state after reset is sound, its memory canonical, its queue empty and the Metronome 0. -/
def Obligations.ResetIsSound : Prop :=
  State.reset.dynSound ∧ Memory.wf State.reset.mem ∧ State.reset.pending = [] ∧ State.reset.mtn = 0

/-- At power-on reset every page is OFF but TEMPO, PROCTOR, HALLMON and DYNAMICS; nothing is Excused; every block register reads
its reset value. What the spec gives no reset value for holds the model's (log entries 1 to 3). -/
def Obligations.ResetLeavesPagesOffAndRegistersAtReset : Prop :=
  (∀ p : PageRef, p.inst < 0x1000 → p.ty ≠ .tempo → p.ty ≠ .proctor → p.ty ≠ .hallmon → p.ty ≠ .dynamics →
    State.reset.pageState p = .off) ∧
  State.reset.pageState tempoP = .idle ∧ State.reset.pageState procP = .armed ∧ State.reset.pageState hallP = .running ∧
  State.reset.pageState dynP = .running ∧ State.reset.excused = 0 ∧
  ∀ p off, State.reset.reg p off = regReset State.reset.chip p off

/-! ## TEMPO and Scores (chapter 2) -/

/-- SET_TEMPO within Table 2-1 is accepted and waits with the staged values; SET_TEMPO_CHECK_DONE ends its checks, which pass or
refuse it with their syndrome; STEP_MTN adds its offset to the Metronome, which never decreases. Nothing else changes. A write
to TEMPO_SLEW stores the value saturated at ±200,000 ppb, counts in PAGE_SEQ and leaves everything else. The effect of a
negative step and the checks of disabled FSYNC outputs are log entries 46 and 48. -/
def Obligations.TempoCommandsTakeEffect : Prop :=
  (∀ (r : Requester) (arg : BitVec 24) (s : State), s.commands r tempoP = true → s.ticking = true →
    tempoInRange (s.regN tempoP 0x040) (s.regF tempoP 0x044 7 0) (s.regF tempoP 0x048 8 0) = true →
    (s.regN tempoP 0x040 = s.tPulse ∨ s.anyTorque = false) →
    Completes (.setTempo r arg) s fun t => t.resultCode tempoP = 1 ∧ (t.page tempoP).pending.isSome = true ∧
      Beside [tempoP] [] { s with tempo := { s.tempo with change := (some
        ⟨s.regN tempoP 0x040, s.regF tempoP 0x044 7 0, s.regF tempoP 0x048 8 0, now s, false⟩ : Option TempoChange) } } t) ∧
  (∀ (r : Requester) (arg : BitVec 24) (s : State), s.commands r tempoP = true → s.pageState tempoP = .idle →
    0 ≤ sext 64 (s.reg64 tempoP 0x084) →
    Completes (.stepMtn r arg) s fun t => t.resultCode tempoP = 2 ∧
      Beside [tempoP] [] { s with mtn := s.mtn + BitVec.ofNat 64 (s.reg64 tempoP 0x084) } t) ∧
  (∀ (r : Requester) (arg : BitVec 24) (s : State), s.commands r tempoP = true → s.pageState tempoP = .idle →
    sext 64 (s.reg64 tempoP 0x084) < 0 →
    Completes (.stepMtn r arg) s fun t => t.resultCode tempoP = 2 ∧ Beside [tempoP] [] s t) ∧
  (∀ (c : TempoChange) (s : State), s.tempo.change = some c → c.checked = false → s.changeFails c = none →
    Completes .setTempoCheckDone s fun t => Quiet { s with tempo := { s.tempo with change := some { c with checked := true } } } t) ∧
  (∀ (c : TempoChange) (d : PendCmd) (code detail : Nat) (s : State), s.tempo.change = some c → c.checked = false →
    s.changeFails c = some (code, detail) → (s.page tempoP).pending = some d →
    Completes .setTempoCheckDone s fun t => t.resultCode tempoP = 5 ∧ (t.page tempoP).pending = none ∧
      (t.page tempoP).syndrome = detail % 256 * 0x10000 + code % 0x10000 ∧ (t.page tempoP).pend.getLsbD 1 = true ∧
      Beside [tempoP] [] { s with tempo := { s.tempo with change := none } } t) ∧
  (∀ (r : Requester) (v : Word) (s : State), s.writes r tempoP 0x07C = true →
    Completes (.tempoSlewWrite r v) s fun t =>
      t.reg tempoP 0x07C = word (wrapBits 32 (clampInt (-200000) 200000 (sext 32 v.toNat))) ∧
      (t.page tempoP).writes = (s.page tempoP).writes + 1 ∧ Beside [tempoP] [regKey tempoP 0x07C] s t)

/-- At E ticks start with Pulse 0, the TEMPO page goes to RUNNING and its request to the Proctor ends; after a wake from TACET
they go on at the first Bar of the old grid at least 100 µs after it. A Pulse boundary moves the Metronome to its instant and
the count of Pulses on by one, shows its place in the Bar, publishes the sensor samples that wait, and every Loop Engine has
latched its limit word; STOP of the TEMPO page ends with it where no axis has torque. A Beat boundary (R44, R45) signals its Cue
with its instant, gives every homeroom a fresh share of the engines, lets the Proctor judge what it was told, and lets a QUIESCE
take hold; a Bar boundary does the same, with its own Cue, and a checked change of the Tempo, pending Scores and re-admissions
take effect. Their Pulse is still to come. -/
def Obligations.BoundariesFall : Prop :=
  (∀ s : State, s.pageState tempoP = .armed → s.tempo.resumeAfter = none →
    Completes .tempoEpochReached s fun t => t.pageState tempoP = .running ∧ t.regF procP 0x0A0 3 2 = 0 ∧
      Beside [tempoP] [regKey procP 0x0A0] { advanceTo s.epoch s with
        tempo := { s.tempo with ticks := true, nextK := 0, beatDone := false, quiet := false, quietDue := false } } t) ∧
  (∀ (w j : Nat) (s : State), s.pageState tempoP = .armed → s.tempo.resumeAfter = some w → 0 < s.tBar → s.epoch ≤ w + 100000 →
    j = (w + 100000 - s.epoch + s.tBar - 1) / s.tBar →
    Completes .tempoEpochReached s fun t => t.pageState tempoP = .running ∧ t.regF procP 0x0A0 3 2 = 0 ∧
      t.reg tempoP 0x074 = word (s.regN tempoP 0x070 + j) ∧
      Beside [tempoP] [regKey procP 0x0A0, regKey tempoP 0x074] { advanceTo (s.epoch + j * s.tBar) s with
        tempo := { s.tempo with ticks := true, nextK := j * (s.nBeat * s.mBar), beatDone := false, resumeAfter := none,
                                quiet := false, quietDue := false } } t) ∧
  (∀ s : State, s.tickFalls = true → (s.onBeat && !s.tempo.beatDone) = false → s.tempo.stopping = false →
    Completes .pulseBoundary s fun t => t.mtn = (advanceTo (s.epoch + s.tempo.nextK * s.tPulse) s).mtn ∧
      t.tempo.nextK = s.tempo.nextK + 1 ∧ t.tempo.beatDone = false ∧ t.tempo.ticks = true ∧
      t.reg tempoP 0x074 = word (s.regN tempoP 0x070 + s.tempo.nextK / (s.nBeat * s.mBar)) ∧
      t.reg tempoP 0x078 = word (s.tempo.nextK / s.nBeat % s.mBar * 0x100 + s.tempo.nextK % s.nBeat) ∧
      (∀ n, n < s.chip.grade.axes → (t.axis n).recv = none) ∧ ∀ k, k < 8 → (t.jslPort k).ready = []) ∧
  (∀ (k : Fin 8) (a : Fin 4) (bs : List Byte) (stamp : Nat) (s : State), s.tickFalls = true → (s.onBeat && !s.tempo.beatDone) = false →
    (s.jslPort k.val).ready = [(a.val, bs, stamp)] →
    Completes .pulseBoundary s fun t => t.reg64 (jslP k.val) (0x098 + 32 * a.val) = stamp % 0x10000000000000000 ∧
      ∀ i, i < 4 → t.reg (jslP k.val) (0x080 + 32 * a.val + 4 * i) = wordAt bs (4 * i)) ∧
  (∀ s : State, s.tickFalls = true → (s.onBeat && !s.tempo.beatDone) = false → s.tempo.stopping = true →
    (∀ n, n < 16 → s.inState (loopP n) activeStates = false) →
    Completes .pulseBoundary s fun t => t.pageState tempoP = .idle ∧ t.tempo.ticks = false ∧ t.tempo.stopping = false) ∧
  (∀ (c : Instr) (s : State), s.tickFalls = true → s.tempo.beatDone = false →
    (c = .beatBoundary ∧ s.onBeat = true ∧ s.onBar = false) ∨ (c = .barBoundary ∧ s.onBar = true) → s.cueFaulted 1 = false →
    Completes c s fun t => t.mtn = (advanceTo (s.epoch + s.tempo.nextK * s.tPulse) s).mtn ∧ t.tempo.beatDone = true ∧
      t.reg tempoP 0x074 = word (s.regN tempoP 0x070 + s.tempo.nextK / (s.nBeat * s.mBar)) ∧
      t.reg tempoP 0x078 = word (s.tempo.nextK / s.nBeat % s.mBar * 0x100 + s.tempo.nextK % s.nBeat) ∧
      tabGet 0 t.cues.stamps 1 = BitVec.ofNat 64 (s.epoch + s.tempo.nextK * s.tPulse) ∧
      (c = .barBoundary → tabGet 0 t.cues.stamps 2 = BitVec.ofNat 64 (s.epoch + s.tempo.nextK * s.tPulse)) ∧
      (∀ h, h < 8 → (t.hr h).engineUsed = 0) ∧ t.tempo.quietDue = false ∧ t.boot.seatDue = false ∧
      (s.proctorOn = true → s.lvl.minimal = false → t.proc.events = [] ∧ t.proc.resetDue = false)) ∧
  (∀ (c : TempoChange) (s : State), s.tickFalls = true → s.tempo.beatDone = false → s.onBar = true → s.tempo.change = some c →
    c.checked = true → c.acceptedAt + 3 * s.tBeat ≤ now (advanceTo (s.epoch + s.tempo.nextK * s.tPulse) s) →
    (c.pulse = s.tPulse ∨ s.anyTorque = false) →
    Completes .barBoundary s fun t => t.tempo.change = none ∧ t.tempo.nextK = 0 ∧ t.tempo.beatDone = true ∧
      t.reg tempoP 0x050 = word c.pulse ∧ t.reg tempoP 0x054 = word c.beats ∧ t.reg tempoP 0x058 = word c.bars ∧
      t.epoch = now t ∧ t.reg tempoP 0x070 = word (s.regN tempoP 0x070 + s.tempo.nextK / (s.nBeat * s.mBar))) ∧
  (∀ (h : Fin 8) (s : State), s.tickFalls = true → s.tempo.beatDone = false → s.onBar = true →
    Completes .barBoundary s fun t => (t.hr h.val).pendingScore = none ∧ (t.hr h.val).replaced = none ∧
      (t.hr h.val).resumeAtBar = false ∧ (t.hr h.val).windowStart = now t ∧
      (∀ c, (s.hr h.val).pendingScore = some c → s.dyn.due = false →
        ∃ d, (t.hr h.val).score = some d ∧ d.offset = c.offset ∧ d.parts.length = c.parts.length))

/-- Loss of the reference clock puts the TEMPO page into FAULT, stops ticks, drops a pending change and, with the Proctor
active, latches STOP0 on every axis until power-on reset; a bad Beat interval while ticks run latches the same; a sync that
lasts out of messages goes from LOCKED to HOLDOVER. FSYNCn becomes active at its planned instant for its width, and inactive
again. That EN counts at every moment of a pulse is the model's reading (log entry 145). -/
def Obligations.ClocksFailAndFsyncFollows : Prop :=
  (∀ s : State,
    Completes .refClockLoss s fun t => t.pageState tempoP = .fault ∧ t.tempo.oscOk = false ∧ t.tempo.ticks = false ∧
      t.tempo.change = none ∧ (s.proctorOn = true → (⟨5, 0xFFFF, .por⟩ : Latch) ∈ t.proc.latches ∧ t.outBit 0 = false)) ∧
  (∀ s : State, s.ticking = true → s.proctorOn = true →
    Completes .beatTimingFault s fun t => (⟨5, 0xFFFF, .por⟩ : Latch) ∈ t.proc.latches ∧ t.outBit 0 = false ∧
      t.pageState tempoP = s.pageState tempoP ∧ t.tempo = s.tempo) ∧
  (∀ s : State, s.regF tempoP 0x080 1 0 = 2 →
    Completes .syncHoldoverTimeout s fun t => t.regF tempoP 0x080 1 0 = 3 ∧ t.reg tempoP 0x07C = s.reg tempoP 0x07C ∧
      Beside [tempoP] [regKey tempoP 0x080] { s with tempo := { s.tempo with syncGood := 0 } } t) ∧
  (∀ (n : Fin 12) (e : Nat × Nat) (s : State), (s.tempo.fsyncBar.find? fun x => decide (x.1 = n.val)) = some e → s.ticking = true →
    bit (s.reg tempoP (0x100 + 4 * n.val)) 0 = true →
    Completes (.fsyncAssert n) s fun t => t.fsyncLevel n.val = !bit (s.reg tempoP (0x100 + 4 * n.val)) 1 ∧
      Quiet { advanceTo e.2 s with tempo := { s.tempo with
        fsyncBar := dropFirst n.val s.tempo.fsyncBar
        fsync := (dropFirst n.val s.tempo.fsync ++ [(n.val, e.2 + 1000 * fld (s.reg tempoP (0x100 + 4 * n.val)) 31 24)]) } } t) ∧
  (∀ (n : Fin 12) (e : Nat × Nat) (s : State), s.tempo.fsync = [(n.val, e.2)] →
    Completes (.fsyncDeassert n) s fun t => t.fsyncLevel n.val = bit (s.reg tempoP (0x100 + 4 * n.val)) 1 ∧
      Quiet { advanceTo e.2 s with tempo := { s.tempo with fsync := [] } } t) ∧
  (∀ (n : Fin 12) (e : Nat × Nat) (s : State), (s.tempo.fsync.find? fun x => decide (x.1 = n.val)) = some e →
    Completes (.fsyncDeassert n) s fun t =>
      Quiet { advanceTo e.2 s with tempo := { s.tempo with fsync := dropFirst n.val s.tempo.fsync } } t)

/-- ADMIT starts the admission test of the Score at its argument; ADMIT_COMPLETE ends it with the Score pending or with the
reason and the Part of its refusal (R68); READMISSION_COMPLETE puts the new placement up for the Bar boundary (R243). A trigger
met early is served half a period after the former release if it is still met then, and only lapses otherwise (R61); a deadline
or a budget that runs out leaves the Part's late outcome with its record (R64, R71, section 2.7); an activation late under SKIP
stops one period after its deadline; a Part without a trigger for two periods leaves a record (R66). The readings of the
admission checks are those of log entries 44, 126 and 127, and the records of repeated and skipped releases those of log entry
146. -/
def Obligations.ScoresAreAdmittedAndTimed : Prop :=
  (∀ (r : Requester) (h : Fin 8) (arg : BitVec 24) (s : State), s.commands r (hrP h.val) = true →
    s.inState (hrP h.val) [.idle, .armed, .running, .hold] = true →
    Completes (.admitScore r h arg) s fun t => t.resultCode (hrP h.val) = 1 ∧ (t.page (hrP h.val)).pending.isSome = true ∧
      Beside [hrP h.val] [] (s.modHr h.val fun q => { q with admitting := some arg.toNat }) t) ∧
  (∀ (r : Requester) (h : Fin 8) (arg : BitVec 24) (s : State), s.commands r (hrP h.val) = true →
    s.inState (hrP h.val) [.off, .fault, .excused, .locked] = true →
    Completes (.admitScore r h arg) s fun t => t.resultCode (hrP h.val) = 3 ∧ Beside [hrP h.val] [] s t) ∧
  (∀ (h : Fin 8) (off : Nat) (c : PendCmd) (sc : Score) (s : State), (s.hr h.val).admitting = some off →
    (s.page (hrP h.val)).pending = some c → s.sram.errs = [] → s.sram.condemned = [] → s.admitScore h.val off = .ok sc →
    Completes (.admitComplete h) s fun t => t.resultCode (hrP h.val) = 2 ∧ (t.page (hrP h.val)).pending = none ∧
      (t.hr h.val).pendingScore = some sc ∧ (t.hr h.val).admitting = none ∧ (t.hr h.val).score = (s.hr h.val).score ∧
      (t.page (hrP h.val)).pend.getLsbD 0 = true ∧ t.mem = s.mem ∧ t.cues = s.cues ∧ ∀ k, k ≠ h.val → t.hr k = s.hr k) ∧
  (∀ (h : Fin 8) (off why i : Nat) (c : PendCmd) (s : State), (s.hr h.val).admitting = some off →
    (s.page (hrP h.val)).pending = some c → s.sram.errs = [] → s.sram.condemned = [] →
    s.admitScore h.val off = .error (why, i) →
    Completes (.admitComplete h) s fun t => t.resultCode (hrP h.val) = 5 ∧ (t.page (hrP h.val)).pending = none ∧
      (t.page (hrP h.val)).syndrome = (why % 256) * 0x10000 + i % 0x10000 ∧
      Beside [hrP h.val] [] (s.modHr h.val fun q => { q with admitting := none }) t) ∧
  (∀ (h : Fin 8) (c : Score) (s : State), s.score h.val = some c → (s.hr h.val).readmit = true →
    Completes (.readmissionComplete h) s fun t => (t.hr h.val).readmit = false ∧
      (∃ g, (t.hr h.val).replaced = some g ∧ g.length = c.parts.length) ∧ t.score h.val = some c ∧
      Quiet { s with hrs := t.hrs } t ∧ ∀ k, k ≠ h.val → t.hr k = s.hr k) ∧
  (∀ (h : Fin 8) (s : State), s.score h.val = none → (s.hr h.val).readmit = true →
    Completes (.readmissionComplete h) s fun t => (t.hr h.val).readmit = false ∧ (t.hr h.val).replaced = some [] ∧
      t.score h.val = none ∧ Quiet { s with hrs := t.hrs } t ∧ ∀ k, k ≠ h.val → t.hr k = s.hr k) ∧
  (∀ (h : Fin 8) (i u : Nat) (p : Part) (s : State), s.part? h.val i = some p → p.held = true → p.lastRelease = some u →
    (p.trigEn = false ∨ p.withdrawn = true ∨ s.releasing h.val = false ∨ s.cueCount h.val p.trigCue < p.trigCount) →
    Completes (.triggerHoldExpiry h i) s fun t => t.part? h.val i = some { p with held := false } ∧
      t.mtn = (advanceTo (u + (s.period p + 1) / 2) s).mtn ∧ t.cues = s.cues ∧ t.tiles = s.tiles ∧
      Beside [] [] { s with mtn := t.mtn, hrs := t.hrs } t ∧ ∀ k, k ≠ h.val → t.hr k = s.hr k) ∧
  (∀ (h : Fin 8) (i u : Nat) (p : Part) (s : State), i < oldBase → s.part? h.val i = some p → p.held = true →
    p.lastRelease = some u → p.trigEn = true → p.withdrawn = false → s.releasing h.val = true →
    p.trigCount ≤ s.cueCount h.val p.trigCue → p.skipNext = false → p.unfit = false → p.throttled = false →
    s.groupLost p = false → (s.proc.react ≠ 2 ∨ p.tiles = 0) → u + (s.period p + 1) / 2 < 2 ^ 64 →
    Completes (.triggerHoldExpiry h i) s fun t => t.mtn = (advanceTo (u + (s.period p + 1) / 2) s).mtn ∧
      t.cueCount h.val p.trigCue = s.cueCount h.val p.trigCue - p.trigCount ∧
      t.part? h.val i = some { p with
        act := (some { release := now t, deadline := now t + s.relDeadline p, skipping := false, stopping := false, onTiles := false,
                       saved := none, ended := [], number := (s.hr h.val).activations + 1, faultAt := none } : Option Activation)
        lastRelease := some (now t), idleSince := now t
        held := decide (p.trigCount ≤ s.cueCount h.val p.trigCue - p.trigCount ∧ 0 < s.period p) } ∧
      Beside [] [] { s with mtn := t.mtn, hrs := t.hrs, cues := t.cues, tiles := t.tiles } t ∧
      ∀ k, (t.tile k).act = (s.tile k).act) ∧
  (∀ (d : Instr) (h : Fin 8) (i cause tm : Nat) (x : Dword) (p : Part) (c : Score) (a : Activation) (s : State),
    s.liveAct h.val i = some a → s.part? h.val i = some p → s.scoreOf h.val i = some c → s.lateRoom h.val c → p.late ≠ 1 →
    (d = .deadlineExpiry h i ∧ tm = a.deadline ∧ cause = 1) ∨ (d = .budgetExpiry h i x ∧ tm = x.toNat ∧ cause = 2) →
    Completes d s fun t => LateRecorded h.val i c p p.late cause s t ∧ t.mtn = (advanceTo tm s).mtn ∧
      t.part? h.val i = some { p with
        act := (if (s.tilesOf h.val i).isEmpty then none else some { a with stopping := true } : Option Activation)
        withdrawn := p.withdrawn || decide (p.late = 3) } ∧
      t.cues = s.cues ∧ t.tiles = s.tiles ∧ ∀ k, k ≠ h.val → t.hr k = s.hr k) ∧
  (∀ (d : Instr) (h : Fin 8) (i cause tm : Nat) (x : Dword) (p : Part) (c : Score) (a : Activation) (s : State),
    s.liveAct h.val i = some a → s.part? h.val i = some p → s.scoreOf h.val i = some c → s.lateRoom h.val c → p.late = 1 →
    (d = .deadlineExpiry h i ∧ tm = a.deadline ∧ cause = 1) ∨ (d = .budgetExpiry h i x ∧ tm = x.toNat ∧ cause = 2) →
    Completes d s fun t => LateRecorded h.val i c p 1 cause s t ∧ t.mtn = (advanceTo tm s).mtn ∧
      t.part? h.val i = some { p with skipNext := true, act := some { a with skipping := true } } ∧
      t.cues = s.cues ∧ t.tiles = s.tiles ∧ ∀ k, k ≠ h.val → t.hr k = s.hr k) ∧
  (∀ (h : Fin 8) (i : Nat) (p : Part) (c : Score) (a : Activation) (s : State), s.part? h.val i = some p →
    s.scoreOf h.val i = some c → s.lateRoom h.val c → p.act = some a → a.skipping = true → a.stopping = false →
    Completes (.skipDeadlineExpiry h i) s fun t => LateRecorded h.val i c p 4 1 s t ∧
      t.mtn = (advanceTo (a.deadline + s.period p) s).mtn ∧
      t.part? h.val i = some { p with
        act := (if (s.tilesOf h.val i).isEmpty then none else some { a with stopping := true } : Option Activation) } ∧
      t.cues = s.cues ∧ t.tiles = s.tiles ∧ ∀ k, k ≠ h.val → t.hr k = s.hr k) ∧
  (∀ (h : Fin 8) (i : Nat) (p : Part) (c : Score) (s : State), s.part? h.val i = some p → s.scoreOf h.val i = some c →
    s.lateRoom h.val c → p.trigEn = true → s.releasing h.val = true → p.withdrawn = false →
    Completes (.noTriggerExpiry h i) s fun t => LateRecorded h.val i c p 5 4 s t ∧
      t.mtn = (advanceTo (p.idleSince + 2 * s.period p) s).mtn ∧
      t.part? h.val i = some { p with idleSince := p.idleSince + 2 * s.period p } ∧
      t.cues = s.cues ∧ t.tiles = s.tiles ∧ ∀ k, k ≠ h.val → t.hr k = s.hr k)

/-! ## Pages (chapter 3) -/

/-- A read by the owner or HR0 brings the word the page shows, and clears the RC fields it reads and nothing else (R16);
PAGE_ERR shows refusals and syndrome to any homeroom and clears; a word latched for the requester is returned once (R51). A
homeroom that neither owns a page nor is HR0 reads 0 in its block registers, and leaves a violation record of the read (Table
3-1; the record is the model's reading of Table 4-2, log entry 148). That a read of a foreign block leaves a record is the
model's reading (log entry 148). -/
def Obligations.PageReadsAnswer : Prop :=
  (∀ (c : Instr) (r : Requester) (p : PageRef) (off h : Nat) (addr : Word) (d : RegDef) (s : State),
    c = .latchingRead r ⟨addr, 4⟩ ∨ c = .rcRegisterRead r ⟨addr, 4⟩ → addr.toNat % 4 = 0 → 0x10000 ≤ addr.toNat →
    pageAt s.chip.grade addr.toNat = some (p, off) → s.requesterHr r = some h → (h = (s.page p).owner ∨ h = 0) →
    s.inState p [.off, .excused] = false → 0x040 ≤ off → regFind p.ty off = some d → latchCompanion p.ty off = none →
    copyOp p off = none → (p.ty = .cue → off < 0xC00) → (p.ty = .dynamics → off < 0x060) →
    (∀ e ∈ s.tempo.latched, ¬ (e.1 = latchCode r ∧ e.2.1 = regKey p off)) →
    Completes c s fun t => t.out.readData = leBytes 4 ((s.hostWake r).readPage h p off).toNat ∧ t.out.readPoison = false ∧
      t.reg p off = s.reg p off &&& ~~~(word d.rc) ∧ Beside [] [regKey p off] { s with out := t.out } t) ∧
  (∀ (c : Instr) (r : Requester) (p : PageRef) (h : Nat) (addr : Word) (s : State),
    c = .latchingRead r ⟨addr, 4⟩ ∨ c = .rcRegisterRead r ⟨addr, 4⟩ → addr.toNat % 4 = 0 → 0x10000 ≤ addr.toNat →
    pageAt s.chip.grade addr.toNat = some (p, 0x01C) → s.requesterHr r = some h →
    (∀ e ∈ s.tempo.latched, ¬ (e.1 = latchCode r ∧ e.2.1 = regKey p 0x01C)) →
    Completes c s fun t => t.out.readData = leBytes 4 (word ((s.page p).refusals * 0x1000000 + (s.page p).syndrome)).toNat ∧
      (t.page p).refusals = 0 ∧ (t.page p).syndrome = 0 ∧ t.pageState p = s.pageState p ∧
      (t.page p).result = (s.page p).result ∧ Beside [p] [] { s with out := t.out } t) ∧
  (∀ (r : Requester) (p : PageRef) (off h v : Nat) (addr : Word) (w : Word) (s : State), addr.toNat % 4 = 0 →
    0x10000 ≤ addr.toNat → pageAt s.chip.grade addr.toNat = some (p, off) → s.requesterHr r = some h → p.ty ≠ .dynamics →
    s.tempo.latched = [(latchCode r, regKey p off, w)] → v = w.toNat →
    Completes (.latchingRead r ⟨addr, 4⟩) s fun t => t.out.readData = leBytes 4 v ∧
      Beside [] [] { s with out := t.out, tempo := { s.tempo with latched := [] } } t) ∧
  (∀ (r : Requester) (h : Nat) (s : State), s.requesterHr r = some h → (h = (s.page tempoP).owner ∨ h = 0) →
    s.inState tempoP [.off, .excused] = false → s.tempo.latched = [] →
    Completes (.latchingRead r ⟨0x100060, 4⟩) s fun t => t.out.readData = leBytes 4 (now s % 2 ^ 32) ∧
      Beside [] [] { s with out := t.out, tempo := { s.tempo with
        latched := [(latchCode r, regKey tempoP 0x064, word (now s / 2 ^ 32))] } } t) ∧
  (∀ (r : Requester) (p : PageRef) (off h : Nat) (addr : Word) (s : State), addr.toNat % 4 = 0 → 0x10000 ≤ addr.toNat →
    pageAt s.chip.grade addr.toNat = some (p, off) → s.requesterHr r = some h → 0x040 ≤ off → h ≠ (s.page p).owner → h ≠ 0 →
    p.ty ≠ .dynamics → latchCompanion p.ty off = none →
    (∀ e ∈ s.tempo.latched, ¬ (e.1 = latchCode r ∧ e.2.1 = regKey p off)) → s.underLimit h →
    Completes (.latchingRead r ⟨addr, 4⟩) s fun t => t.out.readData = [0, 0, 0, 0] ∧
      ViolationLeft h (0x14 + sourceCode r * 0x10000) (pageBase p + off / 0x1000 * 0x1000) (off % 0x1000) s t ∧
      Beside [hrP h] (recordKeys h) { s with out := t.out, hrs := t.hrs } t ∧ ∀ k, k ≠ h → t.hr k = s.hr k)

/-- Every homeroom reads the Roll Book; a write to it changes nothing but that a host's access may wake the device, and counts
nowhere. -/
def Obligations.RollBookIsOpenAndReadOnly : Prop :=
  (∀ (r : Requester) (h n : Nat) (addr : Word) (s : State), s.requesterHr r = some h → addr.toNat % 4 = 0 →
    addr.toNat + 4 * n ≤ 0x10000 →
    Completes (.latchingRead r ⟨addr, 4 * n⟩) s fun t =>
      t.out.readData = ((s.book.drop addr.toNat).take (4 * n) ++ List.replicate (4 * n - (s.book.drop addr.toNat).length) 0) ∧
      Quiet { s with out := t.out } t) ∧
  (∀ (r : Requester) (h : Nat) (addr : Word) (size : Nat) (v : Dword) (s : State), s.requesterHr r = some h →
    addr.toNat < 0x10000 →
    Completes (.registerWrite r addr size v) s fun t => Quiet s t)

/-- For a camera port that the grade does not contain, TEMPO_FSYNCn reads as 0, and a write to it has no effect. -/
def Obligations.AbsentFsyncPortsReadZero : Prop :=
  (∀ (r : Requester) (n : Nat) (addr : Word) (s : State), s.chip.grade.cameras ≤ n → n < 12 →
    addr.toNat = 0x100100 + 4 * n → s.requesterHr r = some (s.page tempoP).owner →
    (∀ e ∈ s.tempo.latched, ¬ (e.1 = latchCode r ∧ e.2.1 = regKey tempoP (0x100 + 4 * n))) →
    Completes (.latchingRead r ⟨addr, 4⟩) s fun t => t.out.readData = [0, 0, 0, 0] ∧
      Beside [] [regKey tempoP (0x100 + 4 * n)] { s with out := t.out } t) ∧
  (∀ (r : Requester) (n : Nat) (addr : Word) (v : Dword) (s : State), s.chip.grade.cameras ≤ n → n < 12 →
    addr.toNat = 0x100100 + 4 * n → s.requesterHr r = some (s.page tempoP).owner →
    Completes (.registerWrite r addr 4 v) s fun t => t.reg tempoP (0x100 + 4 * n) = s.reg tempoP (0x100 + 4 * n) ∧
      (t.page tempoP).writes = (s.page tempoP).writes ∧ Beside [tempoP] [] s t)

/-- A write to a plain register takes the writable bits of the value, keeps the others, counts in PAGE_SEQ and touches nothing
else (R15); a write of another size or alignment only counts as a refusal on its page (R78). Writing 1s to PAGE_IRQ_PEND clears
those bits; PAGE_IRQ_EN takes the value; both count in PAGE_SEQ (R87, R88). -/
def Obligations.RegisterWritesTakeEffect : Prop :=
  (∀ (r : Requester) (p : PageRef) (off : Nat) (v : Dword) (addr : Word) (d : RegDef) (s : State), addr.toNat % 4 = 0 →
    0x10000 ≤ addr.toNat → pageAt s.chip.grade addr.toNat = some (p, off) → s.writes r p off = true →
    p.ty ∈ [PageType.homeroom, .sect, .locker, .camera, .pfe, .kv, .pstage, .jsl, .proctor, .rubric, .hallmon, .image, .identity,
      .pcie, .compositor] → 0x040 ≤ off → regFind p.ty off = some d → d.rw ≠ 0 → d.w1c = 0 → regAbsent s.chip.grade p off = false →
    adjustWrite p off (v.setWidth 32) = v.setWidth 32 →
    Completes (.registerWrite r addr 4 v) s fun t =>
      t.reg p off = ((s.reg p off &&& ~~~(word d.rw)) ||| (v.setWidth 32 &&& word d.rw)) ∧
      (t.page p).writes = (s.page p).writes + 1 ∧ t.pageState p = s.pageState p ∧ Beside [p] [regKey p off] s t) ∧
  (∀ (r : Requester) (addr : Word) (size h off : Nat) (p : PageRef) (v : Dword) (s : State), s.requesterHr r = some h →
    pageAt s.chip.grade addr.toNat = some (p, off) → ¬ (size = 4 ∧ addr.toNat % 4 = 0) → ¬ (size = 8 ∧ addr.toNat % 8 = 0) →
    Completes (.registerWrite r addr size v) s fun t =>
      (t.page p).refusals = satInc 0xFF (s.page p).refusals ∧ t.pageState p = s.pageState p ∧ Beside [p] [] s t) ∧
  (∀ (r : Requester) (h : Fin 8) (v : Word) (s : State), s.writes r (hrP h.val) 0x04C = true →
    Completes (.wakeTolWrite r h v) s fun t => t.reg (hrP h.val) 0x04C = v &&& 0xFFFFFF ∧
      (t.page (hrP h.val)).writes = (s.page (hrP h.val)).writes + 1 ∧ Beside [hrP h.val] [regKey (hrP h.val) 0x04C] s t) ∧
  (∀ (r : Requester) (p : PageRef) (v : Word) (s : State), present s.chip.grade p = true → s.requesterHr r = some (s.page p).owner →
    Completes (.irqPendWrite r p v) s fun t => (t.page p).pend = (s.page p).pend &&& ~~~v ∧ (t.page p).en = (s.page p).en ∧
      (t.page p).writes = (s.page p).writes + 1 ∧ t.pageState p = s.pageState p ∧ Beside [p] [] s t) ∧
  (∀ (r : Requester) (p : PageRef) (v : Word) (s : State), present s.chip.grade p = true → s.requesterHr r = some (s.page p).owner →
    Completes (.irqEnWrite r p v) s fun t => (t.page p).en = v ∧ (t.page p).pend = (s.page p).pend ∧
      (t.page p).writes = (s.page p).writes + 1 ∧ t.pageState p = s.pageState p ∧ Beside [p] [] s t)

/-- The universal commands move a page as Table 3-3 says, on the page types whose transition needs nothing more than it names; a
PSTAGE page is armed, and a DMA channel started, only with a configuration that its rules take. NOP has no effect but its
result; an unknown code is refused with UNKNOWN and its syndrome; an argument that must be 0 and is not is refused. Each takes
one SEQ. ENABLE with a live CRC that differs from PAGE_CFG_CRC is refused with CRC_AT_ENABLE and leaves everything else (R104).
That a block command refuses an argument its rule gives as 0 is the model's reading (log entry 123). -/
def Obligations.UniversalCommandsAct : Prop :=
  (∀ (r : Requester) (p : PageRef) (s : State), s.commands r p = true →
    p.ty ∈ [PageType.pfe, .angle, .jsl, .eth, .can, .compositor] → s.inState p [.idle, .fault] = true →
    Completes (.resetPage r p ⟨0, true⟩) s fun t => t.resultCode p = 2 ∧ t.pageState p = .idle ∧ Beside [p] [] s t) ∧
  (∀ (r : Requester) (p : PageRef) (s : State), s.commands r p = true →
    p.ty ∈ [PageType.pfe, .angle, .jsl, .eth, .can, .compositor] →
    Completes (.resetPage r p ⟨0, false⟩) s fun t => t.resultCode p = 3 ∧ t.pageState p = s.pageState p ∧
      (t.page p).refusals = satInc 0xFF (s.page p).refusals ∧ Beside [p] [] s t) ∧
  (∀ (r : Requester) (p : PageRef) (s : State), s.commands r p = true → p.ty ∈ [PageType.pfe, .jsl, .eth, .can, .compositor] →
    s.inState p [.armed, .hold] = true →
    Completes (.disable r p 0) s fun t => t.resultCode p = 2 ∧ t.pageState p = .idle ∧ Beside [p] [] s t) ∧
  (∀ (r : Requester) (p : PageRef) (s : State), s.takes r p 0x0E = true → p.ty ∈ [PageType.codec, .weight, .can] →
    Completes (.quiesce r p 0) s fun t => t.resultCode p = 2 ∧
      t.pageState p = (if s.pageState p = .running then .hold else s.pageState p) ∧ Beside [p] [] s t) ∧
  (∀ (r : Requester) (p : PageRef) (s : State), s.takes r p 0x0F = true →
    p.ty ∈ [PageType.sect, .locker, .adc, .hallmon, .dynamics, .pcie] →
    Completes (.stop r p 0) s fun t => t.resultCode p = 2 ∧ t.pageState p = s.pageState p ∧ Beside [p] [] s t) ∧
  (∀ (r : Requester) (p : PageRef) (s : State), s.commands r p = true → p.ty ∈ [PageType.dma, .dpp, .codec, .eth, .can] →
    s.pageState p = .hold →
    Completes (.enable r p 0) s fun t => t.resultCode p = 2 ∧ t.pageState p = .running ∧ Beside [p] [] s t) ∧
  (∀ (r : Requester) (p : PageRef) (s : State), s.commands r p = true → p.ty ∈ [PageType.camera, .weight, .jsl, .loop] →
    s.pageState p = .hold → s.crcMatches p = true →
    Completes (.enable r p 0) s fun t => t.resultCode p = 2 ∧ t.pageState p = .running ∧
      Beside [p] [] { s with loops := t.loops } t) ∧
  (∀ (r : Requester) (c : Fin 8) (s : State), s.commands r (dmaP c.val) = true → s.pageState (dmaP c.val) = .idle →
    4 ≤ s.regF (dmaP c.val) 0x040 27 24 → s.regF (dmaP c.val) 0x040 27 24 ≤ 12 →
    s.inGrant (s.page (dmaP c.val)).owner (64 * s.regF (dmaP c.val) 0x040 23 0) (32 * 2 ^ s.regF (dmaP c.val) 0x040 27 24) = true →
    Completes (.enable r (dmaP c.val) 0) s fun t => t.resultCode (dmaP c.val) = 2 ∧ t.pageState (dmaP c.val) = .running ∧
      Beside [dmaP c.val] [] s t) ∧
  (∀ (r : Requester) (n : Fin 16) (s : State), s.commands r (pstageP n.val) = true → s.pageState (pstageP n.val) = .idle →
    s.pstageCfgOk n.val = true → s.pstageTimingOk n.val = true → s.crcMatches (pstageP n.val) = true →
    s.calib 0 = none → s.calib 1 = none →
    Completes (.enable r (pstageP n.val) 0) s fun t => t.resultCode (pstageP n.val) = 2 ∧ t.pageState (pstageP n.val) = .armed ∧
      Beside [pstageP n.val] [] s t) ∧
  (∀ (r : Requester) (p : PageRef) (s : State), s.takes r p 0 = true →
    Completes (.nop r p 0) s fun t => t.resultCode p = 2 ∧ (t.page p).count = (s.page p).count + 1 ∧
      t.pageState p = s.pageState p ∧ (t.page p).refusals = (s.page p).refusals ∧ Beside [p] [] s t) ∧
  (∀ (r : Requester) (p : PageRef) (code : BitVec 8) (arg : BitVec 24) (s : State), s.commands r p = true →
    (Instr.unknownCommand r p code arg).wellFormed = true →
    Completes (.unknownCommand r p code arg) s fun t => t.resultCode p = 7 ∧ (t.page p).syndrome = 0xFF0003 ∧
      (t.page p).count = (s.page p).count + 1 ∧ (t.page p).refusals = satInc 0xFF (s.page p).refusals ∧
      t.pageState p = s.pageState p ∧ Beside [p] [] s t) ∧
  (∀ (c : Instr) (r : Requester) (p : PageRef) (arg : BitVec 24) (s : State), s.commands r p = true → arg ≠ 0 →
    c = .nop r p arg ∨ c = .resetPage r p ⟨arg, true⟩ ∨ c = .resetPage r p ⟨arg, false⟩ ∨ c = .enable r p arg ∨ c = .disable r p arg ∨
      c = .quiesce r p arg ∨ c = .stop r p arg →
    Completes c s fun t => t.resultCode p = 5 ∧ (t.page p).syndrome = 0xFF0004 ∧
      (t.page p).count = (s.page p).count + 1 ∧ (t.page p).refusals = satInc 0xFF (s.page p).refusals ∧
      t.pageState p = s.pageState p ∧ Beside [p] [] s t) ∧
  (∀ (c : Instr) (r : Requester) (p : PageRef) (arg : BitVec 24) (k : Fin 8) (n : Fin 16) (s : State), s.commands r p = true →
    arg ≠ 0 →
    (p = imageP ∧ (c = .deviceReset r arg ∨ c = .commitSvn r arg ∨ c = .flashErase r arg ∨ c = .flashWrite r arg ∨
        c = .confirm r arg)) ∨
      (p = identP ∧ (c = .quote r arg ∨ c = .seatAccept r arg ∨ c = .fleetEnrol r arg)) ∨ (p = dynP ∧ c = .wakeCmd r arg) ∨
      (p = pcieP 0 ∧ c = .retrain r 0 arg) ∨ (p = weightP k.val ∧ (c = .buildBegin r k arg ∨ c = .segue r k arg)) ∨
      (p = pstageP n.val ∧ c = .testPath r n arg) ∨ (p = jslP k.val ∧ c = .acyc r k arg) →
    Completes c s fun t => t.resultCode p = 5 ∧ (t.page p).syndrome = (s.page p).syndrome ∧
      (t.page p).count = (s.page p).count + 1 ∧ (t.page p).refusals = satInc 0xFF (s.page p).refusals ∧
      t.pageState p = s.pageState p ∧ Beside [p] [] s t) ∧
  (∀ (r : Requester) (p : PageRef) (s : State), s.commands r p = true → p.ty ∈ [PageType.camera, .weight, .jsl, .loop] →
    s.pageState p = .hold → s.crcMatches p = false →
    Completes (.enable r p 0) s fun t => t.resultCode p = 5 ∧ (t.page p).syndrome = 0xFF0001 ∧
      (t.page p).refusals = satInc 0xFF (s.page p).refusals ∧ t.pageState p = .hold ∧ Beside [p] [] s t)

/-- COMMAND_COMPLETION ends the command that waits: TEST_PATH with its outcome, a homeroom's QUIESCE once its activations are
over. -/
def Obligations.AcceptedCommandsComplete : Prop :=
  (∀ (n : Fin 16) (c : PendCmd) (d : Word) (s : State), (s.page (pstageP n.val)).pending = some c → c.code = 0x10 →
    d.toNat % 0x800 &&& 0x73F = 0 →
    Completes (.commandCompletion (pstageP n.val) d) s fun t => t.resultCode (pstageP n.val) = 2 ∧
      (t.page (pstageP n.val)).pending = none ∧ (t.page (pstageP n.val)).pend.getLsbD 3 = true ∧
      t.pageState (pstageP n.val) = s.pageState (pstageP n.val) ∧ Beside [pstageP n.val] [] { s with notes := t.notes } t) ∧
  (∀ (n : Fin 16) (c : PendCmd) (d : Word) (s : State), (s.page (pstageP n.val)).pending = some c → c.code = 0x10 →
    d.toNat % 0x800 &&& 0x73F ≠ 0 →
    Completes (.commandCompletion (pstageP n.val) d) s fun t => t.resultCode (pstageP n.val) = 5 ∧
      (t.page (pstageP n.val)).pending = none ∧ (t.page (pstageP n.val)).pend.getLsbD 3 = true ∧
      (t.page (pstageP n.val)).syndrome = 0x80000 + (d.toNat % 0x800 &&& 0x73F) ∧
      t.pageState (pstageP n.val) = s.pageState (pstageP n.val) ∧ Beside [pstageP n.val] [] { s with notes := t.notes } t) ∧
  (∀ (h : Fin 8) (c : PendCmd) (d : Word) (s : State), s.pageState (hrP h.val) = .running →
    (s.page (hrP h.val)).quiesces = [c] → (s.hr h.val).holdDue = false → s.hrBusy h.val = false →
    Completes (.commandCompletion (hrP h.val) d) s fun t => t.pageState (hrP h.val) = .hold ∧ t.resultCode (hrP h.val) = 2 ∧
      (t.page (hrP h.val)).quiesces = [] ∧ (t.hr h.val).noRelease = false ∧ Beside [hrP h.val] [] { s with hrs := t.hrs } t ∧
      ∀ k, k ≠ h.val → t.hr k = s.hr k)

/-- A command of a requester that may not command the page has no effect on the page's state, its result or its command count;
it counts as a refusal and leaves a violation record with REFUSED_OWNER; short of the limit of the window the homeroom goes on
(R81). -/
def Obligations.ForeignCommandsAreRefused : Prop :=
  ∀ (c : Instr) (code : Nat) (r : Requester) (p : PageRef) (h : Nat) (s : State), s.requesterHr r = some h →
    present s.chip.grade p = true → h ≠ (s.page p).owner → s.underLimit h →
    (c = .resetPage r p ⟨0, true⟩ ∧ code = 1) ∨ (c = .resetPage r p ⟨0, false⟩ ∧ code = 1) ∨ (c = .enable r p 0 ∧ code = 2) ∨
      (c = .disable r p 0 ∧ code = 3) ∨ (h ≠ 0 ∧ ((c = .nop r p 0 ∧ code = 0) ∨ (c = .quiesce r p 0 ∧ code = 0x0E) ∨
        (c = .stop r p 0 ∧ code = 0x0F))) →
    Completes c s fun t => t.pageState p = s.pageState p ∧ (t.page p).result = (s.page p).result ∧
      (t.page p).count = (s.page p).count ∧ (t.page p).refusals = satInc 0xFF (s.page p).refusals ∧
      ViolationLeft h (0x14 + code * 0x100 + sourceCode r * 0x10000) (pageBase p) 0x010 s t ∧
      Beside [p, hrP h] (recordKeys h) { s with hrs := t.hrs, notes := t.notes } t ∧ ∀ k, k ≠ h → t.hr k = s.hr k

/-! ## Homerooms and Cues (chapter 4) -/

/-- CONFIGURE where its checks pass: the target takes the staged tiles, share, stream ID, granules, listened Cues and limits,
owns its page, its Score is gone, and HR0 keeps no tile it took; a check that fails is answered with its code, and nothing of
the allocation moves (R133, R135). -/
def Obligations.ConfigureSetsTheTarget : Prop :=
  (∀ (r : Requester) (arg : BitVec 24) (k : Nat) (s : State), s.commands r (hrP 0) = true → s.pageState (hrP 0) = .running →
    k = arg.toNat % 8 → s.configureFails k = none →
    Completes (.configure r arg) s fun t => t.resultCode (hrP 0) = 2 ∧ t.reg (hrP k) 0x040 = s.reg (hrP 0) 0x100 ∧
      t.reg (hrP k) 0x044 = s.reg (hrP 0) 0x104 ∧ t.reg (hrP k) 0x048 = s.reg (hrP 0) 0x108 ∧
      t.reg (hrP k) 0x09C = s.reg (hrP 0) 0x10C ∧ t.regF (hrP k) 0x0C8 31 16 = s.regF (hrP 0) 0x110 15 0 ∧
      (∀ i, i < 8 → t.reg (hrP k) (0x050 + 4 * i) = s.reg (hrP 0) (0x120 + 4 * i)) ∧
      (∀ i, i < 8 → t.reg (hrP k) (0x070 + 4 * i) = s.reg (hrP 0) (0x140 + 4 * i)) ∧
      (t.page (hrP k)).owner = k ∧ (t.hr k).score = none ∧ (t.hr k).pendingScore = none ∧
      (∀ u, u < 32 → (s.reg (hrP 0) 0x100).getLsbD u = true → (t.reg (hrP 0) 0x040).getLsbD u = false ∧
        ((s.reg (hrP k) 0x040).getLsbD u = false → (t.page (tileP u)).owner = k)) ∧
      t.mem = s.mem ∧ t.tiles = s.tiles ∧ ∀ j, j ≠ k → t.hr j = s.hr j) ∧
  (∀ (r : Requester) (arg : BitVec 24) (c : Nat) (s : State), s.commands r (hrP 0) = true → s.pageState (hrP 0) = .running →
    s.configureFails (arg.toNat % 8) = some c →
    Completes (.configure r arg) s fun t => t.resultCode (hrP 0) = 5 ∧
      (t.page (hrP 0)).syndrome = c % 256 * 0x10000 + arg.toNat % 8 ∧ (t.page (hrP 0)).owner = (s.page (hrP 0)).owner ∧
      Beside [hrP 0] [] s t)

/-- GRANT_PAGE moves every page of the group to the homeroom it names, REVOKE_PAGE back to HR0; a check of Table 4-9 that fails
is answered with its code and moves nothing (R130, R131). RELEASE of a homeroom in IDLE or FAULT is accepted; RELEASE_COMPLETE
gives its page, its tiles and its memory back to HR0, the memory reading as never written (R134); a violation window that ends
outside ticks starts again at a count of 0 (R126). That cleared memory reads 0 rests on log entry 2 for Commons and Locker; what
RELEASE_COMPLETE resets is the reading of log entry 147. -/
def Obligations.PagesAndHomeroomsChangeHands : Prop :=
  (∀ (r : Requester) (arg : BitVec 24) (p : PageRef) (s : State), s.commands r (hrP 0) = true → s.pageState (hrP 0) = .running →
    s.basePage (arg.toNat / 16 * 0x1000) = some p → s.moveFails p true = none → arg.toNat % 8 ≠ 0 →
    (s.page (hrP (arg.toNat % 8))).owner = arg.toNat % 8 →
    Completes (.grantPage r arg) s fun t => t.resultCode (hrP 0) = 2 ∧
      (∀ q ∈ grantGroup p, (t.page q).owner = arg.toNat % 8 ∧ (t.page q).lock = arg.toNat.testBit 3 ∧ t.pageState q = s.pageState q) ∧
      Beside (hrP 0 :: grantGroup p) [] s t) ∧
  (∀ (r : Requester) (arg : BitVec 24) (p : PageRef) (c : Nat) (s : State), s.commands r (hrP 0) = true →
    s.pageState (hrP 0) = .running → s.basePage (arg.toNat / 16 * 0x1000) = some p → s.moveFails p true = some c →
    Completes (.grantPage r arg) s fun t => t.resultCode (hrP 0) = 5 ∧
      (t.page (hrP 0)).syndrome = c % 256 * 0x10000 + arg.toNat / 16 % 0x10000 ∧ (t.page (hrP 0)).owner = (s.page (hrP 0)).owner ∧
      Beside [hrP 0] [] s t) ∧
  (∀ (r : Requester) (arg : BitVec 24) (p : PageRef) (s : State), s.commands r (hrP 0) = true → s.pageState (hrP 0) = .running →
    arg.toNat % 16 = 0 → s.basePage (arg.toNat / 16 * 0x1000) = some p → s.moveFails p false = none →
    Completes (.revokePage r arg) s fun t => t.resultCode (hrP 0) = 2 ∧
      (∀ q ∈ grantGroup p, (t.page q).owner = 0 ∧ t.pageState q = s.pageState q) ∧ Beside (hrP 0 :: grantGroup p) [] s t) ∧
  (∀ (r : Requester) (arg : BitVec 24) (s : State), s.commands r (hrP 0) = true → s.pageState (hrP 0) = .running → arg.toNat % 8 ≠ 0 →
    s.inState (hrP (arg.toNat % 8)) [.idle, .fault] = true →
    Completes (.release r arg) s fun t => t.resultCode (hrP 0) = 1 ∧
      (∃ c, (t.page (hrP 0)).pending = some c ∧ c.code = 0x23 ∧ c.arg = arg) ∧
      (t.page (hrP (arg.toNat % 8))).pending = none ∧ t.pageState (hrP (arg.toNat % 8)) = s.pageState (hrP (arg.toNat % 8)) ∧
      (∀ w ∈ t.cues.waiters, w.hr ≠ arg.toNat % 8)) ∧
  (∀ (r : Requester) (arg : BitVec 24) (s : State), s.commands r (hrP 0) = true → s.pageState (hrP 0) = .running →
    (arg.toNat % 8 = 0 ∨ s.inState (hrP (arg.toNat % 8)) [.idle, .fault] = false) →
    Completes (.release r arg) s fun t => t.resultCode (hrP 0) = 5 ∧
      (t.page (hrP 0)).syndrome = 0x200000 + arg.toNat % 8 ∧ Beside [hrP 0] [] s t) ∧
  (∀ (c : PendCmd) (k : Nat) (s : State), (s.page (hrP 0)).pending = some c → c.code = 0x23 → k = c.arg.toNat % 8 → k ≠ 0 →
    Completes .releaseComplete s fun t => t.resultCode (hrP 0) = 2 ∧ (t.page (hrP 0)).pending = none ∧
      t.pageState (hrP k) = .idle ∧ (t.page (hrP k)).owner = 0 ∧ (t.page (hrP k)).pending = none ∧ t.hr k = Hr.atReset ∧
      t.regN (hrP k) 0x040 = 0 ∧ (∀ j, j ≠ k → t.hr j = s.hr j) ∧
      (∀ u, u < 32 → (s.reg (hrP k) 0x040).getLsbD u = true → (t.page (tileP u)).owner = 0) ∧
      ∀ a g, levelAt s.chip.grade a = .commons g → t.readByte a = if s.commonsGranted k g then memReset else s.readByte a) ∧
  (∀ (h : Fin 8) (s : State), s.ticking = false →
    Completes (.violationWindowExpiry h) s fun t => (t.hr h.val).windowCount = 0 ∧
      (t.hr h.val).windowStart = (s.hr h.val).windowStart + 32000000 ∧ (t.hr h.val).score = (s.hr h.val).score ∧
      Quiet { s with mtn := (advanceTo ((s.hr h.val).windowStart + 32000000) s).mtn, hrs := t.hrs } t ∧
      ∀ k, k ≠ h.val → t.hr k = s.hr k)

/-- SIGNAL and SET of a COUNTER Cue without waiters, notify bit or triggers: the count grows, saturating, or takes the value,
and no other count changes (R139). TEST brings a Cue's count; TAKE brings it and clears it where the Cue is a COUNTER with an
empty list, and brings 0 with no effect where it is a BARRIER (R139, Table 4-11). -/
def Obligations.CountersCount : Prop :=
  (∀ (r : Requester) (h : Nat) (cue : BitVec 16) (v : Word) (s : State), s.requesterHr r = some h → 256 ≤ cue.toNat →
    s.mayCue h cue.toNat 1 = true → s.cueFaulted cue.toNat = false → isBarrier (s.cueCfg cue.toNat) = false →
    cfgNotify (s.cueCfg cue.toNat) = false → s.cues.waiters = [] → s.noTriggers cue.toNat →
    s.cueCount 0 cue.toNat + v.toNat ≤ 0xFFFFFFFF →
    Completes (.cueSignal r cue v) s fun t => t.cueCount 0 cue.toNat = s.cueCount 0 cue.toNat + v.toNat ∧
      Quiet { s with cues := t.cues } t ∧ t.cues = { s.cues with counts := t.cues.counts } ∧
      ∀ h' c, c ≠ cue.toNat → t.cueCount h' c = s.cueCount h' c) ∧
  (∀ (r : Requester) (h : Nat) (cue : BitVec 16) (v : Word) (p : PageRef) (s : State), s.requesterHr r = some h → 256 ≤ cue.toNat →
    s.mayCue h cue.toNat 1 = true → s.cueFaulted cue.toNat = false → isBarrier (s.cueCfg cue.toNat) = false →
    cfgNotify (s.cueCfg cue.toNat) = false → s.cues.waiters = [] → s.noTriggers cue.toNat →
    0xFFFFFFFF < s.cueCount 0 cue.toNat + v.toNat → p = cueP (cue.toNat / 256) →
    Completes (.cueSignal r cue v) s fun t => t.cueCount 0 cue.toNat = 0xFFFFFFFF ∧ (t.page p).pend.getLsbD 2 = true ∧
      t.regF p 0x048 15 0 = min 0xFFFF (s.regF p 0x048 15 0 + 1) ∧ t.regN p 0x04C = 0x20000 + cue.toNat % 256 ∧
      Beside [p] [regKey p 0x048, regKey p 0x04C] { s with cues := t.cues } t ∧
      ∀ h' c, c ≠ cue.toNat → t.cueCount h' c = s.cueCount h' c) ∧
  (∀ (r : Requester) (h : Nat) (cue : BitVec 16) (v : Word) (s : State), s.requesterHr r = some h → 256 ≤ cue.toNat →
    s.mayCue h cue.toNat 5 = true → s.cueFaulted cue.toNat = false → isBarrier (s.cueCfg cue.toNat) = false →
    cfgNotify (s.cueCfg cue.toNat) = false → s.cues.waiters = [] → s.noTriggers cue.toNat →
    Completes (.cueSet r cue v) s fun t => t.cueCount 0 cue.toNat = v.toNat ∧ Quiet { s with cues := t.cues } t ∧
      t.cues = { s.cues with counts := t.cues.counts } ∧ ∀ h' c, c ≠ cue.toNat → t.cueCount h' c = s.cueCount h' c) ∧
  (∀ (r : Requester) (h : Nat) (cue : BitVec 16) (s : State), s.requesterHr r = some h → s.mayCue h cue.toNat 4 = true →
    s.cueFaulted cue.toNat = false →
    Completes (.cueTest r cue) s fun t => t.out.readData = leBytes 4 (s.cueCount h cue.toNat) ∧ Quiet { s with out := t.out } t) ∧
  (∀ (r : Requester) (h : Nat) (cue : BitVec 16) (s : State), s.requesterHr r = some h → s.mayCue h cue.toNat 6 = true →
    s.cueFaulted cue.toNat = false → (256 ≤ cue.toNat → isBarrier (s.cueCfg cue.toNat) = false) → s.cueList h cue.toNat = [] →
    Completes (.cueTake r cue) s fun t => t.out.readData = leBytes 4 (s.cueCount h cue.toNat) ∧ t.cueCount h cue.toNat = 0 ∧
      Quiet { s with out := t.out, cues := { s.cues with counts := t.cues.counts, copies := t.cues.copies } } t ∧
      ∀ h' c, c ≠ cue.toNat → t.cueCount h' c = s.cueCount h' c) ∧
  (∀ (r : Requester) (h : Nat) (cue : BitVec 16) (s : State), s.requesterHr r = some h → s.mayCue h cue.toNat 6 = true →
    s.cueFaulted cue.toNat = false → 256 ≤ cue.toNat → isBarrier (s.cueCfg cue.toNat) = true →
    Completes (.cueTake r cue) s fun t => t.out.readData = leBytes 4 0 ∧ Quiet { s with out := t.out } t)

/-- WAIT takes its n at once from a count that covers it and an empty list, and joins the list otherwise, or ends FULL at its
homeroom's quota; a Cue the homeroom may not wait for is denied with a violation record; ARRIVE at a BARRIER that is not
complete counts and waits; WAITER_TIMEOUT removes a waiter of a barrier, its status TIMEOUT (R139 to R145). -/
def Obligations.WaitersWaitAndGoOn : Prop :=
  (∀ (r : Requester) (h : Nat) (cue n : BitVec 16) (to' : BitVec 24) (s : State), s.requesterHr r = some h → (∀ u, r ≠ .tile u) →
    s.mayCue h cue.toNat 2 = true → s.cueFaulted cue.toNat = false → (256 ≤ cue.toNat → isBarrier (s.cueCfg cue.toNat) = false) →
    s.cueList h cue.toNat = [] → n.toNat ≤ s.cueCount h cue.toNat →
    Completes (.cueWait r cue n to') s fun t => t.cueCount h cue.toNat = s.cueCount h cue.toNat - n.toNat ∧
      (r, cue.toNat, WaitStatus.ok) ∈ t.cues.results ∧ t.cues.waiters = (s.cues.waiters.filter fun w => !(w.who == r)) ∧
      Quiet { s with cues := t.cues } t ∧ ∀ h' c, c ≠ cue.toNat → t.cueCount h' c = s.cueCount h' c) ∧
  (∀ (r : Requester) (h : Nat) (cue n : BitVec 16) (to' : BitVec 24) (s : State), s.requesterHr r = some h → (∀ u, r ≠ .tile u) →
    s.mayCue h cue.toNat 2 = true → s.cueFaulted cue.toNat = false → (256 ≤ cue.toNat → isBarrier (s.cueCfg cue.toNat) = false) →
    s.cueCount h cue.toNat < n.toNat → s.poolUsed h < s.regF (hrP h) 0x0C8 31 16 → s.cues.waiters.length < 8192 →
    Completes (.cueWait r cue n to') s fun t => Quiet { s with cues := { s.cues with waiters := s.cues.waiters ++
      [{ cue := cue.toNat, hr := h, who := r, n := n.toNat, slot := 0
         expiry := now s + 1000 * (if to'.toNat = 0 then s.regF (hrP h) 0x0CC 23 0 else to'.toNat) }] } } t) ∧
  (∀ (r : Requester) (h : Nat) (cue n : BitVec 16) (to' : BitVec 24) (s : State), s.requesterHr r = some h → (∀ u, r ≠ .tile u) →
    s.mayCue h cue.toNat 2 = true → s.cueFaulted cue.toNat = false → (256 ≤ cue.toNat → isBarrier (s.cueCfg cue.toNat) = false) →
    s.cueCount h cue.toNat < n.toNat → s.regF (hrP h) 0x0C8 31 16 ≤ s.poolUsed h →
    Completes (.cueWait r cue n to') s fun t => (r, cue.toNat, WaitStatus.full) ∈ t.cues.results ∧
      t.cues.counts = s.cues.counts ∧ t.cues.copies = s.cues.copies ∧ Quiet { s with cues := t.cues } t) ∧
  (∀ (r : Requester) (h : Nat) (cue n : BitVec 16) (to' : BitVec 24) (s : State), s.requesterHr r = some h → (∀ u, r ≠ .tile u) →
    s.mayCue h cue.toNat 2 = false → s.underLimit h →
    Completes (.cueWait r cue n to') s fun t => (r, cue.toNat, WaitStatus.denied) ∈ t.cues.results ∧
      ViolationLeft h (0x34 + sourceCode r * 0x10000) (0x20000 + cue.toNat) 0 s t ∧ t.cues.counts = s.cues.counts ∧
      t.cues.copies = s.cues.copies ∧ Beside [hrP h] (recordKeys h) { s with cues := t.cues, hrs := t.hrs } t) ∧
  (∀ (r : Requester) (h : Nat) (cue : BitVec 16) (to' : BitVec 24) (s : State), s.requesterHr r = some h → 256 ≤ cue.toNat →
    s.mayCue h cue.toNat 3 = true → s.cueFaulted cue.toNat = false → isBarrier (s.cueCfg cue.toNat) = true →
    s.cueCount 0 cue.toNat + 1 < cfgArg (s.cueCfg cue.toNat) → s.poolUsed h < s.regF (hrP h) 0x0C8 31 16 →
    s.cues.waiters.length < 8192 →
    Completes (.cueArrive r cue to') s fun t => t.cueCount 0 cue.toNat = s.cueCount 0 cue.toNat + 1 ∧
      t.cues.waiters = s.cues.waiters ++
        [{ cue := cue.toNat, hr := h, who := r, n := 0, slot := 0
           expiry := now s + 1000 * (if to'.toNat = 0 then s.regF (hrP h) 0x0CC 23 0 else to'.toNat) }] ∧
      Quiet { s with cues := t.cues } t ∧ ∀ h' c, c ≠ cue.toNat → t.cueCount h' c = s.cueCount h' c) ∧
  (∀ (i : Nat) (r : Requester) (w : Waiter) (p : PageRef) (s : State), s.cues.waiters[i]? = some w → w.who = r → (∀ u, r ≠ .tile u) →
    256 ≤ w.cue → isBarrier (s.cueCfg w.cue) = true → p = cueP (w.cue / 256) →
    Completes (.waiterTimeout i) s fun t => (r, w.cue, WaitStatus.timeout) ∈ t.cues.results ∧
      t.cues.counts = s.cues.counts ∧ t.cues.copies = s.cues.copies ∧
      t.cues.waiters = (s.cues.waiters.filter fun v => !(v.who == r)) ∧
      t.regF p 0x048 31 16 = min 0xFFFF (s.regF p 0x048 31 16 + 1) ∧ t.regN p 0x04C = 0x10000 + w.cue % 256 ∧
      (t.page p).pend.getLsbD 1 = true ∧ (t.page (hrP w.hr)).pend.getLsbD 4 = true ∧
      Beside [p, hrP w.hr] [regKey p 0x048, regKey p 0x04C] { s with cues := t.cues, mtn := (advanceTo w.expiry s).mtn } t)

/-- A configuration write of two legal halves of Cues without waiters stores them; one with reserved bits or ARG out of range is
refused and changes neither; an error in a Cue block's storage puts its page into FAULT (R142, R153). -/
def Obligations.CueBlocksAreConfigured : Prop :=
  (∀ (r : Requester) (b : BitVec 8) (j : Fin 128) (v : Word) (s : State), s.writes r (cueP b.toNat) (0x100 + 4 * j.val) = true →
    b ≠ 0 → cfgOk (fld v 15 0) = true → cfgOk (fld v 31 16) = true → s.cues.waiters = [] →
    Completes (.cueCfgWrite r b j v) s fun t => t.reg (cueP b.toNat) (0x100 + 4 * j.val) = v ∧
      (t.page (cueP b.toNat)).writes = (s.page (cueP b.toNat)).writes + 1 ∧
      Beside [cueP b.toNat] [regKey (cueP b.toNat) (0x100 + 4 * j.val)] s t) ∧
  (∀ (r : Requester) (b : BitVec 8) (j : Fin 128) (v : Word) (s : State), s.writes r (cueP b.toNat) (0x100 + 4 * j.val) = true →
    b ≠ 0 → cfgOk (fld v 15 0) = false →
    Completes (.cueCfgWrite r b j v) s fun t => (t.page (cueP b.toNat)).syndrome = 0x20000 + 2 * j.val ∧
      (t.page (cueP b.toNat)).refusals = satInc 0xFF (s.page (cueP b.toNat)).refusals ∧ Beside [cueP b.toNat] [] s t) ∧
  (∀ (b idx : BitVec 8) (s : State), s.pageState (cueP b.toNat) = .running → (s.page (cueP b.toNat)).owner = 0 →
    s.cues.waiters = [] →
    Completes (.cueStorageError b idx) s fun t => t.pageState (cueP b.toNat) = .fault ∧
      (t.page (cueP b.toNat)).syndrome = 0x40000 + idx.toNat ∧ Beside [cueP b.toNat] [] s t)

/-! ## Memory (chapter 5) -/

/-- SET_TAGS gives every slot of its range the tag it names (R173); INJECT puts an error into one word of the Locker (R178);
TILE_BANKMAP takes a legal map and refuses one that names a reserved class (R172); a phase instruction takes effect (R165). None
of them changes a byte. -/
def Obligations.TagsErrorsAndMapsAreSet : Prop :=
  (∀ (r : Requester) (u : Fin 32) (arg : BitVec 24) (s : State), s.commands r (tileP u.val) = true →
    s.pageState (tileP u.val) = .idle → 0 < s.regF (tileP u.val) 0x0CC 29 16 →
    s.regF (tileP u.val) 0x0CC 12 0 + s.regF (tileP u.val) 0x0CC 29 16 ≤ 8192 →
    Completes (.setTags r u arg) s fun t => t.resultCode (tileP u.val) = 2 ∧
      (∀ w k, w < 32 → k < 8192 → t.tag w k =
        if w = u.val ∧ s.regF (tileP u.val) 0x0CC 12 0 ≤ k ∧ k < s.regF (tileP u.val) 0x0CC 12 0 + s.regF (tileP u.val) 0x0CC 29 16
        then arg.toNat % 4 else s.tag w k) ∧
      Beside [tileP u.val] [] { s with sram := { s.sram with tags := t.sram.tags } } t) ∧
  (∀ (r : Requester) (u : Fin 32) (arg : BitVec 24) (s : State), s.commands r (tileP u.val) = true →
    s.pageState (tileP u.val) = .idle →
    (s.regF (tileP u.val) 0x0CC 29 16 = 0 ∨ 8192 < s.regF (tileP u.val) 0x0CC 12 0 + s.regF (tileP u.val) 0x0CC 29 16) →
    Completes (.setTags r u arg) s fun t => t.resultCode (tileP u.val) = 5 ∧ (t.page (tileP u.val)).syndrome = 0x410000 ∧
      Beside [tileP u.val] [] s t) ∧
  (∀ (r : Requester) (k : Fin 4) (arg : BitVec 24) (a : Nat) (s : State), s.commands r (lockerP k.val) = true →
    s.pageState (lockerP k.val) = .running → s.anyTorque = false →
    s.isExcused (48 + 8 * k.val + arg.toNat / 0x100000 % 8) = false →
    a = 0x4000000 + k.val * 0x4000000 + arg.toNat / 0x100000 % 8 * 0x800000 + 8 * (arg.toNat % 0x100000) →
    Completes (.inject r k arg) s fun t => t.resultCode (lockerP k.val) = 2 ∧
      t.errAt a = (if arg.toNat / 0x800000 = 1 then 2 else 1) ∧ (∀ b, b / 8 ≠ a / 8 → t.errAt b = s.errAt b) ∧
      Beside [lockerP k.val] [] { s with sram := { s.sram with errs := t.sram.errs } } t) ∧
  (∀ (r : Requester) (u : Fin 32) (v : Word) (s : State), s.writes r (tileP u.val) 0x0C0 = true → bankMapOk v = true →
    Completes (.tileBankmapWrite r u v) s fun t => t.reg (tileP u.val) 0x0C0 = v ∧
      (t.page (tileP u.val)).writes = (s.page (tileP u.val)).writes + 1 ∧ Beside [tileP u.val] [regKey (tileP u.val) 0x0C0] s t) ∧
  (∀ (r : Requester) (u : Fin 32) (v : Word) (s : State), s.writes r (tileP u.val) 0x0C0 = true → bankMapOk v = false →
    Completes (.tileBankmapWrite r u v) s fun t => (t.page (tileP u.val)).syndrome = 0x400000 ∧
      (t.page (tileP u.val)).refusals = satInc 0xFF (s.page (tileP u.val)).refusals ∧ Beside [tileP u.val] [] s t) ∧
  (∀ (u : Fin 32) (m : Word) (s : State), (s.tile u.val).wait = .phase m → (s.tile u.val).act.isSome = true →
    Completes (.bankPhaseApply u) s fun t => t.reg (tileP u.val) 0x0C0 = m ∧ (t.tile u.val).wait = .none ∧
      (t.tile u.val).pc = s.pcAfter u.val ∧ Beside [] [regKey (tileP u.val) 0x0C0] { s with tiles := t.tiles } t ∧
      ∀ k, k ≠ u.val → t.tile k = s.tile k)

/-- A scrub read of a clean word changes nothing but that a stack's last word ends its pass; one of a word with a single-bit
error corrects it and reports it, and counts it where it lies in the Locker; one with an uncorrectable error stores the poison
pattern (R176, R177). The bytes of SRAM stay as they are. A flit of a Locker link that comes through after failures counts its
retransmissions; one that fails four times takes the link down, its page into FAULT, and excuses the stack's channels (R175); a
corridor flit that still fails waits to poison the access it belongs to, and is reported (R182). The last word of a pass and the
layout of a flit are read as in log entries 57 and 151, retransmissions as in log entry 55, corridor failures as in log entry
56. -/
def Obligations.MemoryErrorsAreHandled : Prop :=
  (∀ (addr : Word) (a : Nat) (s : State), a = addr.toNat / 8 * 8 → (memUnit s.chip.grade a).isSome = true → s.errAt a = 0 →
    a % 0x4000000 ≠ 0x3FFFFF8 → Completes (.scrubRead addr .clean) s fun t => Quiet s t) ∧
  (∀ (addr : Word) (k b : Nat) (s : State), addr.toNat / 8 * 8 = 0x4000000 * k + 0x7FFFFF8 →
    memUnit s.chip.grade (addr.toNat / 8 * 8) = some b → 48 ≤ b → s.isExcused b = false → s.regF dynP 0x040 2 0 < 3 →
    s.errAt (addr.toNat / 8 * 8) = 0 →
    Completes (.scrubRead addr .clean) s fun t => t.regN (lockerP k) 0x070 = (s.regN (lockerP k) 0x070 + 1) % 2 ^ 32 ∧
      Beside [] [regKey (lockerP k) 0x070] s t) ∧
  (∀ (addr : Word) (a b : Nat) (s : State), a = addr.toNat / 8 * 8 → memUnit s.chip.grade a = some b → b < 48 →
    s.isExcused b = false → s.regF dynP 0x040 2 0 < 3 → s.errAt a ≤ 1 → s.sram.condemned = [] →
    Completes (.scrubRead addr .single) s fun t => t.errAt a = 0 ∧ (∀ x, x / 8 ≠ a / 8 → t.errAt x = s.errAt x) ∧
      t.notes.length = s.notes.length + 1 ∧ Quiet { s with notes := t.notes, sram := { s.sram with errs := t.sram.errs } } t) ∧
  (∀ (addr : Word) (a k c : Nat) (s : State), a = addr.toNat / 8 * 8 → c < 8 → memUnit s.chip.grade a = some (48 + 8 * k + c) →
    s.isExcused (48 + 8 * k + c) = false → s.regF dynP 0x040 2 0 < 3 → s.errAt a ≤ 1 → s.sram.condemned = [] →
    a % 0x4000000 ≠ 0x3FFFFF8 →
    Completes (.scrubRead addr .single) s fun t => t.errAt a = 0 ∧ (t.page (lockerP k)).pend.getLsbD 0 = true ∧
      t.regF (lockerP k) (0x050 + 4 * (c / 2)) (16 * (c % 2) + 15) (16 * (c % 2)) =
        min 0xFFFF (s.regF (lockerP k) (0x050 + 4 * (c / 2)) (16 * (c % 2) + 15) (16 * (c % 2)) + 1) ∧
      Beside [lockerP k] [regKey (lockerP k) (0x050 + 4 * (c / 2))]
        { s with notes := t.notes, sram := { s.sram with errs := t.sram.errs } } t) ∧
  (∀ (addr : Word) (a b : Nat) (s : State), a = addr.toNat / 8 * 8 → memUnit s.chip.grade a = some b → b < 48 →
    s.isExcused b = false → s.regF dynP 0x040 2 0 < 3 → tabGet 0 s.sram.lastUe b = 0 → s.sram.condemned = [] →
    Completes (.scrubRead addr .double) s fun t => t.isPoison a = true ∧ t.errAt a = 0 ∧
      (∀ x, x / 8 ≠ a / 8 → t.isPoison x = s.isPoison x ∧ t.errAt x = s.errAt x) ∧ t.notes.length = s.notes.length + 1 ∧
      Quiet { s with notes := t.notes, sram := { s.sram with errs := t.sram.errs, poison := t.sram.poison, lastUe := t.sram.lastUe } } t) ∧
  (∀ (k : Fin 4) (flits : List (List Byte)) (n : Nat) (s : State), s.pageState (lockerP k.val) = .running →
    present s.chip.grade (lockerP k.val) = true → n = ((flits.take 4).takeWhile fun f => !flitOk f).length → 0 < n → n < 4 →
    Completes (.lockerLinkDown ⟨k, flits⟩) s fun t =>
      t.regN (lockerP k.val) 0x048 = min (s.regN (lockerP k.val) 0x048 + n) 0xFFFFFFFF ∧
      (t.page (lockerP k.val)).pend.getLsbD 2 = true ∧ t.pageState (lockerP k.val) = .running ∧
      Beside [lockerP k.val] [regKey (lockerP k.val) 0x048] s t) ∧
  (∀ (k : Fin 4) (a b c d : List Byte) (rest : List (List Byte)) (s : State), s.pageState (lockerP k.val) = .running →
    present s.chip.grade (lockerP k.val) = true → flitOk a = false → flitOk b = false → flitOk c = false → flitOk d = false →
    Completes (.lockerLinkDown ⟨k, a :: b :: c :: d :: rest⟩) s fun t => t.pageState (lockerP k.val) = .fault ∧
      bit (t.reg (lockerP k.val) 0x044) 8 = true ∧
      t.regN (lockerP k.val) 0x048 = min (s.regN (lockerP k.val) 0x048 + 3) 0xFFFFFFFF ∧
      (∀ c, c < 8 → t.isExcused (48 + 8 * k.val + c) = true) ∧ ∀ u, s.isExcused u = true → t.isExcused u = true) ∧
  (∀ (r : Requester) (addr : Word) (write : Bool) (s : State),
    Completes (.corridorParityFail ⟨r, addr, write⟩) s fun t => (sourceCode r, write, addr.toNat / 64) ∈ t.sram.flits ∧
      t.notes.length = s.notes.length + 1 ∧ Quiet { s with notes := t.notes, sram := { s.sram with flits := t.sram.flits } } t)

/-- DMA_TAIL takes the value modulo the ring; a RUNNING channel with work fetches the descriptor at HEAD and holds it; a
descriptor that fails R183 ends with status DESC_ERR and puts the page into FAULT; a descriptor that is through has stored its
rows; a tag wait that is too long ends TAG_TIMEOUT where the channel still waits (R183 to R187, Table 5-11). The ends of
descriptors are read as in log entries 58 and 59. -/
def Obligations.DmaRunsItsRing : Prop :=
  (∀ (r : Requester) (c : Fin 8) (v : Word) (s : State), s.writes r (dmaP c.val) 0x044 = true →
    Completes (.dmaTailWrite r c v) s fun t => t.dmaTail c.val = fld v 15 0 % s.ringSize (dmaP c.val) 0x040 ∧
      Beside [dmaP c.val] [regKey (dmaP c.val) 0x044] s t) ∧
  (∀ (c : Fin 8) (h at' : Nat) (j : DmaJob) (s : State), s.pageState (dmaP c.val) = .running → (s.chan c.val).job = none →
    (s.chan c.val).quiescing = false → s.dmaHead c.val ≠ s.dmaTail c.val → h = (s.page (dmaP c.val)).owner → s.shareSpent h = false →
    at' = 64 * s.regF (dmaP c.val) 0x040 23 0 + 32 * s.dmaHead c.val → j = parseDesc (s.dmaHead c.val) (s.readGrant h at' 32) →
    descOk j = true → s.grantPoison h at' 32 = false → (s.grantOpen h at').all (s.errFree · 32) = true →
    Completes (.dmaDescriptorStart c) s fun t => (t.chan c.val).job = some j ∧ (t.chan c.val).quiescing = false ∧
      Quiet { s with dma := t.dma } t ∧ ∀ k, k ≠ c.val → t.chan k = s.chan k) ∧
  (∀ (c : Fin 8) (h at' : Nat) (j : DmaJob) (s : State), s.pageState (dmaP c.val) = .running → (s.chan c.val).job = none →
    (s.chan c.val).quiescing = false → s.dmaHead c.val ≠ s.dmaTail c.val → h = (s.page (dmaP c.val)).owner → s.shareSpent h = false →
    at' = 64 * s.regF (dmaP c.val) 0x040 23 0 + 32 * s.dmaHead c.val → j = parseDesc (s.dmaHead c.val) (s.readGrant h at' 32) →
    (descOk j = false ∨ s.grantPoison h at' 32 = true) → (s.grantOpen h at').all (s.errFree · 32) = true →
    Completes (.dmaDescriptorStart c) s fun t => t.pageState (dmaP c.val) = .fault ∧ (t.chan c.val).job = none ∧
      t.regN (dmaP c.val) 0x050 = (s.dmaHead c.val * 0x10000 + 5) % 2 ^ 32 ∧ (t.page (dmaP c.val)).pend.getLsbD 2 = true ∧
      Beside [dmaP c.val] [regKey (dmaP c.val) 0x048, regKey (dmaP c.val) 0x050] { s with dma := t.dma } t) ∧
  (∀ (c : Fin 8) (h ns : Nat) (l : List Nat) (j : DmaJob) (bs : List Byte) (s : State), s.pageState (dmaP c.val) = .running →
    h = (s.page (dmaP c.val)).owner → (s.chan c.val).job = some j → j.rows = 1 → j.rowBytes = 64 → j.pos = 0 → j.srcHost = true →
    j.dstHost = false → j.dstMode = 0 → j.hostRows = [(0, some bs)] → j.epRows = [] → bs.length = 64 → j.viol = false →
    j.hostErr = false → j.poisoned = false → j.done = false → j.signalEn = false → s.shareSpent h = false →
    s.reachesAll h j.dst 64 = true → s.gatedAt j.dst = false → s.sideClashes j.dst = false → s.weightGuarded j.dst 64 = false →
    j.dst % 64 = 0 → s.errFree j.dst 64 = true → s.sram.flits = [] →
    Completes (.dmaDescriptorEnd c (ns :: l)) s fun t => (t.chan c.val).job = none ∧
      t.regN (dmaP c.val) 0x050 = (j.index * 0x10000) % 2 ^ 32 ∧
      t.regN (dmaP c.val) 0x048 = (j.index + 1) % s.ringSize (dmaP c.val) 0x040 % 2 ^ 32 ∧
      (t.hr h).engineUsed = (s.hr h).engineUsed + ns ∧ t.readBytes j.dst 64 = bs ∧ MemoryOutside j.dst 64 s t ∧
      ∀ k, k ≠ h → t.hr k = s.hr k) ∧
  (∀ (c : Fin 8) (h a : Nat) (j : DmaJob) (s : State), s.pageState (dmaP c.val) = .running → h = (s.page (dmaP c.val)).owner →
    (s.chan c.val).job = some j → j.pos < j.rows * (j.rowBytes / 64) → j.srcHost = false →
    a = j.src + j.pos / (j.rowBytes / 64) * j.srcStride + 64 * (j.pos % (j.rowBytes / 64)) → s.reachesAll h a 64 = true →
    s.sideClashes a = false → s.sideWaits false j.srcMode a = true → j.srcMode ≠ 0 →
    Completes (.dmaTagTimeout c) s fun t => (t.chan c.val).job = none ∧
      t.regN (dmaP c.val) 0x050 = (j.index * 0x10000 + 3) % 2 ^ 32 ∧ t.pageState (dmaP c.val) = .fault ∧
      (t.page (dmaP c.val)).syndrome = 0x40000 + j.index % 0x10000 ∧
      Beside [dmaP c.val] [regKey (dmaP c.val) 0x048, regKey (dmaP c.val) 0x050] { s with dma := t.dma, hrs := t.hrs } t)

/-- A host access within one unit of the Commons that its homeroom reaches: a read brings the bytes at its address, a write
stores its bytes and changes no other. An access in PIANISSIMO is held and wakes the device (R191, R491). The order of held
accesses and register writes is the model's choice (log entry 150). -/
def Obligations.HostAccessesReachSram : Prop :=
  (∀ (p : Option (BitVec 20)) (h : Nat) (addr : Word) (data : List Byte) (s : State), addr.toNat < 0x10000000 → s.dynState < 3 →
    s.requesterHr (.host p) = some h → (levelAt s.chip.grade addr.toNat).isCommons = true → 0 < data.length →
    data.length ≤ 64 - addr.toNat % 64 → s.reachesAll h addr.toNat data.length = true → s.errFree addr.toNat data.length = true →
    s.sram.flits = [] →
    Completes (.hostSramAccess p addr false data) s fun t => t.out.readData = s.readBytes addr.toNat data.length ∧
      t.out.readPoison = s.rangePoison addr.toNat data.length ∧ Quiet { s with out := t.out } t) ∧
  (∀ (p : Option (BitVec 20)) (h : Nat) (addr : Word) (data : List Byte) (s : State), addr.toNat < 0x10000000 → s.dynState < 3 →
    s.requesterHr (.host p) = some h → (levelAt s.chip.grade addr.toNat).isCommons = true → 0 < data.length →
    data.length ≤ 64 - addr.toNat % 64 → s.reachesAll h addr.toNat data.length = true → s.errFree addr.toNat data.length = true →
    s.sram.flits = [(0x40, false, addr.toNat / 64)] →
    Completes (.hostSramAccess p addr false data) s fun t => t.out.readData = s.readBytes addr.toNat data.length ∧
      t.out.readPoison = true ∧ Quiet { s with out := t.out, sram := { s.sram with flits := [] } } t) ∧
  (∀ (p : Option (BitVec 20)) (h : Nat) (addr : Word) (data : List Byte) (s : State), addr.toNat < 0x10000000 → s.dynState < 3 →
    s.requesterHr (.host p) = some h → (levelAt s.chip.grade addr.toNat).isCommons = true → 0 < data.length →
    data.length ≤ 64 - addr.toNat % 64 → s.reachesAll h addr.toNat data.length = true →
    s.weightGuarded addr.toNat data.length = false → s.errFree addr.toNat data.length = true → s.sram.flits = [] →
    Completes (.hostSramAccess p addr true data) s fun t => t.readBytes addr.toNat data.length = data ∧
      MemoryOutside addr.toNat data.length s t ∧ Quiet { s with mem := t.mem, sram := t.sram } t ∧ t.sram.tags = s.sram.tags) ∧
  (∀ (p : Option (BitVec 20)) (addr : Word) (write : Bool) (data : List Byte) (s : State), addr.toNat < 0x10000000 → s.dynState = 3 →
    s.dyn.wake = none →
    Completes (.hostSramAccess p addr write data) s fun t => t.dyn.wake = some (1, 3, now s) ∧
      Quiet { s with sram := { s.sram with heldHost := s.sram.heldHost ++ [(p, addr.toNat, write, data)] } } t)

/-! ## Tile instructions (chapters 6 and 7) -/

/-- MX.CFG takes its modes, MX.SWAP exchanges the weight buffers, MX.ZACC clears the accumulator rows it names, MX.LDW loads a
weight block and empties the slots it consumes; each goes on to its next instruction and changes nothing but its tile. The
output stage stores the elements of the rows it names, packed, from its offset on, and stores nothing else (R195, R196). Where
its reads of the per-channel table lie outside the grants they leave a violation record (R124), and where they do not, nothing
but the tile and its counts of saturations and NaNs differs. -/
def Obligations.MatrixStateIsSetAndStored : Prop :=
  (∀ (u : Fin 32) (f : MxFields) (s : State), s.issues u.val (.mxCfg u f) = true → f.op.toNat % 16 < 6 →
    (elemOf (f.op.toNat / 16 % 16)).isSome = true →
    Completes (.mxCfg u f) s fun t => GoesOn u.val s t ∧ (t.tile u.val).mode = f.op.toNat % 16 ∧
      (t.tile u.val).outFmt = f.op.toNat / 16 % 16 ∧ (t.tile u.val).satBit = f.sat ∧ (t.tile u.val).actE5 = f.op.getLsbD 8 ∧
      (t.tile u.val).wtE5 = f.op.getLsbD 9 ∧ (t.tile u.val).chanTable = 64 * (s.getS u.val (f.agd.toNat / 16)).toNat) ∧
  (∀ (u : Fin 32) (f : MxFields) (s : State), s.issues u.val (.mxSwap u f) = true →
    Completes (.mxSwap u f) s fun t => GoesOn u.val s t ∧ (t.tile u.val).wActive = (s.tile u.val).wLoaded.getD [] ∧
      (t.tile u.val).wLoaded = some (s.tile u.val).wActive) ∧
  (∀ (u : Fin 32) (f : MxFields) (s : State), s.issues u.val (.mxZacc u f) = true →
    Completes (.mxZacc u f) s fun t => GoesOn u.val s t ∧
      ∀ row n, row < 256 → n < 32 → (t.tile u.val).getAcc row n =
        if (row + 256 - f.row0.toNat) % 256 ≤ f.rows1.toNat then 0 else (s.tile u.val).getAcc row n) ∧
  (∀ (u : Fin 32) (f : MxFields) (rs : List (Nat × Nat)) (slots : List Nat) (s : State), s.issues u.val (.mxLdw u f) = true →
    f.tag.toNat ≤ 2 → rs = wideRanges (256 * f.off.toNat) (blockBytes (s.tile u.val).mode) →
    slots = unitSlots clsWide (unitsOf clsWide rs) → (f.tag = 0 ∨ ∀ k ∈ slots, s.tag u.val k = 3) → s.bound u.val clsWide →
    s.errFree (u.val * 0x100000) 0x100000 = true →
    Completes (.mxLdw u f) s fun t => GoesOn u.val { s with sram := { s.sram with tags := t.sram.tags } } t ∧
      (t.tile u.val).wLoaded = some (s.readScratch u.val rs) ∧ (t.tile u.val).wActive = (s.tile u.val).wActive ∧
      ∀ k, k < 8192 → t.tag u.val k = if f.tag = 2 ∧ k ∈ slots then 0 else s.tag u.val k) ∧
  (∀ (u : Fin 32) (f : MxFields) (bytes : List Byte) (s : State), s.issues u.val (.mxOut u ⟨f, none⟩) = true →
    (f.tag = 0 ∨ f.tag = 1 ∧ ∀ k, k < 8192 → s.tag u.val k = 0) →
    bytes = ((accRows f).flatMap fun r => packElems (((elemOf (s.tile u.val).outFmt).map Elem.width).getD 8)
      ((List.range (nDim (s.tile u.val).mode)).map fun n => (s.outElem u.val r n).1)).take (0x100000 - 256 * f.off.toNat) →
    s.bound u.val clsWide → s.sram.errs = [] → s.sram.condemned = [] → s.underLimit (s.hrOn u.val) →
    Completes (.mxOut u ⟨f, none⟩) s fun t => (t.tile u.val).pc = s.pcAfter u.val ∧ (t.tile u.val).act = (s.tile u.val).act ∧
      (t.tile u.val).wait = .none ∧ t.readBytes (u.val * 0x100000 + 256 * f.off.toNat) bytes.length = bytes ∧
      MemoryOutside (u.val * 0x100000 + 256 * f.off.toNat) bytes.length s t ∧
      Beside [tileP u.val, hrP (s.hrOn u.val)] ([regKey (tileP u.val) 0x070, regKey (tileP u.val) 0x068] ++ recordKeys (s.hrOn u.val))
        { s with tiles := t.tiles, mem := t.mem, sram := t.sram, hrs := t.hrs, notes := t.notes } t ∧
      ((s.chanRanges u.val).all (fun e => s.reachesAll (s.hrOn u.val) e.1 e.2) = true →
        Beside [tileP u.val] [regKey (tileP u.val) 0x070, regKey (tileP u.val) 0x068]
          { s with tiles := t.tiles, mem := t.mem, sram := t.sram } t) ∧
      ∀ k, k ≠ u.val → t.tile k = s.tile k)

/-- A pass without an upset of the array, and whose codes agree in a floating-point mode, adds, or sets, in every accumulator
row it names the products of the activations its descriptor reads with the active weights, in ascending K; its checks count in
TILE_ROWCOUNT (R193, R203, R204). Which element of the windows a K index picks and where a weight lies in its block are free
values of the model (log entry 20); sums, checks and upsets are read as in log entry 21. -/
def Obligations.PassesAccumulate : Prop :=
  ∀ (u : Fin 32) (f : MxFields) (p : Part) (da : Nat) (desc : List Byte) (s : State), s.issues u.val (.mxPass u f []) = true →
    (f.tag = 0 ∨ f.tag = 1 ∧ ∀ k, k < 8192 → s.tag u.val k = 3) → s.partOn u.val = some p →
    da = p.image + s.readNat (p.image + 0x2C) 4 + 32 * f.agd.toNat → desc = s.readBytes da 32 →
    s.errFree (p.image + 0x2C) 4 = true → s.rangePoison (p.image + 0x2C) 4 = false → s.errFree da 32 = true →
    s.rangePoison da 32 = false → agdOk desc = true → s.bound u.val clsWide → s.errFree (u.val * 0x100000) 0x100000 = true →
    (s.tile u.val).inject = none →
    (intMode (s.tile u.val).mode = true ∨ ∀ b, b < 4 → s.blockAgrees u.val f desc b = true) →
    Completes (.mxPass u f []) s fun t => (t.tile u.val).pc = s.pcAfter u.val ∧ (t.tile u.val).act = (s.tile u.val).act ∧
      (t.tile u.val).wait = .none ∧
      t.regN (tileP u.val) 0x054 = min (s.regN (tileP u.val) 0x054 + (f.rows1.toNat + 1) + (f.rows1.toNat + 1 + 63) / 64) 0xFFFFFFFF ∧
      (∀ r n, r < f.rows1.toNat + 1 → n < nDim (s.tile u.val).mode →
        (t.tile u.val).getAcc ((f.row0.toNat + r) % 256) n =
          passElem (opElem (s.tile u.val).mode (s.tile u.val).actE5) (opElem (s.tile u.val).mode (s.tile u.val).wtE5)
            (if f.accumulate then (s.tile u.val).getAcc ((f.row0.toNat + r) % 256) n else 0)
            ((List.range (kDim (s.tile u.val).mode)).map fun k =>
              s.activation u.val desc f (opElem (s.tile u.val).mode (s.tile u.val).actE5).width r k)
            ((List.range (kDim (s.tile u.val).mode)).map fun k => (s.tile u.val).weight k n)) ∧
      Beside [] [regKey (tileP u.val) 0x070, regKey (tileP u.val) 0x054] { s with tiles := t.tiles } t ∧
      ∀ k, k ≠ u.val → t.tile k = s.tile k

/-- The VX instructions on registers write vd, each element from the elements of its sources, and change nothing but their tile.
What the spec leaves open (log entries 22 and 23) is a free value here too. A parity error of a register they read is a Part
image fault (R198). VX.LRED leaves the tree of its 64 lanes in lane 0 of vd, integer sums modulo 2^32 (R230); VX.ARGMAX the
index of the largest lane in its scalar register where no lane is NaN, ties to the lowest index. Roles of fields that two tables
give only together are the model's reading (log entry 23); that the sub-operation comes with the command, and values the manual
does not state, are log entries 153 and 22. -/
def Obligations.VectorRegistersAreComputed : Prop :=
  (∀ (u : Fin 32) (op : VxAluOp) (f : VxFields) (e : Elem) (s : State), s.issues u.val (.vxAlu u op f) = true →
    elemOf f.fmt.toNat = some e → f.parity = false →
    Completes (.vxAlu u op f) s fun t => GoesOn u.val s t ∧
      t.getV u.val f.vd = zip2 e.width (aluElem op e) (s.getV u.val f.va) (s.getV u.val f.vb)) ∧
  (∀ (u : Fin 32) (f : VxFields) (e : Elem) (s : State), s.issues u.val (.vxFma u f) = true → elemOf f.fmt.toNat = some e →
    f.parity = false →
    Completes (.vxFma u f) s fun t => GoesOn u.val s t ∧
      t.getV u.val f.vd = zip3 e.width (elemFma e) (s.getV u.val f.va) (s.getV u.val f.vb) (s.getV u.val f.vc)) ∧
  (∀ (u : Fin 32) (op : VxFnOp) (f : VxFields) (e : Elem) (s : State), s.issues u.val (.vxFn u op f) = true →
    elemOf f.fmt.toNat = some e → f.parity = false →
    Completes (.vxFn u op f) s fun t => GoesOn u.val s t ∧
      t.getV u.val f.vd = vpack 32 ((velems (s.getV u.val f.va) 32).map (fnElem op))) ∧
  (∀ (u : Fin 32) (f : VxFields) (dst : BitVec 4) (sat : Bool) (e d : Elem) (s : State), s.issues u.val (.vxCvt u f dst sat) = true →
    elemOf f.fmt.toNat = some e → elemOf dst.toNat = some d → f.parity = false →
    Completes (.vxCvt u f dst sat) s fun t => GoesOn u.val s t ∧
      t.getV u.val f.vd = vreplace (s.getV u.val f.vd) d.width (64 * f.quarter.toNat % (2048 / d.width))
        ((List.range 64).map fun i => convert e d sat (velem (s.getV u.val f.va) e.width (64 * f.quarter.toNat % (2048 / e.width) + i)))) ∧
  (∀ (u : Fin 32) (f : VxFields) (e : Elem) (s : State), s.issues u.val (.vxQmul u f) = true → elemOf f.fmt.toNat = some e →
    f.parity = false →
    Completes (.vxQmul u f) s fun t => GoesOn u.val s t ∧
      t.getV u.val f.vd = zip3 32 qmulLane (s.getV u.val f.va) (s.getV u.val f.vb) (s.getV u.val f.vc)) ∧
  (∀ (u : Fin 32) (f : VxFields) (e : Elem) (s : State), s.issues u.val (.vxMac8 u f) = true → elemOf f.fmt.toNat = some e →
    f.parity = false →
    Completes (.vxMac8 u f) s fun t => GoesOn u.val s t ∧
      t.getV u.val f.vd = vpack 32 ((List.range 64).map fun i => fitInt 32 ((List.range 4).foldl
        (fun acc k => acc + sext 8 (velem (s.getV u.val f.va) 8 (4 * i + k)) * sext 8 (velem (s.getV u.val f.vb) 8 (4 * i + k)))
        (sext 32 (velem (s.getV u.val f.vc) 32 i))))) ∧
  (∀ (u : Fin 32) (f : VxFields) (e : Elem) (s : State), s.issues u.val (.vxSel u f) = true → elemOf f.fmt.toNat = some e →
    f.parity = false →
    Completes (.vxSel u f) s fun t => GoesOn u.val s t ∧
      t.getV u.val f.vd = zip3 e.width (fun a b m => if Config.maskSelects m then a else b) (s.getV u.val f.va) (s.getV u.val f.vb)
        (s.getV u.val f.vc)) ∧
  (∀ (u : Fin 32) (f : VxFields) (e : Elem) (p : Part) (a : Nat) (s : State), s.issues u.val (.vxPerm u f) = true →
    elemOf f.fmt.toNat = some e → f.parity = false → s.partOn u.val = some p →
    a = p.image + s.readNat (p.image + 0x3C) 4 + 64 * f.off.toNat → s.errFree (p.image + 0x3C) 4 = true →
    s.rangePoison (p.image + 0x3C) 4 = false → s.errFree a 64 = true → s.rangePoison a 64 = false →
    Completes (.vxPerm u f) s fun t => GoesOn u.val s t ∧
      t.getV u.val f.vd = vpack 32 ((List.range 64).map fun i => velem (s.getV u.val f.va) 32 (byteAt (s.readBytes a 64) i % 64))) ∧
  (∀ (u : Fin 32) (op : VxAluOp) (f : VxFields) (e : Elem) (s : State), s.issues u.val (.vxAlu u op f) = true →
    elemOf f.fmt.toNat = some e → f.parity = true →
    Completes (.vxAlu u op f) s fun t => t.regF (tileP u.val) 0x084 31 24 = 0x69 ∧ (t.tile u.val).act = none ∧
      s.notes.length < t.notes.length ∧
      (s.hrOn u.val = 0 → s.noTriggers 4 → s.noTriggers 5 → t.mem = s.mem)) ∧
  (∀ (u : Fin 32) (f : VxFields) (n : Nat) (s : State), s.issues u.val (.vxLred u f false) = true →
    elemOf f.fmt.toNat = some (.int n) → f.parity = false →
    Completes (.vxLred u f false) s fun t => GoesOn u.val s t ∧
      velem (t.getV u.val f.vd) 32 0 = (velems (s.getV u.val f.va) 32).sum % 2 ^ 32) ∧
  (∀ (u : Fin 32) (f : VxFields) (n : Nat) (s : State), s.issues u.val (.vxLred u f true) = true →
    elemOf f.fmt.toNat = some (.int n) → f.parity = false →
    Completes (.vxLred u f true) s fun t => GoesOn u.val s t ∧ velem (t.getV u.val f.vd) 32 0 ∈ velems (s.getV u.val f.va) 32 ∧
      ∀ x ∈ velems (s.getV u.val f.va) 32, sext 32 x ≤ sext 32 (velem (t.getV u.val f.vd) 32 0)) ∧
  (∀ (u : Fin 32) (f : VxFields) (maximum : Bool) (g : FpFmt) (s : State), s.issues u.val (.vxLred u f maximum) = true →
    elemOf f.fmt.toNat = some (.fp g) → f.parity = false →
    Completes (.vxLred u f maximum) s fun t => GoesOn u.val s t ∧
      velem (t.getV u.val f.vd) 32 0 = laneTree (if maximum then elemMinMax (.fp fF32) true else elemAdd (.fp fF32)) 6
        (velems (s.getV u.val f.va) 32) % 2 ^ 32) ∧
  (∀ (u : Fin 32) (f : VxFields) (n k : Nat) (s : State), s.issues u.val (.vxArgmax u f) = true →
    elemOf f.fmt.toNat = some (.int n) → f.parity = false → f.sr ≠ 0 → k < 64 →
    (∀ i, i < k → sext 32 (velem (s.getV u.val f.va) 32 i) < sext 32 (velem (s.getV u.val f.va) 32 k)) →
    (∀ i, i < 64 → sext 32 (velem (s.getV u.val f.va) 32 i) ≤ sext 32 (velem (s.getV u.val f.va) 32 k)) →
    Completes (.vxArgmax u f) s fun t => GoesOn u.val s t ∧ t.getS u.val f.sr.toNat = word k)

/-- VX.LD brings a quarter of vd from the scratchpad and empties the slot it consumes; VX.ST stores one there and nothing else,
and fills the half of the slot; an access whose tag does not permit it waits, and goes on once it does (R163, R166, R167). The
atomic adds add va, lane by lane, to the 256 bytes in the Commons their address names, and to no other byte. -/
def Obligations.VectorMemoryIsReached : Prop :=
  (∀ (u : Fin 32) (f : VxFields) (e : Elem) (s : State), s.issues u.val (.vxLd u f) = true → elemOf f.fmt.toNat = some e →
    f.parity = false → f.tag.toNat ≤ 2 → (f.tag = 0 ∨ s.tag u.val (f.off.toNat / 2) = 3) → s.bound u.val clsNarrow →
    s.errFree (u.val * 0x100000 + 64 * f.off.toNat) 64 = true →
    Completes (.vxLd u f) s fun t => GoesOn u.val { s with sram := { s.sram with tags := t.sram.tags } } t ∧
      t.getV u.val f.vd = vreplace (s.getV u.val f.vd) 8 (64 * f.quarter.toNat)
        ((s.readBytes (u.val * 0x100000 + 64 * f.off.toNat) 64).map (·.toNat)) ∧
      ∀ k, k < 8192 → t.tag u.val k = if f.tag = 2 ∧ k = f.off.toNat / 2 then 0 else s.tag u.val k) ∧
  (∀ (u : Fin 32) (f : VxFields) (e : Elem) (s : State), s.issues u.val (.vxSt u f) = true → elemOf f.fmt.toNat = some e →
    f.parity = false → (f.tag = 0 ∨ f.tag = 1 ∧ s.halfFull u.val f.off.toNat = false) → s.bound u.val clsNarrow →
    s.errFree (u.val * 0x100000 + 64 * f.off.toNat) 64 = true →
    Completes (.vxSt u f) s fun t => GoesOn u.val { s with mem := t.mem, sram := t.sram } t ∧
      t.readBytes (u.val * 0x100000 + 64 * f.off.toNat) 64 =
        (((velems (s.getV u.val f.vd) 8).drop (64 * f.quarter.toNat)).take 64).map (BitVec.ofNat 8) ∧
      MemoryOutside (u.val * 0x100000 + 64 * f.off.toNat) 64 s t ∧
      ∀ k, k < 8192 → t.tag u.val k =
        if f.tag = 1 ∧ k = f.off.toNat / 2 then s.tag u.val k ||| 2 ^ (f.off.toNat % 2) else s.tag u.val k) ∧
  (∀ (u : Fin 32) (f : VxFields) (e : Elem) (s : State), s.issues u.val (.vxLd u f) = true → elemOf f.fmt.toNat = some e →
    f.parity = false → (f.tag = 1 ∨ f.tag = 2) → s.tag u.val (f.off.toNat / 2) ≠ 3 → s.bound u.val clsNarrow →
    Completes (.vxLd u f) s fun t => OnlyTile u.val s t ∧ (t.tile u.val).wait = .tag false clsNarrow (f.off.toNat / 2) ∧
      (t.tile u.val).held = some (.vxLd u f) ∧ (t.tile u.val).pc = (s.tile u.val).pc ∧ (t.tile u.val).waitSince = now s) ∧
  (∀ (u : Fin 32) (f : VxFields) (e : Elem) (write : Bool) (slot : Nat) (s : State),
    (s.tile u.val).wait = .tag write clsNarrow slot → (s.tile u.val).held = some (.vxLd u f) → (s.tile u.val).act.isSome = true →
    elemOf f.fmt.toNat = some e → f.tag.toNat ≤ 2 → s.tag u.val (f.off.toNat / 2) = 3 → s.bound u.val clsNarrow →
    s.errFree (u.val * 0x100000 + 64 * f.off.toNat) 64 = true →
    Completes (.scratchpadAccessIssue u .clean) s fun t => GoesOn u.val { s with sram := { s.sram with tags := t.sram.tags } } t ∧
      t.getV u.val f.vd = vreplace (s.getV u.val f.vd) 8 (64 * f.quarter.toNat)
        ((s.readBytes (u.val * 0x100000 + 64 * f.off.toNat) 64).map (·.toNat))) ∧
  (∀ (u : Fin 32) (f : VxFields) (e : Elem) (write : Bool) (slot : Nat) (s : State),
    (s.tile u.val).wait = .tag write clsNarrow slot → (s.tile u.val).held = some (.vxLd u f) → (s.tile u.val).act.isSome = true →
    elemOf f.fmt.toNat = some e → (f.tag = 1 ∨ f.tag = 2) → s.tag u.val (f.off.toNat / 2) = 3 → s.bound u.val clsNarrow →
    slot = f.off.toNat / 2 → f.off.toNat % 2 = 0 → s.sram.errs = [] → s.sram.condemned = [] → tabGet 0 s.sram.lastUe u.val = 0 →
    Completes (.scratchpadAccessIssue u .double) s fun t => (t.tile u.val).pc = s.pcAfter u.val ∧
      (t.tile u.val).vBad f.vd.toNat = true ∧ (t.page (tileP u.val)).pend.getLsbD 9 = true ∧
      t.regN (tileP u.val) 0x0C4 = memErrWord 2 (128 * slot) clsNarrow ∧ t.mem = s.mem) ∧
  (∀ (u : Fin 32) (f : VxFields) (e : Elem) (a : Nat) (s : State), s.issues u.val (.vxAtaddi u f) = true →
    elemOf f.fmt.toNat = some e → f.parity = false → a = 64 * (s.getS u.val f.sr.toNat).toNat → s.cleanUnits (s.hrOn u.val) a 4 →
    (∀ k, k < 4 → s.weightGuarded (a + 64 * k) 64 = false) →
    Completes (.vxAtaddi u f) s fun t => GoesOn u.val { s with mem := t.mem, sram := t.sram } t ∧ t.sram.tags = s.sram.tags ∧
      MemoryOutside a 256 s t ∧ ∀ i, i < 64 → leNat (t.readBytes (a + 4 * i) 4) =
        (leNat (s.readBytes (a + 4 * i) 4) + velem (s.getV u.val f.va) 32 i) % 2 ^ 32) ∧
  (∀ (u : Fin 32) (f : VxFields) (e : Elem) (a : Nat) (s : State), s.issues u.val (.vxAtaddf u f) = true →
    elemOf f.fmt.toNat = some e → f.parity = false → a = 64 * (s.getS u.val f.sr.toNat).toNat → s.cleanUnits (s.hrOn u.val) a 4 →
    (∀ k, k < 4 → s.weightGuarded (a + 64 * k) 64 = false) →
    Completes (.vxAtaddf u f) s fun t => Chose u.val { s with mem := t.mem, sram := t.sram } t ∧
      (t.tile u.val).pc = s.pcAfter u.val ∧ t.sram.tags = s.sram.tags ∧ MemoryOutside a 256 s t ∧
      ∀ i, i < 64 → leNat (t.readBytes (a + 4 * i) 4) =
        f32add (leNat (s.readBytes (a + 4 * i) 4)) (velem (s.getV u.val f.va) 32 i) % 2 ^ 32)

/-- MV.COPY and MV.GATHER between disjoint ranges of the Commons copy their units; MV.BCAST writes its units into every
destination scratchpad (R212); MV.RED of a group of one tile brings its vector to its destination (R213). None stores anything
else. -/
def Obligations.UnitsMove : Prop :=
  (∀ (u : Fin 32) (f : MvFields) (a b n : Nat) (s : State), s.issues u.val (.mvCopy u f) = true → f.stag.toNat ≤ 2 →
    f.dtag.toNat ≤ 1 → a = 64 * (s.getS u.val f.sa.toNat).toNat → b = 64 * (s.getS u.val f.da.toNat).toNat →
    n = f.units1.toNat + 1 → s.cleanUnits (s.hrOn u.val) a n → s.cleanUnits (s.hrOn u.val) b n →
    (∀ k, k < n → s.weightGuarded (b + 64 * k) 64 = false) → (a + 64 * n ≤ b ∨ b + 64 * n ≤ a) →
    Completes (.mvCopy u f) s fun t => GoesOn u.val { s with mem := t.mem, sram := t.sram } t ∧ t.sram.tags = s.sram.tags ∧
      t.readBytes b (64 * n) = s.readBytes a (64 * n) ∧ MemoryOutside b (64 * n) s t) ∧
  (∀ (u : Fin 32) (f : MvFields) (a b n : Nat) (s : State), s.issues u.val (.mvGather u f) = true → f.stag.toNat ≤ 2 →
    f.dtag.toNat ≤ 1 → a = 64 * (s.getS u.val f.sa.toNat).toNat → b = 64 * (s.getS u.val f.da.toNat).toNat →
    n = f.units1.toNat + 1 → s.cleanUnits (s.hrOn u.val) a ((4 * n + 63) / 64) → s.cleanUnits (s.hrOn u.val) b n →
    (∀ k, k < n → s.weightGuarded (b + 64 * k) 64 = false) →
    (∀ k, k < n → s.cleanUnits (s.hrOn u.val) (64 * s.readNat (a + 4 * k) 4) 1 ∧
      (64 * s.readNat (a + 4 * k) 4 + 64 ≤ b ∨ b + 64 * n ≤ 64 * s.readNat (a + 4 * k) 4)) →
    Completes (.mvGather u f) s fun t => GoesOn u.val { s with mem := t.mem, sram := t.sram } t ∧ t.sram.tags = s.sram.tags ∧
      (∀ k, k < n → t.readBytes (b + 64 * k) 64 = s.readBytes (64 * s.readNat (a + 4 * k) 4) 64) ∧ MemoryOutside b (64 * n) s t) ∧
  (∀ (u : Fin 32) (f : MvFields) (a off n : Nat) (p : Part) (s : State), s.issues u.val (.mvBcast u f) = true → f.stag.toNat ≤ 2 →
    f.dtag = 0 → a = 64 * (s.getS u.val f.sa.toNat).toNat → off = 64 * (s.getS u.val f.da.toNat).toNat % 0x100000 →
    n = f.units1.toNat + 1 → off + 64 * n ≤ 0x100000 → s.cleanUnits (s.hrOn u.val) a n → s.partOn u.val = some p →
    (∀ d ∈ maskTiles u.val f.mask.toNat, p.group.contains d = true ∧ s.bound d clsStream ∧ ∀ k, k < n →
      s.reachesAll (s.hrOn u.val) (d * 0x100000 + off + 64 * k) 64 = true ∧ s.gatedAt (d * 0x100000 + off + 64 * k) = false ∧
      s.errFree (d * 0x100000 + off + 64 * k) 64 = true ∧ s.weightGuarded (d * 0x100000 + off + 64 * k) 64 = false) →
    Completes (.mvBcast u f) s fun t => (t.tile u.val).pc = s.pcAfter u.val ∧ (t.tile u.val).wait = .none ∧
      (∀ d ∈ maskTiles u.val f.mask.toNat, t.readBytes (d * 0x100000 + off) (64 * n) = s.readBytes a (64 * n)) ∧
      (∀ x, (∀ d ∈ maskTiles u.val f.mask.toNat, x < d * 0x100000 + off ∨ d * 0x100000 + off + 64 * n ≤ x) →
        t.readByte x = s.readByte x) ∧
      (∀ k, (t.tile k).act = (s.tile k).act) ∧
      Beside [] [regKey (tileP u.val) 0x070] { s with tiles := t.tiles, mem := t.mem, sram := t.sram } t) ∧
  (∀ (u : Fin 32) (f : MvFields) (a b : Nat) (p : Part) (s : State), s.issues u.val (.mvRed u f) = true → f.stag.toNat ≤ 2 →
    f.dtag.toNat ≤ 1 → f.units1 = 0 → (f.fmt.toNat = 3 ∨ f.fmt.toNat = 8 ∨ f.fmt.toNat = 9) → f.combine.toNat ≤ 1 →
    s.partOn u.val = some p → p.group = [u.val] → f.mask.toNat = 2 ^ (u.val % 8) → a = 64 * (s.getS u.val f.sa.toNat).toNat →
    b = 64 * (s.getS u.val f.da.toNat).toNat → s.cleanUnits (s.hrOn u.val) a 1 → s.cleanUnits (s.hrOn u.val) b 1 →
    s.weightGuarded b 64 = false →
    Completes (.mvRed u f) s fun t => GoesOn u.val { s with mem := t.mem, sram := t.sram } t ∧ t.sram.tags = s.sram.tags ∧
      t.readBytes b 64 = s.readBytes a 64 ∧ MemoryOutside b 64 s t)

/-- A tile signals, sets, tests and takes a COUNTER Cue of its homeroom and goes on; a WAIT that the count covers takes its n
and goes on, one that it does not joins the list and holds the tile; WAITANY ends at the first Cue that is satisfied; ARRIVE at
an incomplete barrier waits (R139, R232). SY.FENCE goes on; SY.TAGS gives every slot it names its tag and touches no byte. -/
def Obligations.SyInstructionsAct : Prop :=
  (∀ (u : Fin 32) (f : SyFields) (h c : Nat) (s : State), s.issues u.val (.sySignal u f) = true → h = s.hrOn u.val →
    c = syCue u.val f s → 256 ≤ c → s.mayCue h c 1 = true → s.cueFaulted c = false → isBarrier (s.cueCfg c) = false →
    cfgNotify (s.cueCfg c) = false → s.cues.waiters = [] → s.noTriggers c → s.cueCount 0 c + f.n.toNat ≤ 0xFFFFFFFF →
    Completes (.sySignal u f) s fun t => GoesOn u.val { s with cues := t.cues } t ∧
      t.cueCount 0 c = s.cueCount 0 c + f.n.toNat ∧ ∀ h' k, k ≠ c → t.cueCount h' k = s.cueCount h' k) ∧
  (∀ (u : Fin 32) (f : SyFields) (h c : Nat) (s : State), s.issues u.val (.sySet u f) = true → h = s.hrOn u.val →
    c = syCue u.val f s → 256 ≤ c → s.mayCue h c 5 = true → s.cueFaulted c = false → isBarrier (s.cueCfg c) = false →
    cfgNotify (s.cueCfg c) = false → s.cues.waiters = [] → s.noTriggers c →
    Completes (.sySet u f) s fun t => GoesOn u.val { s with cues := t.cues } t ∧ t.cueCount 0 c = f.n.toNat ∧
      ∀ h' k, k ≠ c → t.cueCount h' k = s.cueCount h' k) ∧
  (∀ (u : Fin 32) (f : SyFields) (h c : Nat) (s : State), s.issues u.val (.syTest u f) = true → h = s.hrOn u.val →
    c = syCue u.val f s → s.mayCue h c 4 = true → s.cueFaulted c = false →
    Completes (.syTest u f) s fun t => Chose u.val s t ∧ (t.tile u.val).pc = s.pcAfter u.val ∧
      t.getS u.val f.sreg.toNat = if f.sreg = 0 then 0 else word (s.cueCount h c)) ∧
  (∀ (u : Fin 32) (f : SyFields) (h c : Nat) (s : State), s.issues u.val (.syTake u f) = true → h = s.hrOn u.val →
    c = syCue u.val f s → s.mayCue h c 6 = true → s.cueFaulted c = false → (256 ≤ c → isBarrier (s.cueCfg c) = false) →
    s.cueList h c = [] →
    Completes (.syTake u f) s fun t => Chose u.val { s with cues := t.cues } t ∧ (t.tile u.val).pc = s.pcAfter u.val ∧
      (t.getS u.val f.sreg.toNat = if f.sreg = 0 then 0 else word (s.cueCount h c)) ∧ t.cueCount h c = 0 ∧
      t.cues.waiters = s.cues.waiters ∧ ∀ h' k, k ≠ c → t.cueCount h' k = s.cueCount h' k) ∧
  (∀ (u : Fin 32) (f : SyFields) (h c : Nat) (s : State), s.issues u.val (.syWait u f) = true → h = s.hrOn u.val →
    c = syCue u.val f s → s.mayCue h c 2 = true → s.cueFaulted c = false → (256 ≤ c → isBarrier (s.cueCfg c) = false) →
    s.cueList h c = [] → f.n.toNat ≤ s.cueCount h c →
    Completes (.syWait u f) s fun t => GoesOn u.val { s with cues := t.cues } t ∧
      t.cueCount h c = s.cueCount h c - f.n.toNat ∧ ∀ h' k, k ≠ c → t.cueCount h' k = s.cueCount h' k) ∧
  (∀ (u : Fin 32) (f : SyFields) (h c : Nat) (s : State), s.issues u.val (.syWait u f) = true → h = s.hrOn u.val →
    c = syCue u.val f s → s.mayCue h c 2 = true → s.cueFaulted c = false → (256 ≤ c → isBarrier (s.cueCfg c) = false) →
    s.cueCount h c < f.n.toNat → s.poolUsed h < s.regF (hrP h) 0x0C8 31 16 → s.cues.waiters.length < 8192 →
    Completes (.syWait u f) s fun t => OnlyTile u.val { s with cues := t.cues } t ∧ (t.tile u.val).pc = (s.tile u.val).pc ∧
      (t.tile u.val).wait = .cue f.st f.sreg.toNat false ∧ (t.tile u.val).waitSince = now s ∧
      t.cues = { s.cues with waiters := s.cues.waiters ++
        [Waiter.mk c h (.tile u) f.n.toNat (now s + 1000 * s.waitUs h f.timeout.toNat) 0] }) ∧
  (∀ (u : Fin 32) (f : SyFields) (h c : Nat) (s : State), s.issues u.val (.syWaitany u f) = true → h = s.hrOn u.val →
    c = (s.getS u.val 1).toNat % 0x10000 → c ≠ 0 → s.mayCue h c 2 = true → s.cueFaulted c = false →
    (256 ≤ c → isBarrier (s.cueCfg c) = false) → s.cueList h c = [] → f.n.toNat ≤ s.cueCount h c →
    Completes (.syWaitany u f) s fun t => Chose u.val { s with cues := t.cues } t ∧ (t.tile u.val).pc = s.pcAfter u.val ∧
      (t.tile u.val).wait = .none ∧ t.getS u.val f.sreg.toNat = 0 ∧ t.cueCount h c = s.cueCount h c - f.n.toNat ∧
      ∀ h' k, k ≠ c → t.cueCount h' k = s.cueCount h' k) ∧
  (∀ (u : Fin 32) (f : SyFields) (h c : Nat) (s : State), s.issues u.val (.syArrive u f) = true → h = s.hrOn u.val →
    c = syCue u.val f s → 256 ≤ c → s.mayCue h c 3 = true → s.cueFaulted c = false → isBarrier (s.cueCfg c) = true →
    s.cueCount 0 c + 1 < cfgArg (s.cueCfg c) → s.poolUsed h < s.regF (hrP h) 0x0C8 31 16 → s.cues.waiters.length < 8192 →
    Completes (.syArrive u f) s fun t => OnlyTile u.val { s with cues := t.cues } t ∧ (t.tile u.val).pc = (s.tile u.val).pc ∧
      (t.tile u.val).wait = .cue f.st f.sreg.toNat false ∧ t.cueCount 0 c = s.cueCount 0 c + 1 ∧
      t.cues.waiters.length = s.cues.waiters.length + 1 ∧ ∀ h' k, k ≠ c → t.cueCount h' k = s.cueCount h' k) ∧
  (∀ (u : Fin 32) (f : SyFields) (s : State), s.issues u.val (.syFence u f) = true → Completes (.syFence u f) s fun t => GoesOn u.val s t) ∧
  (∀ (u : Fin 32) (first count1 : BitVec 13) (v : BitVec 2) (s : State), s.issues u.val (.syTags u first count1 v) = true →
    Completes (.syTags u first count1 v) s fun t => GoesOn u.val { s with sram := { s.sram with tags := t.sram.tags } } t ∧
      ∀ w k, w < 32 → k < 8192 → t.tag w k =
        if w = u.val ∧ first.toNat ≤ k ∧ k ≤ first.toNat + count1.toNat then v.toNat else s.tag w k)

/-- The CT instructions on scalars set their registers, s0 keeping 0; branches and loops move the program counter (R231). -/
def Obligations.ScalarsAndBranches : Prop :=
  (∀ (u : Fin 32) (f : CtFields) (s : State), s.issues u.val (.ctSets u f) = true →
    Completes (.ctSets u f) s fun t => GoesOn u.val s t ∧
      t.getS u.val f.rd.toNat = (if f.rd = 0 then 0 else word (f.imm.toNat % 2 ^ 32)) ∧
      ∀ r, r ≠ f.rd.toNat → t.getS u.val r = s.getS u.val r) ∧
  (∀ (u : Fin 32) (op : CtAluOp) (f : CtFields) (s : State), s.issues u.val (.ctAlu u op f) = true →
    Completes (.ctAlu u op f) s fun t => GoesOn u.val s t ∧
      t.getS u.val f.rd.toNat = (if f.rd = 0 then 0 else ctAluWord op (s.getS u.val f.ra.toNat) (s.getS u.val f.rb.toNat)) ∧
      ∀ r, r ≠ f.rd.toNat → t.getS u.val r = s.getS u.val r) ∧
  (∀ (u : Fin 32) (f : CtFields) (s : State), s.issues u.val (.ctBr u f) = true →
    ctCond f.cond.toNat (s.getS u.val f.ra.toNat) (s.getS u.val f.rb.toNat) = some true →
    Completes (.ctBr u f) s fun t => OnlyTile u.val s t ∧ (t.tile u.val).pc = f.imm.toNat % 2 ^ 20 ∧
      (t.tile u.val).loops = (s.tile u.val).loops ∧ ∀ r, t.getS u.val r = s.getS u.val r) ∧
  (∀ (u : Fin 32) (f : CtFields) (s : State), s.issues u.val (.ctBr u f) = true →
    ctCond f.cond.toNat (s.getS u.val f.ra.toNat) (s.getS u.val f.rb.toNat) = some false →
    Completes (.ctBr u f) s fun t => GoesOn u.val s t ∧ ∀ r, t.getS u.val r = s.getS u.val r) ∧
  (∀ (u : Fin 32) (f : CtFields) (s : State), s.issues u.val (.ctLoop u f) = true → f.imm.toNat % 2 ^ 20 ≠ 0 →
    s.getS u.val f.ra.toNat = 0 →
    Completes (.ctLoop u f) s fun t => OnlyTile u.val s t ∧ (t.tile u.val).pc = (s.tile u.val).pc + 1 + f.imm.toNat % 2 ^ 20) ∧
  (∀ (u : Fin 32) (f : CtFields) (s : State), s.issues u.val (.ctLoop u f) = true → f.imm.toNat % 2 ^ 20 ≠ 0 →
    s.getS u.val f.ra.toNat ≠ 0 →
    Completes (.ctLoop u f) s fun t => OnlyTile u.val s t ∧ (t.tile u.val).pc = (s.tile u.val).pc + 1 ∧
      tabGet LoopCtr.zero (t.tile u.val).loops (f.imm.toNat / 0x100000 % 4) =
        ⟨(s.getS u.val f.ra.toNat).toNat, (s.tile u.val).pc + 1, (s.tile u.val).pc + 1 + f.imm.toNat % 2 ^ 20⟩) ∧
  (∀ (u : Fin 32) (f : CtFields) (s : State), s.issues u.val (.ctLoop u f) = true → f.imm.toNat % 2 ^ 20 = 0 →
    Completes (.ctLoop u f) s fun t => GoesOn u.val s t) ∧
  (∀ (u : Fin 32) (f : CtFields) (s : State), s.issues u.val (.ctPhase u f) = true → bankMapOk (word (f.imm.toNat % 2 ^ 32)) = true →
    Completes (.ctPhase u f) s fun t => OnlyTile u.val s t ∧ (t.tile u.val).pc = (s.tile u.val).pc ∧
      (t.tile u.val).wait = .phase (word (f.imm.toNat % 2 ^ 32))) ∧
  (∀ (u : Fin 32) (f : CtFields) (p : Part) (s : State), s.issues u.val (.ctTid u f) = true → s.partOn u.val = some p →
    f.rd.toNat ≠ 0 → f.rd.toNat + 2 < 16 →
    Completes (.ctTid u f) s fun t => GoesOn u.val s t ∧ t.getS u.val f.rd.toNat = word (s.tile u.val).position ∧
      t.getS u.val (f.rd.toNat + 1) = word p.group.length ∧ t.getS u.val (f.rd.toNat + 2) = word (s.hrOn u.val))

/-- A yield point without a switch or a stop is passed (R224); CT.END ends the activation on its tile (R228); CT.MTN reads the
Metronome and counts as a choice (R238); scalar loads and stores reach the Commons word their address names. Alignment and
register order are the model's reading (log entry 67). -/
def Obligations.YieldsEndsAndScalarAccesses : Prop :=
  (∀ (u : Fin 32) (f : CtFields) (p : Part) (s : State), s.issues u.val (.ctYield u f) = true → s.partOn u.val = some p →
    f.imm.toNat % 2 ^ 8 < s.readNat (p.image + 0x38) 4 % 0x10000 → s.errFree (p.image + 0x38) 4 = true →
    s.rangePoison (p.image + 0x38) 4 = false → s.actStopping u.val = false → s.switchPending u.val = false →
    (∀ k ∈ p.group, (s.tile k).wait.atBarrier = false) →
    Completes (.ctYield u f) s fun t => (t.tile u.val).pc = s.pcAfter u.val ∧ (t.tile u.val).act = (s.tile u.val).act ∧
      (t.tile u.val).wait = .none ∧ (t.tile u.val).lastYield = now s ∧
      t.regN (tileP u.val) 0x098 = min (max (s.regN (tileP u.val) 0x098) (now s - (s.tile u.val).lastYield)) 0xFFFFFFFF ∧
      Beside [] [regKey (tileP u.val) 0x070, regKey (tileP u.val) 0x098] { s with tiles := t.tiles } t ∧
      ∀ k, k ≠ u.val → t.tile k = s.tile k) ∧
  (∀ (u : Fin 32) (f : CtFields) (s : State), s.issues u.val (.ctEnd u f) = true → (s.tile u.val).leaving = false →
    s.tilePlaced u.val = true → s.pageState (hrP (s.tileHr u.val)) ≠ .idle →
    Completes (.ctEnd u f) s fun t => (t.tile u.val).act = none ∧
      t.regN (tileP u.val) 0x09C = min (s.regN (tileP u.val) 0x09C + 1) 0xFFFFFFFF ∧ bit (t.reg (tileP u.val) 0x048) 31 = false ∧
      Beside [] [regKey (tileP u.val) 0x070, regKey (tileP u.val) 0x09C, regKey (tileP u.val) 0x098, regKey (tileP u.val) 0x048,
        regKey (tileP u.val) 0x04C, regKey (tileP u.val) 0x050] { s with tiles := t.tiles, hrs := t.hrs } t ∧
      ∀ k, k ≠ u.val → t.tile k = s.tile k) ∧
  (∀ (u : Fin 32) (f : CtFields) (s : State), s.issues u.val (.ctMtn u f) = true → f.rd.toNat ≠ 0 → f.rd.toNat ≠ 15 →
    Completes (.ctMtn u f) s fun t => Chose u.val s t ∧ (t.tile u.val).pc = s.pcAfter u.val ∧
      t.getS u.val f.rd.toNat = word (now s % 2 ^ 32) ∧ t.getS u.val (f.rd.toNat + 1) = word (now s / 2 ^ 32)) ∧
  (∀ (u : Fin 32) (f : CtFields) (a : Nat) (s : State), s.issues u.val (.ctLds u f) = true →
    a = ((s.getS u.val f.ra.toNat).toNat + f.imm.toNat) / 4 * 4 → (levelAt s.chip.grade a).isCommons = true →
    s.reachesAll (s.hrOn u.val) a 4 = true → s.errFree a 4 = true → s.sram.flits = [] →
    Completes (.ctLds u f) s fun t => GoesOn u.val s t ∧ t.getS u.val f.rd.toNat = if f.rd = 0 then 0 else s.readWord a) ∧
  (∀ (u : Fin 32) (f : CtFields) (a : Nat) (s : State), s.issues u.val (.ctSts u f) = true →
    a = ((s.getS u.val f.ra.toNat).toNat + f.imm.toNat) / 4 * 4 → (levelAt s.chip.grade a).isCommons = true →
    s.reachesAll (s.hrOn u.val) a 4 = true → s.errFree a 4 = true → s.sram.flits = [] → s.weightGuarded a 4 = false →
    Completes (.ctSts u f) s fun t => GoesOn u.val { s with mem := t.mem, sram := t.sram } t ∧
      t.readWord a = s.getS u.val f.rb.toNat ∧ MemoryOutside a 4 s t)

/-- The CK instructions judge a range of Commons units and set rd: CK.CRC its CRC-32, CK.FIN the elements that are not finite,
CK.BOUND those out of bounds; CK.TRAP on 0 goes on and on anything else ends in the Part image fault 0x68; CK.STAMP stores its
record. The order of the CK.STAMP record is the model's choice (log entry 25), and a NaN counts as outside the bounds (log entry
68). -/
def Obligations.ChecksJudge : Prop :=
  (∀ (u : Fin 32) (f : CkFields) (e : Elem) (a n : Nat) (s : State), s.issues u.val (.ckCrc u f) = true →
    elemOf f.fmt.toNat = some e → f.rd ≠ 0 → a = 64 * (s.getS u.val f.ra.toNat).toNat → n = (s.getS u.val f.rl.toNat).toNat →
    s.cleanUnits (s.hrOn u.val) a n →
    Completes (.ckCrc u f) s fun t => GoesOn u.val s t ∧ t.getS u.val f.rd.toNat = crc32 (s.readBytes a (64 * n))) ∧
  (∀ (u : Fin 32) (f : CkFields) (g : FpFmt) (a n : Nat) (s : State), s.issues u.val (.ckFin u f) = true →
    elemOf f.fmt.toNat = some (.fp g) → f.rd ≠ 0 → a = 64 * (s.getS u.val f.ra.toNat).toNat →
    n = (s.getS u.val f.rl.toNat).toNat → s.cleanUnits (s.hrOn u.val) a n →
    Completes (.ckFin u f) s fun t => GoesOn u.val s t ∧ t.getS u.val f.rd.toNat =
      word ((rangeElems g.width (s.readBytes a (64 * n))).filter fun x => (g.decode x).isNan || (g.decode x).isInf).length) ∧
  (∀ (u : Fin 32) (f : CkFields) (b a n : Nat) (s : State), s.issues u.val (.ckBound u f) = true →
    elemOf f.fmt.toNat = some (.int b) → f.rd ≠ 0 → a = 64 * (s.getS u.val f.ra.toNat).toNat →
    n = (s.getS u.val f.rl.toNat).toNat → s.cleanUnits (s.hrOn u.val) a n →
    Completes (.ckBound u f) s fun t => GoesOn u.val s t ∧ t.getS u.val f.rd.toNat =
      word ((rangeElems b (s.readBytes a (64 * n))).filter fun x =>
        decide (sext b x < sext 32 (s.getS u.val f.rlo.toNat).toNat) ||
        decide (sext 32 (s.getS u.val f.rhi.toNat).toNat < sext b x)).length) ∧
  (∀ (u : Fin 32) (f : CkFields) (s : State), s.issues u.val (.ckTrap u f) = true → s.getS u.val f.rd.toNat = 0 →
    Completes (.ckTrap u f) s fun t => GoesOn u.val s t) ∧
  (∀ (u : Fin 32) (f : CkFields) (s : State), s.issues u.val (.ckTrap u f) = true → s.getS u.val f.rd.toNat ≠ 0 →
    Completes (.ckTrap u f) s fun t => (t.tile u.val).act = none ∧ t.regF (tileP u.val) 0x084 31 24 = 0x68 ∧
      (t.page (tileP u.val)).pend.getLsbD 3 = true ∧ (t.page (tileP u.val)).pend.getLsbD 6 = true ∧
      (s.hrOn u.val = 0 → t.mem = s.mem)) ∧
  (∀ (u : Fin 32) (f : CkFields) (p : Part) (x : Activation) (a : Nat) (s : State), s.issues u.val (.ckStamp u f) = true →
    s.partOn u.val = some p → p.act = some x → a = 64 * (s.getS u.val f.ra.toNat).toNat → s.cleanUnits (s.hrOn u.val) a 1 →
    s.reachesAll (s.hrOn u.val) a 32 = true → s.weightGuarded a 32 = false →
    Completes (.ckStamp u f) s fun t => GoesOn u.val { s with mem := t.mem, sram := t.sram } t ∧ t.sram.tags = s.sram.tags ∧
      t.readBytes a 32 = stampRecord p.partId x.number (now s) (s.getS u.val f.rd.toNat) ∧ MemoryOutside a 32 s t)

/-! ## Tiles and Sections (chapters 6 and 7) -/

/-- A ready activation of a Part of one free tile is dispatched (R63): it starts at instruction 0 with its scalars cleared, or
resumes with what its context saved (R221, R225). One that is to stop leaves its tile at a stop point (R226). A tile that waits
at a yield point goes on where no switch is pending any more. Where one is, the group, here of one tile, saves its context with
the index of the next instruction and leaves the tile; where the activation is to stop, it stops (R224 to R226). How an old
activation leaves and what its scratchpads hold afterwards are log entries 43 and 152. -/
def Obligations.ActivationsStartAndLeave : Prop :=
  (∀ (h : Fin 8) (i : Nat) (u : Fin 32) (p : Part) (a : Activation) (e : Nat) (s : State), s.part? h.val i = some p → p.act = some a →
    p.group = [u.val] → a.onTiles = false → a.stopping = false → a.saved = none → p.unfit = false → p.throttled = false →
    s.rivals h.val i p.group = [] → (s.tile u.val).act = none → (s.tile u.val).leaving = false →
    s.pageState (tileP u.val) = .running → s.dyn.tripped = false → s.inState (hrP h.val) activeStates = true →
    e = p.image + s.readNat (p.image + 0x28) 4 → s.sram.poison = [] → s.sram.errs = [] → s.sram.condemned = [] →
    (∀ r ∈ (s.tile u.val).touched, r.1 + r.2 ≤ 0x2000000) → 0x2000000 ≤ p.image →
    Completes (.activationDispatch h i) s fun t => (t.tile u.val).act = some (h.val, i) ∧ (t.tile u.val).pc = 0 ∧
      (∀ r, t.getS u.val r = 0) ∧ (t.tile u.val).wait = .none ∧ (t.tile u.val).prog = p.image + s.readNat e 4 ∧
      (t.tile u.val).progLen = s.readNat (e + 4) 4 % 0x200000 ∧ t.regN (tileP u.val) 0x048 = 0x80000000 + i % 0x10000 ∧
      t.reg64 (tileP u.val) 0x090 = p.image % 2 ^ 64 ∧ (∃ q b, t.part? h.val i = some q ∧ q.act = some b ∧ b.onTiles = true) ∧
      (∀ x, 0x2000000 ≤ x → t.readByte x = s.readByte x) ∧ t.sram.tags = s.sram.tags ∧
      Beside [] ([0x048, 0x090, 0x094].map (regKey (tileP u.val)))
        { s with tiles := t.tiles, hrs := t.hrs, mem := t.mem, sram := t.sram } t ∧
      ∀ k, k ≠ u.val → t.tile k = s.tile k) ∧
  (∀ (h : Fin 8) (i k c : Nat) (u : Fin 32) (p : Part) (a : Activation) (s : State), s.part? h.val i = some p → p.act = some a →
    p.group = [u.val] → a.onTiles = false → a.stopping = false → a.saved = some k → p.unfit = false → p.throttled = false →
    s.rivals h.val i p.group = [] → (s.tile u.val).act = none → (s.tile u.val).leaving = false →
    s.pageState (tileP u.val) = .running → s.dyn.tripped = false → s.inState (hrP h.val) activeStates = true →
    c = p.image + s.readNat (p.image + 8) 4 → s.sram.poison = [] → s.sram.errs = [] → s.sram.condemned = [] →
    (∀ r ∈ (s.tile u.val).touched, r.1 + r.2 ≤ 0x2000000) → 0x2000000 ≤ p.image →
    Completes (.activationDispatch h i) s fun t => (t.tile u.val).act = some (h.val, i) ∧ (t.tile u.val).pc = s.readNat c 4 ∧
      t.regN (tileP u.val) 0x0C0 = s.readNat (c + 112) 4 ∧ (∀ r, t.getS u.val r = 0) ∧ (t.tile u.val).wait = .none ∧
      (∀ x, 0x2000000 ≤ x → t.readByte x = s.readByte x) ∧
      Beside [] ([0x048, 0x090, 0x094, 0x0C0].map (regKey (tileP u.val)))
        { s with tiles := t.tiles, hrs := t.hrs, mem := t.mem, sram := t.sram } t ∧
      ∀ k, k ≠ u.val → t.tile k = s.tile k) ∧
  (∀ (u : Fin 32) (s : State), s.actStopping u.val = true → stopPoint (s.tile u.val).wait = true → (s.tile u.val).leaving = false →
    (s.tile u.val).act.isSome = true →
    Completes (.activationStop u) s fun t => (t.tile u.val).act = none ∧ (t.tile u.val).wait = .none ∧
      bit (t.reg (tileP u.val) 0x048) 31 = false ∧
      t.reg64 (tileP u.val) 0x04C = (s.reg64 (tileP u.val) 0x04C + (now s - (s.tile u.val).since)) % 2 ^ 64 ∧
      (∀ w ∈ t.cues.waiters, w.who ≠ .tile u) ∧ (∀ h' k, t.cueCount h' k = s.cueCount h' k) ∧
      Beside [tileP u.val] ([0x048, 0x04C, 0x050].map (regKey (tileP u.val)))
        { s with tiles := t.tiles, hrs := t.hrs, cues := t.cues } t ∧
      ∀ k, k ≠ u.val → t.tile k = s.tile k) ∧
  (∀ (h : Fin 8) (i k : Nat) (u : Fin 32) (p : Part) (s : State), s.part? h.val i = some p → p.group = [u.val] →
    (s.tile u.val).wait = .barrier k → (s.tile u.val).act = some (h.val, i) → s.actStopping u.val = false →
    s.switchPending u.val = false →
    Completes (.yieldBarrierRelease h i) s fun t => GoesOn u.val s t) ∧
  (∀ (h : Fin 8) (i k c n : Nat) (u : Fin 32) (p : Part) (s : State), s.part? h.val i = some p → p.group = [u.val] →
    (s.tile u.val).wait = .barrier k → (s.tile u.val).act = some (h.val, i) → s.actStopping u.val = false →
    s.switchPending u.val = true → (s.tile u.val).position = 0 → c = p.image + s.readNat (p.image + 8) 4 →
    n = (s.saveSlots p.image k).length → s.sram.errs = [] → s.sram.condemned = [] → s.sram.poison = [] →
    (p.image + s.readNat (p.image + 0x34) 4 + 16 * k + 16 ≤ c) → p.image + 0x80 ≤ c → 0x2000000 ≤ c →
    Completes (.yieldBarrierRelease h i) s fun t => (t.tile u.val).act = none ∧ (t.tile u.val).wait = .none ∧
      (∃ q b, t.part? h.val i = some q ∧ q.act = some b ∧ b.saved = some k ∧ b.onTiles = false) ∧
      t.readBytes c 4 = leBytes 4 (s.pcAfter u.val) ∧
      (∀ r, r < 15 → t.readBytes (c + 4 + 4 * r) 4 = leBytes 4 (s.getS u.val (r + 1)).toNat) ∧
      MemoryOutside c (256 + 128 * n + (n + 3) / 4) s t ∧ t.sram.tags = s.sram.tags ∧
      Beside [] ([0x048, 0x04C, 0x050, 0x070].map (regKey (tileP u.val)))
        { s with tiles := t.tiles, hrs := t.hrs, mem := t.mem, sram := t.sram } t ∧
      ∀ k, k ≠ u.val → t.tile k = s.tile k) ∧
  (∀ (h : Fin 8) (i k : Nat) (u : Fin 32) (p : Part) (s : State), s.part? h.val i = some p → p.group = [u.val] →
    (s.tile u.val).wait = .barrier k → (s.tile u.val).act = some (h.val, i) → s.actStopping u.val = true →
    (s.tile u.val).leaving = false →
    Completes (.yieldBarrierRelease h i) s fun t => (t.tile u.val).act = none ∧
      Beside [tileP u.val] ([0x048, 0x04C, 0x050].map (regKey (tileP u.val))) { s with tiles := t.tiles, hrs := t.hrs } t ∧
      ∀ k, k ≠ u.val → t.tile k = s.tile k)

/-- INJECT_CK arms one mismatch (R214); BIST takes the tiles it names; BIST_COMPLETE leaves the scratchpads of the tiles it
tested reading 0 with EMPTY tags, shows what passed, and excuses what did not (R216, R208). A wait for a tag, for the Section
network or at a yield barrier that lasts its stall timeout ends in a Part image fault, with TILE_STALL_INFO, at the Metronome
value of the timeout (R233, R235); a tile whose hardware stalls is Excused (R234, R208). -/
def Obligations.TilesAreTestedAndStall : Prop :=
  (∀ (r : Requester) (u : Fin 32) (arg : BitVec 24) (s : State), s.commands r (tileP u.val) = true →
    s.inState (tileP u.val) [.idle, .running] = true → s.anyTorque = false → (s.tile u.val).inject = none →
    arg.toNat / 256 % 64 ≤ 32 →
    Completes (.injectCk r u arg) s fun t => t.resultCode (tileP u.val) = 2 ∧
      (t.tile u.val).inject = some (arg.toNat % 64, arg.toNat / 256 % 64) ∧ Beside [tileP u.val] [] { s with tiles := t.tiles } t ∧
      ∀ k, k ≠ u.val → t.tile k = s.tile k) ∧
  (∀ (r : Requester) (q : Fin 4) (arg : BitVec 24) (s : State), s.commands r (sectP q.val) = true →
    s.pageState (sectP q.val) = .running → arg.toNat % 256 ≠ 0 →
    (∀ k, k < 8 → (arg.toNat % 256).testBit k = true → s.isExcused (8 * q.val + k) = false ∧ s.pageState (tileP (8 * q.val + k)) = .idle) →
    Completes (.bist r q arg) s fun t => t.resultCode (sectP q.val) = 1 ∧ (t.page (sectP q.val)).pending.isSome = true ∧
      (∀ k, k < 8 → (t.tile (8 * q.val + k)).underBist = ((arg.toNat % 256).testBit k || (s.tile (8 * q.val + k)).underBist)) ∧
      Beside [sectP q.val] [] { s with tiles := t.tiles } t ∧ ∀ k, k / 8 ≠ q.val → t.tile k = s.tile k) ∧
  (∀ (q : Fin 4) (passed : BitVec 8) (failMap : BitVec 28) (c : PendCmd) (s : State),
    (∃ k, k < 8 ∧ (s.tile (8 * q.val + k)).underBist = true) →
    (∀ k, k < 8 → (s.tile (8 * q.val + k)).underBist = true → passed.getLsbD k = true) → (s.page (sectP q.val)).pending = some c →
    Completes (.bistComplete q passed failMap) s fun t => t.resultCode (sectP q.val) = 2 ∧ (t.page (sectP q.val)).pending = none ∧
      (t.page (sectP q.val)).pend.getLsbD 0 = true ∧ t.regF (sectP q.val) 0x04C 7 0 = t.regF (sectP q.val) 0x04C 15 8 ∧
      (∀ k, k < 8 → (s.tile (8 * q.val + k)).underBist = true → bit (t.reg (sectP q.val) 0x04C) (8 + k) = true ∧
        (t.tile (8 * q.val + k)).underBist = false ∧ t.regN (tileP (8 * q.val + k)) 0x06C = 0x10000000 ∧
        (∀ j, j < 8192 → t.tag (8 * q.val + k) j = 0) ∧
        ∀ x, x / 0x100000 = 8 * q.val + k → t.readByte x = memReset) ∧
      (∀ x, (x / 0x800000 ≠ q.val ∨ (s.tile (x / 0x100000)).underBist = false) → t.readByte x = s.readByte x)) ∧
  (∀ (q : Fin 4) (passed : BitVec 8) (failMap : BitVec 28) (k : Nat) (s : State), k < 8 →
    (∀ j, j < 8 → (s.tile (8 * q.val + j)).underBist = decide (j = k)) → passed.getLsbD k = false →
    (presentBits s.chip.grade).contains (8 * q.val + k) = true → s.isExcused (8 * q.val + k) = false →
    Completes (.bistComplete q passed failMap) s fun t => t.isExcused (8 * q.val + k) = true ∧
      t.regN (tileP (8 * q.val + k)) 0x06C = 0x20000000 + failMap.toNat) ∧
  (∀ (u : Fin 32) (w : TileWait) (info code : Nat) (s : State), (s.tile u.val).wait = w → (s.tile u.val).act.isSome = true →
    s.actStopping u.val = false → s.inState (tileP u.val) [.running, .hold] = true →
    ((∃ k, k < 8192 ∧ w = .tag false clsWide k ∧ info = 0x10000000 + clsWide * 0x1000000 + k ∧ code = 0x63) ∨
     (∃ k, k < 8192 ∧ w = .tag true clsNarrow k ∧ info = 0x20000000 + clsNarrow * 0x1000000 + k ∧ code = 0x63) ∨
     w = .sectionNet ∧ info = 0x30000000 ∧ code = 0x64 ∨ w.atBarrier = true ∧ info = 0x40000000 ∧ code = 0x64) →
    Completes (.stallTimeout u) s fun t => t.pageState (tileP u.val) = .fault ∧ (t.tile u.val).act = none ∧
      t.regN (tileP u.val) 0x07C = info ∧ t.regF (tileP u.val) 0x084 31 24 = code ∧
      t.regF (tileP u.val) 0x084 19 0 = (s.tile u.val).pc % 0x100000 ∧ (t.page (tileP u.val)).pend.getLsbD 3 = true ∧
      (t.page (tileP u.val)).pend.getLsbD 4 = true ∧
      t.mtn = BitVec.ofNat 64 (max (now s) ((s.tile u.val).waitSince + 1000 * (s.tile u.val).waitUs)) ∧
      (s.hrOn u.val = 0 → t.mem = s.mem)) ∧
  (∀ (u : Fin 32) (s : State), s.canIssue u.val = true → (presentBits s.chip.grade).contains u.val = true →
    s.isExcused u.val = false → present s.chip.grade (tileP u.val) = true →
    Completes (.hardwareStall u) s fun t => t.isExcused u.val = true ∧ t.pageState (tileP u.val) = .excused ∧
      (t.tile u.val).act = none ∧ t.regN (sectP (u.val / 8)) 0x054 = u.val * 0x1000000 + 0x40000)

/-! ## Sensors and engines (chapters 8 and 9) -/

/-- A frame begins with its frame start packet, gathers its line packets, and with its frame end waits for its commit; a frame
start that no Pixel Front End takes is counted and discarded, as is every packet that is none of the stream's (R246 to R248,
R252). A header that is corrected counts for the packet it heads. The errors of Table 8-2, each with its kind: a header that
cannot be corrected, a line with a bad CRC, a frame without its end, a camera without a frame, a lost PHY. The first error of a
frame drops it and counts it (R249). A frame whose rows are all written commits: its header is stored with SEQ and the stamps of
its start and end, PFE_SEQ and CAM_FRAMES count it and it is over (R257); a sample of the memory source starts with the index,
epoch and position its registers give and the lines its rows hold (R258). What further errors of a frame count is the reading of
log entry 155; line packing comes from the MIPI family (log entry 30). -/
def Obligations.FramesAreGatheredAndCommitted : Prop :=
  (∀ (n : Fin 12) (fn : BitVec 16) (hdr : CsiHeader) (s : State), s.camOn n.val = true → hdr.ecc ≠ .double → hdr.parity = false →
    s.camTakes n.val = true → (s.cam n.val).frame = none → (s.cam n.val).camQuiescing = false → (s.cam n.val).pfeQuiescing = false →
    s.sram.condemned = [] →
    Completes (.csiFrameStart n fn hdr) s fun t => t.regN (camP n.val) 0x064 = fn.toNat ∧ now t = max (now s) hdr.time.toNat ∧
      ∃ f, (t.cam n.val).frame = some f ∧ f.fn = fn.toNat ∧ f.fs = hdr.time.toNat - s.regF (camP n.val) 0x04C 15 0 ∧
        f.discard = false ∧ f.lines = [] ∧ f.got = 0) ∧
  (∀ (n : Fin 12) (fn : BitVec 16) (hdr : CsiHeader) (s : State), s.camOn n.val = true → hdr.ecc = .clean → hdr.parity = false →
    s.pageState (camP n.val) = .running → s.pageState (pfeP n.val) ≠ .running → (s.cam n.val).frame = none →
    Completes (.csiFrameStart n fn hdr) s fun t => t.regN (camP n.val) 0x064 = fn.toNat ∧
      t.regF (camP n.val) 0x068 15 0 = min (s.regF (camP n.val) 0x068 15 0 + 1) 0xFFFF ∧
      (∃ f, (t.cam n.val).frame = some f ∧ f.discard = true) ∧ (∀ k, k ≠ n.val → t.cam k = s.cam k) ∧
      Beside [] [regKey (camP n.val) 0x064, regKey (camP n.val) 0x068] { s with mtn := t.mtn, cams := t.cams } t) ∧
  (∀ (n : Fin 12) (hdr : CsiHeader) (payload : List Byte) (f : CamFrame) (s : State), s.camOn n.val = true → hdr.ecc ≠ .double →
    hdr.parity = false → (s.cam n.val).frame = some f → f.discard = false → f.err = false →
    payload.length = lineBytes (s.camDt n.val) (s.camW n.val) → s.storeUsed n.val < 16 → s.sram.condemned = [] →
    Completes (.csiLinePacket n hdr payload true) s fun t => ∃ g, (t.cam n.val).frame = some g ∧ g.lines = f.lines ++ [payload] ∧
      g.got = f.got + 1 ∧ g.fn = f.fn ∧ g.fs = f.fs ∧ g.discard = false) ∧
  (∀ (n : Fin 12) (fn : BitVec 16) (hdr : CsiHeader) (f : CamFrame) (s : State), s.camOn n.val = true → hdr.ecc = .clean →
    hdr.parity = false → (s.cam n.val).frame = some f → f.discard = false → f.err = false → f.fn = fn.toNat → f.got = s.camH n.val →
    (s.cam n.val).waiting = [] → (s.cam n.val).sample = none → f.started = true → s.regF (pfeP n.val) 0x064 28 16 ≤ f.rows →
    Completes (.csiFrameEnd n fn hdr) s fun t => (t.cam n.val).frame = none ∧
      (t.cam n.val).waiting = [{ f with fe := some (hdr.time.toNat - s.regF (camP n.val) 0x04C 15 0) }] ∧
      (∀ k, k ≠ n.val → t.cam k = s.cam k) ∧ Quiet { s with mtn := t.mtn, cams := t.cams } t) ∧
  (∀ (n : Fin 12) (hdr : CsiHeader) (s : State), s.camOn n.val = true → hdr.ecc = .clean → hdr.parity = false →
    Completes (.csiIgnoredPacket n hdr) s fun t =>
      t.regF (camP n.val) 0x074 15 0 = min (s.regF (camP n.val) 0x074 15 0 + 1) 0xFFFF ∧ now t = max (now s) hdr.time.toNat ∧
      Beside [] [regKey (camP n.val) 0x074] { s with mtn := t.mtn } t) ∧
  (∀ (n : Fin 12) (hdr : CsiHeader) (f : CamFrame) (s : State), s.camOn n.val = true → hdr.ecc = .double → hdr.parity = false →
    s.camTakes n.val = true → (s.cam n.val).frame = some f → f.discard = false → f.err = false →
    Completes (.csiIgnoredPacket n hdr) s fun t => (∃ g, (t.cam n.val).frame = some g ∧ g.err = true ∧ g.lines = f.lines) ∧
      t.regN (camP n.val) 0x06C = 0x10000000 + f.got % 0x1000 * 0x10000 + hdr.bytes01.toNat ∧
      t.regF (camP n.val) 0x068 31 16 = min (s.regF (camP n.val) 0x068 31 16 + 1) 0xFFFF) ∧
  (∀ (n : Fin 12) (hdr : CsiHeader) (payload : List Byte) (f : CamFrame) (s : State), s.camOn n.val = true → hdr.ecc ≠ .double →
    hdr.parity = false → (s.cam n.val).frame = some f → f.discard = false → f.err = false →
    Completes (.csiLinePacket n hdr payload false) s fun t =>
      (∃ g, (t.cam n.val).frame = some g ∧ g.err = true ∧ g.lines = f.lines ∧ g.got = f.got + 1) ∧
      t.regN (camP n.val) 0x06C = 0x20000000 + (f.got + 1) % 0x1000 * 0x10000 + hdr.bytes01.toNat ∧
      t.regF (camP n.val) 0x068 31 16 = min (s.regF (camP n.val) 0x068 31 16 + 1) 0xFFFF ∧
      (t.page (camP n.val)).pend.getLsbD 1 = true) ∧
  (∀ (n : Fin 12) (f : CamFrame) (s : State), (s.cam n.val).frame = some f → f.discard = false → f.err = false →
    Completes (.camNoFeTimeout n) s fun t => (t.cam n.val).frame = none ∧ t.regF (camP n.val) 0x06C 31 28 = 6 ∧
      t.regF (camP n.val) 0x068 31 16 = min (s.regF (camP n.val) 0x068 31 16 + 1) 0xFFFF ∧
      (t.page (camP n.val)).pend.getLsbD 1 = true) ∧
  (∀ (n : Fin 12) (s : State), s.camTakes n.val = true → (s.cam n.val).frame = none →
    Completes (.camNoFrameTimeout n) s fun t => t.regN (camP n.val) 0x06C = 0x70000000 ∧ (t.page (camP n.val)).pend.getLsbD 1 = true ∧
      t.regN (camP n.val) 0x068 = s.regN (camP n.val) 0x068 ∧ t.cams = s.cams) ∧
  (∀ (n : Fin 12) (s : State), s.camTakes n.val = true → (s.cam n.val).frame = none → (s.cam n.val).waiting = [] →
    Completes (.csiPhyLoss n) s fun t => t.regN (camP n.val) 0x06C = 0x80000000 ∧ (t.page (camP n.val)).pend.getLsbD 1 = true ∧
      t.regN (camP n.val) 0x068 = s.regN (camP n.val) 0x068 ∧ t.cams = s.cams) ∧
  (∀ (n : Fin 12) (time : Dword) (f : CamFrame) (a fe : Nat) (s : State), (s.cam n.val).sample = none → (s.cam n.val).waiting = [f] →
    (s.cam n.val).frame = none → f.discard = false → f.err = false → f.sample = none → f.started = true → f.fe = some fe →
    s.regF (pfeP n.val) 0x064 28 16 ≤ f.rows → bit (s.reg (pfeP n.val) 0x090) 31 = false →
    s.grantAddr (s.page (pfeP n.val)).owner (64 * s.regF (pfeP n.val) 0x090 23 0 +
      s.regN (pfeP n.val) 0x0C4 % (s.regF (pfeP n.val) 0x090 30 28 + 1) *
        (64 + s.regF (pfeP n.val) 0x064 28 16 * s.regF (pfeP n.val) 0x094 23 0)) = some a →
    s.cleanUnits (s.page (pfeP n.val)).owner a 1 → s.sram.condemned = [] → s.weightGuarded a 64 = false →
    s.noTriggers (0x10 + n.val) → s.cues.waiters = [] →
    Completes (.pfeFrameCommit n time) s fun t => (t.cam n.val).waiting = [] ∧ (t.cam n.val).frame = none ∧
      t.regN (pfeP n.val) 0x0C4 = (s.regN (pfeP n.val) 0x0C4 + 1) % 0x100000000 ∧
      t.regN (camP n.val) 0x060 = (s.regN (camP n.val) 0x060 + 1) % 0x100000000 ∧
      t.reg64 (camP n.val) 0x050 = f.fs % 2 ^ 64 ∧ t.reg64 (camP n.val) 0x058 = fe % 2 ^ 64 ∧
      t.readNat a 4 = (if (s.cam n.val).seq = 0xFFFFFFFF then 1 else (s.cam n.val).seq + 1) % 0x100000000 ∧
      t.readNat (a + 8) 8 = fe % 2 ^ 64 ∧ t.readNat (a + 16) 8 = f.fs % 2 ^ 64 ∧
      t.readNat (a + 60) 4 = (crc32 (t.readBytes a 60)).toNat ∧ MemoryOutside a 64 s t) ∧
  (∀ (n : Fin 12) (a h cue i epoch j base len : Nat) (s : State), s.pageState (pfeP n.val) = .running → s.pfeMem n.val = true →
    bit (s.reg (pfeP n.val) 0x0A8) 31 = true → (s.cam n.val).sample = none → (s.cam n.val).pfeQuiescing = false →
    h = (s.page (pfeP n.val)).owner → cue = s.regF (pfeP n.val) 0x0A8 15 0 → 0 < s.cueCount h cue →
    s.regF (pfeP n.val) 0x0AC 27 24 = 0 → i = s.regN (pfeP n.val) 0x0C0 → epoch = s.regN (pfeP n.val) 0x0BC →
    j = shuffle i (s.regN (pfeP n.val) 0x0B0) (s.reg64 (pfeP n.val) 0x0B4) epoch →
    base = s.reg64 (pfeP n.val) 0x098 + j * s.regN (pfeP n.val) 0x0A0 → len = (lineBytes (s.pfeSrc n.val).2.2 (s.pfeSrc n.val).1 + 63) / 64 * 64 →
    (∀ y, y < (s.pfeSrc n.val).2.1 → s.reachesAll h (base + y * len) len = true ∧ s.gatedAt (base + y * len) = false ∧
      (levelAt s.chip.grade (base + y * len)).isCommons = true) →
    bit (s.reg (pfeP n.val) 0x090) 31 = false →
    s.grantAddr h (64 * s.regF (pfeP n.val) 0x090 23 0 + s.regN (pfeP n.val) 0x0C4 % (s.regF (pfeP n.val) 0x090 30 28 + 1) *
      (64 + s.regF (pfeP n.val) 0x064 28 16 * s.regF (pfeP n.val) 0x094 23 0)) = some a →
    s.reachesAll h a 64 = true → (levelAt s.chip.grade a).isCommons = true → s.weightGuarded a 64 = false → s.meshOk n.val = true →
    s.sram.errs = [] → s.sram.condemned = [] → s.sram.flits = [] →
    Completes (.pfeSampleStart n) s fun t => t.cueCount h cue = s.cueCount h cue - 1 ∧
      (∃ f, (t.cam n.val).sample = some f ∧ f.sample = some ⟨i, j, epoch, none⟩ ∧ f.started = true ∧ f.err = false ∧
        f.lines = (List.range (s.pfeSrc n.val).2.1).map fun y => s.readBytes (base + y * len) len) ∧
      t.readBytes a 64 = List.replicate 64 0 ∧ MemoryOutside a 64 s t)

/-- The DPP takes the next queue in turn with a job and share left, and consumes its SUBMIT unit (R263); a job whose descriptor
and ranges pass ends with status 1, its list in its place, and counts (R267). The commands of the Codec start the next job of a
queue whose operation is theirs: a job between ranges of SRAM that passes every check joins those in progress and consumes its
SUBMIT unit (R294, R295). CODEC_BLOCK copies the next block of a copy, and after the last one ends the job with status 1 (R296,
R297). Kept jobs and the checks of streams are read as in log entries 75 and 156. -/
def Obligations.EngineJobsRun : Prop :=
  (∀ (h : Nat) (s : State), s.pageState dppP = .running → s.dpp.job = none → s.dpp.quiescing = false → s.sram.errs = [] →
    s.sram.condemned = [] →
    (((List.range 8).map fun k => (s.dpp.last + 1 + k) % 8).find? fun h =>
      s.qEn dppP h && decide (0 < s.cueCount h (s.regF dppP (0x064 + 8 * h) 15 0)) && !s.shareSpent h) = some h →
    Completes .dppJobStart s fun t => t.dpp.last = h ∧
      t.cueCount h (s.regF dppP (0x064 + 8 * h) 15 0) = s.cueCount h (s.regF dppP (0x064 + 8 * h) 15 0) - 1 ∧
      (∃ j, t.dpp.job = some j ∧ j.hr = h ∧ j.index = s.qHead dppP h ∧
        j.desc = s.readGrant h (64 * s.regF dppP (0x060 + 8 * h) 23 0 + 128 * s.qHead dppP h) 128 ∧ j.stopped = false) ∧
      t.regF dppP (0x0A0 + 4 * h) 15 0 = (s.qHead dppP h + 1) % 2 ^ s.regF dppP (0x060 + 8 * h) 27 24 % 0x10000 ∧
      Beside [] [regKey dppP (0x0A0 + 4 * h)] { s with cues := t.cues, dpp := t.dpp } t) ∧
  (∀ (ns : Nat) (j : DppJob) (d : DppDesc) (at' : Nat) (s : State), s.dpp.job = some j → d = parseDpp j.desc → j.stopped = false →
    j.hr < 8 → j.index < 0x10000 → at' = s.qOffset dppP j.hr + 128 * j.index + 0x4C → d.ok = true →
    s.reachesAll j.hr d.src d.srcBytes = true → s.cleanUnits j.hr d.dst (1 + (16 * d.maxDet + 63) / 64) → s.sram.errs = [] →
    s.sram.condemned = [] → s.weightGuarded d.dst (64 + 16 * d.maxDet) = false →
    (∀ k, k < 4 → s.putOpen j.hr (at' + k) = true ∧
      (s.grantAddr j.hr (at' + k)).all (fun a => decide (a < d.dst ∨ d.dst + 64 + 16 * d.maxDet ≤ a)) = true) →
    (d.cue = 0 ∨ s.mayCue j.hr d.cue 1 = true) → s.noTriggers d.cue → s.noTriggers 0x30 → s.cues.waiters = [] →
    Completes (.dppJobEnd ns) s fun t => t.dpp.job = none ∧ t.regN dppP 0x0C8 = 0x10000000 + j.hr * 0x1000000 + j.index ∧
      t.regN dppP 0x0C0 = (s.regN dppP 0x0C0 + 1) % 0x100000000 ∧
      t.regN dppP 0x0C4 = min (s.regN dppP 0x0C4 + ns) 0xFFFFFFFF ∧
      t.readGrant j.hr at' 4 = leBytes 4 (1 + tabGet 0 s.dpp.seqs j.hr % 0x10000 * 0x10000) ∧
      t.readNat d.dst 4 = 0x4C445044 ∧ t.readNat (d.dst + 4) 2 ≤ d.maxDet ∧ t.readNat (d.dst + 6) 2 = d.listId ∧
      (t.hr j.hr).engineUsed = (s.hr j.hr).engineUsed + ns ∧
      ∀ a, (a < d.dst ∨ d.dst + 64 + 16 * d.maxDet ≤ a) → (∀ k, k < 4 → s.grantAddr j.hr (at' + k) ≠ some a) → t.readByte a = s.readByte a) ∧
  (∀ (h : Fin 8) (host : List HostChunk) (d : StreamHead) (s : State), s.codecTakes h.val 1 →
    s.reachesAll h.val (s.codecNext h.val).src 64 = true → parseHead (s.readBytes (s.codecNext h.val).src 64) = some d → d.wpkf = true →
    s.codecFits h.val d → Completes (.decodeWpkf h host) s fun t => CodecStarted h.val (some d) s t) ∧
  (∀ (h : Fin 8) (host : List HostChunk) (d : StreamHead) (s : State), s.codecTakes h.val 2 →
    s.reachesAll h.val (s.codecNext h.val).src 64 = true → parseHead (s.readBytes (s.codecNext h.val).src 64) = some d → d.wpkf = false →
    s.codecFits h.val d → Completes (.decodeApkv h host) s fun t => CodecStarted h.val (some d) s t) ∧
  (∀ (h : Fin 8) (host : List HostChunk) (s : State), s.codecTakes h.val 3 →
    s.reachesAll h.val (s.codecNext h.val).src (s.codecNext h.val).raw = true →
    s.reachesAll h.val (s.codecNext h.val).dstAt (s.codecNext h.val).limit = true →
    Completes (.encodeApkv h host) s fun t => CodecStarted h.val none s t) ∧
  (∀ (h : Fin 8) (host : List HostChunk) (s : State), s.codecTakes h.val 4 →
    s.reachesAll h.val (s.codecNext h.val).src (s.codecNext h.val).raw = true →
    s.reachesAll h.val ((s.codecNext h.val).dstAt + 4096 * (s.codecNext h.val).first) (s.codecNext h.val).raw = true →
    Completes (.copyBlocks h host) s fun t => CodecStarted h.val none s t) ∧
  (∀ (ns : Nat) (host : List HostChunk) (h : Fin 8) (j : CodecJob) (a b n : Nat) (s : State), s.pageState codecP = .running →
    s.codec.jobs = [j] → j.hr = h.val → j.index < 0x10000 → j.stopped = false → j.op = 4 → j.head = none → j.next < j.past →
    j.srcHost = false → j.dstHost = false → j.bankEn = false → j.fill = false → j.poisoned = false →
    s.shareSpent h.val = false → (∀ k, k < 8 → k ≠ h.val → s.codecReady k = false) → a = j.src + 4096 * j.next →
    b = j.dst + 4096 * (j.first + j.next) → n = min 4096 (j.raw - 4096 * j.next) → s.reachesAll h.val a n = true →
    s.cleanUnits h.val b ((n + 63) / 64) → s.sram.errs = [] → s.sram.condemned = [] → s.sram.poison = [] →
    (levelAt s.chip.grade a).isCommons = true → s.weightGuarded b (64 * ((n + 63) / 64)) = false →
    (j.next + 1 < j.past ∨ (∀ k, k < 12 → s.putOpen h.val (j.at' + 0x24 + k) = true ∧
      (s.grantAddr h.val (j.at' + 0x24 + k)).all (fun x => decide (x < b ∨ b + n ≤ x)) = true) ∧
      (j.cue = 0 ∨ s.mayCue h.val j.cue 1 = true) ∧ s.noTriggers j.cue ∧ s.noTriggers 0x31 ∧ s.cues.waiters = []) →
    Completes (.codecBlock ns host) s fun t => t.codec.last = h.val ∧ t.readBytes b n = s.readBytes a n ∧
      (if j.next + 1 < j.past then (∃ k, t.codec.jobs = [k] ∧ k.next = j.next + 1 ∧ k.past = j.past ∧ k.bytes = j.bytes + n) ∧
          MemoryOutside b n s t
        else t.codec.jobs = [] ∧ t.regN codecP 0x0C8 = 0x10000000 + h.val * 0x1000000 + j.index ∧
          t.readGrant h.val (j.at' + 0x24) 8 =
            leBytes 4 (1 + (tabGet 0 s.codec.seqs h.val + 1) % 0x10000 * 0x10000) ++ leBytes 4 (j.bytes + n) ∧
          ∀ x, (x < b ∨ b + n ≤ x) → (∀ k, k < 12 → s.grantAddr h.val (j.at' + 0x24 + k) ≠ some x) → t.readByte x = s.readByte x) ∧
      (t.hr h.val).engineUsed = (s.hr h.val).engineUsed + ns)

/-- BUILD_BEGIN clears every build bit and starts a new epoch (R272); SEGUE of a bank that is built, with ticks running, is
accepted and waits for a Bar (R273). The readings of VALID and of the switch are log entries 73 and 74. -/
def Obligations.WeightsAreBuiltAndSwitched : Prop :=
  (∀ (r : Requester) (k : Fin 8) (s : State), s.commands r (weightP k.val) = true →
    s.inState (weightP k.val) [.armed, .running] = true →
    Completes (.buildBegin r k 0) s fun t => t.resultCode (weightP k.val) = 2 ∧ (t.bank k.val).bits = [] ∧
      (t.bank k.val).epoch = (s.bank k.val).epoch + 1 ∧ t.regN (weightP k.val) 0x070 = 0 ∧
      Beside [weightP k.val] [regKey (weightP k.val) 0x070] { s with banks := t.banks } t ∧ ∀ j, j ≠ k.val → t.bank j = s.bank j) ∧
  (∀ (r : Requester) (k : Fin 8) (s : State), s.commands r (weightP k.val) = true →
    s.inState (weightP k.val) [.armed, .running] = true →
    s.regF (weightP k.val) 0x050 14 0 ≤ s.regF (weightP k.val) 0x070 14 0 → s.ticking = true →
    Completes (.segue r k 0) s fun t => t.resultCode (weightP k.val) = 1 ∧ bit (t.reg (weightP k.val) 0x06C) 29 = true ∧
      t.regN (weightP k.val) 0x074 = 0 ∧ t.pageState (weightP k.val) = s.pageState (weightP k.val) ∧
      Beside [weightP k.val] [regKey (weightP k.val) 0x06C, regKey (weightP k.val) 0x074] s t)

/-- Requests of the KV Pager end with their status in KV_LAST and in the request (R303): OPEN of a free sequence makes it
resident, CLOSE frees it and its pages, SET_PRIORITY sets its priority (R304); a BATCH of one resident entry whose pages are
free is admitted (R305, R310); SWAP_OUT goes to the host and ends when its read-back does (R307); SWAP_IN of a swapped sequence
brings its pages back (R308). The order of checks and the effect of STOP are the reading of log entry 77. -/
def Obligations.KvRequestsRun : Prop :=
  (∀ (ns : Nat) (s : State), s.kvTakes 1 → s.kvRoom → s.seqState (s.kvNext []).seq = 0 →
    Completes (.openSeq ns) s fun t => KvEnded ns 1 0 s t ∧ KvOnly s t ∧ t.seqState (s.kvNext []).seq = 1 ∧
      t.seqPriority (s.kvNext []).seq = (s.kvNext []).priority ∧ t.seqPages (s.kvNext []).seq = 0 ∧ t.seqLength (s.kvNext []).seq = 0) ∧
  (∀ (ns : Nat) (s : State), s.kvTakes 3 → s.kvRoom →
    Completes (.closeSeq ns) s fun t => KvEnded ns 1 0 s t ∧ KvOnly s t ∧ t.seqState (s.kvNext []).seq = 0 ∧
      t.seqPages (s.kvNext []).seq = 0 ∧ ∀ n, tabGet 0 t.kv.used n ≠ (s.kvNext []).seq + 1) ∧
  (∀ (ns : Nat) (s : State), s.kvTakes 6 → s.kvRoom →
    Completes (.setPriority ns) s fun t => KvEnded ns 1 0 s t ∧ KvOnly s t ∧ t.kv.used = s.kv.used ∧
      t.seqPriority (s.kvNext []).seq = (s.kvNext []).priority ∧ t.seqState (s.kvNext []).seq = s.seqState (s.kvNext []).seq ∧
      t.seqPages (s.kvNext []).seq = s.seqPages (s.kvNext []).seq) ∧
  (∀ (ns : Nat) (host : List HostChunk) (q n : Nat) (s : State), s.kvTakes 2 → s.kvStatusRoom → s.regF (hrP s.kvClient) 0x09C 7 0 = 0 →
    (s.kvNext []).entries = 1 → s.inGrant s.kvClient (s.kvNext []).list 4 = true →
    s.inGrant s.kvClient (s.kvNext []).out (s.kvNext []).limit = true → 0x50000 ≤ (s.kvNext []).limit →
    s.kvEntry (s.kvNext []) 0 = (q, n) → n ≤ 4096 → s.seqState q = 1 → s.kvListOk q = true →
    (s.seqLength q + n + 15) / 16 ≤ s.kvMax → (s.seqLength q + n + 15) / 16 - s.seqPages q ≤ s.kvFree → s.kv.swap = none →
    Completes (.batchSeq ns host) s fun t => KvEnded ns 1 n s t ∧ t.kv.batches = s.kv.batches + 1) ∧
  (∀ (ns : Nat) (s : State), s.kvTakes 4 → s.regF (hrP s.kvClient) 0x09C 7 0 = 0 → s.seqState (s.kvNext []).seq = 1 →
    s.kvListOk (s.kvNext []).seq = true → s.hostUp = true →
    Completes (.swapOut ns) s fun t => ∃ w, t.kv.swap = some w ∧ w.seq = (s.kvNext []).seq ∧
      ∃ x, t.out.hostWrites = s.out.hostWrites ++ [x] ∧ x.addr = s.kvSlot (s.kvNext []).seq ∧ crc32 x.data = w.crc) ∧
  (∀ (ns : Nat) (host : List HostChunk) (hd bs out : List Byte) (s : State), s.kvTakes 5 → s.kvStatusRoom →
    s.regF (hrP s.kvClient) 0x09C 7 0 = 0 → s.seqState (s.kvNext []).seq = 3 → s.seqPages (s.kvNext []).seq ≤ s.kvFree →
    chunkRead host (s.kvSlot (s.kvNext []).seq) 64 = some hd →
    chunkRead host (s.kvSlot (s.kvNext []).seq) (wordAt hd 0x1C).toNat = some bs → crc32 bs = s.seqWord (s.kvNext []).seq 3 →
    chunkBad host (s.kvSlot (s.kvNext []).seq) bs.length = false →
    (if s.seqPages (s.kvNext []).seq = 0 then some [] else decodeStream bs) = some out →
    out.length = s.seqPages (s.kvNext []).seq * s.kvPageBytes → s.regF kvP 0x060 15 0 ≠ 0x32 → s.noTriggers 0x32 → s.cues.waiters = [] →
    Completes (.swapIn ns host) s fun t => KvEnded ns 1 0 s t ∧
      t.regF kvP 0x08C 15 0 = min (s.regF kvP 0x08C 15 0 + 1) 0xFFFF) ∧
  (∀ (ok : Bool) (ns : Nat) (r : KvReq) (w : KvSwap) (s : State), s.kv.req = some r → s.kv.halted = false → s.kv.swap = some w →
    r.op = 4 → r.cue = 0 → r.index < 0x10000 →
    Completes (.swapOutReadbackDone ok ns) s fun t => t.kv.req = none ∧ t.kv.swap = none ∧
      t.regN kvP 0x090 = (if ok then 1 else 7) * 0x10000000 + r.index ∧
      (ok = true → ∀ k, tabGet 0 t.kv.used k ≠ w.seq + 1))

/-! ## Axes (chapters 10 and 11) -/

/-- A safety limit word arrives at its Loop Engine with the sequence bit of its Pulse, and shows in PROC_LIMIT: as the Proctor
built it, or with the bits the channel turned (R325); an axis that may not turn gets command 0 and an engine that does not run
speed 0. RIDE that has lasted its time goes to BLEND or COAST (R331); a planner without a set-point in its time becomes stale
and its target speed 0 (R341); a commit takes the staged target (R341). A gain write while the engine does not compute takes
effect at once, and takes the place of one that waits; while it computes it waits for the next Pulse (R324). A write to the
Ostinato table within its length is stored where no Ostinato is in force, and refused where one is (R337). The sequence bit a
word after a bad one is judged by, and staged writes, are the model's readings (log entries 80 and 86). -/
def Obligations.LoopEventsAndTablesAct : Prop :=
  (∀ (n : Fin 16) (s : State), s.proctorOn = true → s.ticking = true →
    Completes (.limitWord n 0) s fun t =>
      (t.axis n.val).recv = some (t.reg procP (0x100 + 4 * n.val), s.proc.seq, true) ∧
      (s.axisPermit n.val = false → t.regF procP (0x100 + 4 * n.val) 31 29 = 0) ∧
      (s.inState (loopP n.val) activeStates = false → t.regF procP (0x100 + 4 * n.val) 15 0 = 0) ∧
      Beside [] [regKey procP (0x100 + 4 * n.val)] { s with loops := t.loops } t ∧ ∀ k, k ≠ n.val → t.axis k = s.axis k) ∧
  (∀ (n : Fin 16) (errors : BitVec 41) (s : State), s.proctorOn = true → s.ticking = true → errors ≠ 0 →
    errors.toNat % 0x200000000 = 0 →
    Completes (.limitWord n errors) s fun t =>
      (t.axis n.val).recv = some (t.reg procP (0x100 + 4 * n.val), s.proc.seq, false) ∧
      Beside [] [regKey procP (0x100 + 4 * n.val)] { s with loops := t.loops } t) ∧
  (∀ (n : Fin 16) (s : State), s.torque n.val = true → s.law n.val = 4 →
    Completes (.obsRideTimeout n) s fun t =>
      t.law n.val = (if s.angleSrc n.val = 2 ∧ s.pageState (angleP n.val) = .running then 6 else 5) ∧ t.mem = s.mem ∧
      s.mtn.toNat ≤ t.mtn.toNat ∧ ∀ k, k ≠ n.val → t.axis k = s.axis k) ∧
  (∀ (n : Fin 16) (s : State), s.torque n.val = true → s.lf n.val 0x040 1 0 = 0 → (s.axis n.val).commit = none →
    (s.axis n.val).stale = false → s.lf n.val 0x134 15 0 ≤ (s.axis n.val).since + 1 →
    Completes (.setpointTimeout n) s fun t => (t.axis n.val).stale = true ∧ (t.axis n.val).vTgt = 0 ∧ (t.axis n.val).vFf = 0 ∧
      (t.axis n.val).pTgt = (s.axis n.val).pTgt ∧ (t.page (loopP n.val)).pend.getLsbD 4 = true ∧
      Beside [loopP n.val] [] { s with loops := t.loops, notes := t.notes } t ∧ ∀ k, k ≠ n.val → t.axis k = s.axis k) ∧
  (∀ (r : Requester) (n : Fin 16) (v : Word) (s : State), s.writes r (loopP n.val) 0x18C = true →
    Completes (.loopTgtCommit r n v) s fun t =>
      (t.axis n.val).commit = some (sext 64 (s.reg64 (loopP n.val) 0x180), s.lg n.val 0x188) ∧
      Beside [loopP n.val] [regKey (loopP n.val) 0x18C] { s with loops := t.loops } t ∧ ∀ k, k ≠ n.val → t.axis k = s.axis k) ∧
  (∀ (r : Requester) (n : Fin 16) (k : Fin 30) (v : Word) (d : RegDef) (s : State), s.writes r (loopP n.val) (0x050 + 4 * k.val) = true →
    s.pageState (loopP n.val) = .idle → regFind .loop (0x050 + 4 * k.val) = some d → d.rw ≠ 0 → d.w1c = 0 →
    Completes (.loopGainWrite r n k v) s fun t =>
      t.reg (loopP n.val) (0x050 + 4 * k.val) =
        ((s.reg (loopP n.val) (0x050 + 4 * k.val) &&& ~~~(word d.rw)) ||| (v &&& word d.rw)) ∧
      (∀ e ∈ (t.axis n.val).staged, e.1 ≠ 0x050 + 4 * k.val) ∧
      Beside [loopP n.val] [regKey (loopP n.val) (0x050 + 4 * k.val)] { s with loops := t.loops } t ∧
      ∀ j, j ≠ n.val → t.axis j = s.axis j) ∧
  (∀ (r : Requester) (n : Fin 16) (k : Fin 30) (v : Word) (s : State), s.writes r (loopP n.val) (0x050 + 4 * k.val) = true →
    s.gainsWait n.val = true →
    Completes (.loopGainWrite r n k v) s fun t =>
      (0x050 + 4 * k.val, if 24 ≤ k.val then v &&& 0x1F1F1F1F else v) ∈ (t.axis n.val).staged ∧
      (∀ e ∈ (t.axis n.val).staged, e.1 = 0x050 + 4 * k.val → e.2 = if 24 ≤ k.val then v &&& 0x1F1F1F1F else v) ∧
      Beside [loopP n.val] [] { s with loops := t.loops } t ∧ ∀ j, j ≠ n.val → t.axis j = s.axis j) ∧
  (∀ (r : Requester) (n : Fin 16) (i : Fin 512) (v : Word) (d : RegDef) (s : State),
    s.writes r (loopP n.val) (0x800 + 4 * i.val) = true → s.lf n.val 0x190 1 0 ≠ 1 → i.val < s.lf n.val 0x144 9 0 →
    regFind .loop (0x800 + 4 * i.val) = some d → d.rw ≠ 0 → d.w1c = 0 →
    Completes (.ostTableWrite r n i v) s fun t =>
      t.reg (loopP n.val) (0x800 + 4 * i.val) =
        ((s.reg (loopP n.val) (0x800 + 4 * i.val) &&& ~~~(word d.rw)) ||| (v &&& word d.rw)) ∧
      Beside [loopP n.val] [regKey (loopP n.val) (0x800 + 4 * i.val)] s t) ∧
  (∀ (r : Requester) (n : Fin 16) (i : Fin 512) (v : Word) (s : State), s.writes r (loopP n.val) (0x800 + 4 * i.val) = true →
    s.lf n.val 0x190 1 0 = 1 →
    Completes (.ostTableWrite r n i v) s fun t => (t.page (loopP n.val)).refusals = min 0xFFFF ((s.page (loopP n.val)).refusals + 1) ∧
      Beside [loopP n.val] [] s t)

/-- CAPTURE starts a capture of its count and offset, with an injection where the engine runs under command 3; CAP_STOP ends
what runs (R345); CAPTURE_DONE of an ended capture stores its header, raises its interrupt and lets it go (R347); OST_CLEAR puts
the Ostinato table back to 0 (R337). The readings of injection and capture are those of log entry 87. -/
def Obligations.CapturesRun : Prop :=
  (∀ (r : Requester) (n : Fin 16) (arg : BitVec 24) (s : State), s.commands r (loopP n.val) = true →
    s.inState (loopP n.val) activeStates = true → (s.axis n.val).cap = none → s.lf n.val 0x1A8 15 0 ≠ 0 →
    (arg.getLsbD 0 = true → s.pageState (loopP n.val) = .running ∧ s.limitCmd n.val = 3 ∧ absI (s.lg n.val 0x198) ≤ s.lg n.val 0x160) →
    s.inGrant (s.page (loopP n.val)).owner (64 * s.lf n.val 0x1AC 23 0) (64 + 8 * s.lf n.val 0x1A8 15 0) = true →
    Completes (.capture r n arg) s fun t => t.resultCode (loopP n.val) = 2 ∧ (t.axis n.val).inj.isSome = arg.getLsbD 0 ∧
      (∃ c, (t.axis n.val).cap = some c ∧ c.count = s.lf n.val 0x1A8 15 0 ∧ c.offset = 64 * s.lf n.val 0x1AC 23 0 ∧ c.written = 0 ∧
        c.ended = false ∧ c.inj = arg.getLsbD 0) ∧ Beside [loopP n.val] [] { s with loops := t.loops } t ∧
      ∀ j, j ≠ n.val → t.axis j = s.axis j) ∧
  (∀ (r : Requester) (n : Fin 16) (arg : BitVec 24) (s : State), s.commands r (loopP n.val) = true →
    s.inState (loopP n.val) [.off, .excused, .locked] = false →
    Completes (.capStop r n arg) s fun t => t.resultCode (loopP n.val) = 2 ∧ (t.axis n.val).inj = none ∧
      (t.axis n.val).cap = (s.axis n.val).cap.map (fun c => { c with ended := true }) ∧
      Beside [loopP n.val] [] { s with loops := t.loops } t ∧ ∀ j, j ≠ n.val → t.axis j = s.axis j) ∧
  (∀ (n : Fin 16) (c : Capture) (h : Nat) (s : State), (s.axis n.val).cap = some c → c.ended = true → h = (s.page (loopP n.val)).owner →
    (∀ k, k < 64 → s.putOpen h (c.offset + k) = true) → s.noTriggers (0x60 + n.val) → s.cues.waiters = [] →
    Completes (.captureDone n) s fun t => (t.axis n.val).cap = none ∧ (t.axis n.val).inj = none ∧
      t.readGrant h c.offset 4 = leBytes 4 c.written ∧ t.readGrant h (c.offset + 8) 8 = leBytes 8 c.first ∧
      (t.page (loopP n.val)).pend.getLsbD 6 = true ∧
      ∀ x, (∀ k, k < 64 → s.grantAddr h (c.offset + k) ≠ some x) → t.readByte x = s.readByte x) ∧
  (∀ (r : Requester) (n : Fin 16) (arg : BitVec 24) (s : State), s.commands r (loopP n.val) = true →
    s.inState (loopP n.val) [.off, .excused, .locked] = false → s.lf n.val 0x190 1 0 ≠ 1 →
    Completes (.ostClear r n arg) s fun t => t.resultCode (loopP n.val) = 2 ∧ (∀ i, i < 512 → t.reg (loopP n.val) (0x800 + 4 * i) = 0) ∧
      Beside [loopP n.val] ((List.range 512).map fun i => regKey (loopP n.val) (0x800 + 4 * i)) s t)

/-- At its update point a duty write comes into force and the port runs (R355); an ADC sample shows its codes and its time
(R359). TEST_PATH in IDLE (R370) and CALIBRATE of inactive axes (R372) are accepted; a link of an I/O die that goes down excuses
every unit of the die (R21), its watchdog puts every port of the die into ALL_OFF and holds it there (R22, R366). That a port of
a lost die stays in ALL_OFF in every page state is the model's reading (log entry 129), as are the dropped pulses and the
TEST_PATH note of log entry 90. -/
def Obligations.PortsShowSamplesAndTest : Prop :=
  (∀ (n : Fin 16) (w : DutyWrite) (s : State), (s.port n.val).pending = some w → (s.port n.val).link = false →
    s.inState (pstageP n.val) [.armed, .running] = true → s.tPwm n.val ≠ 0 →
    Completes (.pwmUpdatePoint n) s fun t => t.reg (pstageP n.val) 0x080 = w.ab ∧ t.reg (pstageP n.val) 0x084 = w.c ∧
      t.regF (pstageP n.val) 0x088 2 0 = 1 ∧ (t.port n.val).pending = none ∧ t.pageState (pstageP n.val) = .running ∧
      Beside [pstageP n.val] ([0x080, 0x084, 0x088, 0x0A0].map (regKey (pstageP n.val))) { s with mtn := t.mtn, ports := t.ports } t ∧
      ∀ k, k ≠ n.val → t.port k = s.port k) ∧
  (∀ (d : Fin 2) (codes : List (BitVec 14)) (time : Dword) (s : State), s.pageState (adcP d.val) = .running → s.ticking = true →
    Completes (.adcSample d codes time) s fun t =>
      (∀ k, k < 24 → t.regN (adcP d.val) (0x200 + 4 * k) = (codes.getD k 0).toNat) ∧
      (∀ k, k < 8 → t.regN (adcP d.val) (0x280 + 4 * k) = (codes.getD (24 + k) 0).toNat) ∧
      t.reg64 (adcP d.val) 0x2A0 = time.toNat ∧ now t = max (now s) time.toNat ∧ (s.noTriggers 5 → t.mem = s.mem)) ∧
  (∀ (r : Requester) (n : Fin 16) (s : State), s.commands r (pstageP n.val) = true → s.pageState (pstageP n.val) = .idle →
    Completes (.testPath r n 0) s fun t => t.resultCode (pstageP n.val) = 1 ∧ (t.page (pstageP n.val)).pending.isSome = true ∧
      Beside [pstageP n.val] [] s t) ∧
  (∀ (r : Requester) (d : Fin 2) (arg : BitVec 24) (s : State), s.commands r (adcP d.val) = true →
    s.pageState (adcP d.val) = .running → (∀ k, k < 8 → arg.toNat.testBit k = true → s.axisActive (8 * d.val + k) = false) →
    Completes (.calibrate r d arg) s fun t => t.resultCode (adcP d.val) = 1 ∧
      (∃ c, t.calib d.val = some c ∧ c.mask = arg.toNat % 256 ∧ c.count = 0) ∧
      Beside [adcP d.val] [] { s with calibs := t.calibs } t) ∧
  (∀ (d : Fin 2) (s : State), d.val < s.chip.grade.ioDies → s.lvl.linkDown.contains d.val = false →
    Completes (.ioLinkDown d) s fun t => t.lvl.linkDown.contains d.val = true ∧ (∀ b ∈ dieUnits d.val, t.isExcused b = true) ∧
      (s.noTriggers 4 → s.noTriggers 5 → t.mem = s.mem)) ∧
  (∀ (d : Fin 2) (s : State), d.val < s.chip.grade.ioDies →
    Completes (.ioLinkWatchdogExpiry d) s fun t =>
      (∀ k, k < 8 → (t.port (8 * d.val + k)).link = true ∧ t.regF (pstageP (8 * d.val + k)) 0x088 2 0 = 2) ∧ (s.noTriggers 5 → t.mem = s.mem))

/-- A gate driver fault of a switch that is off, a raw input still asserted at the end of its blanking and an over-current
comparator put a port that is armed or runs into FAULT with their kind and time (R361 to R363); then the window ends in ASC or
in every switch off, and ASC ends too (R365). The readings of the fault window are those of log entry 90. -/
def Obligations.PowerStageFaultsReact : Prop :=
  (∀ (n : Fin 16) (sw : Fin 6) (levels : BitVec 11) (time : Dword) (s : State), s.inState (pstageP n.val) [.armed, .running] = true →
    levels.getLsbD sw.val = true → s.onSince n.val sw.val time.toNat = none →
    Completes (.gateDriverFault n sw levels time) s fun t => t.pageState (pstageP n.val) = .fault ∧
      t.regF (pstageP n.val) 0x08C 31 28 = 2 ∧ t.regF (pstageP n.val) 0x08C 27 24 = sw.val ∧
      t.reg64 (pstageP n.val) 0x090 = time.toNat ∧ (t.port n.val).window = some time.toNat ∧
      (t.page (pstageP n.val)).pend.getLsbD 0 = true ∧ (s.noTriggers 5 → t.mem = s.mem)) ∧
  (∀ (n : Fin 16) (sw : Fin 6) (time : Dword) (s : State), s.inState (pstageP n.val) [.armed, .running] = true →
    bit (s.reg (pstageP n.val) 0x09C) sw.val = true →
    Completes (.blankingExpiry n sw time) s fun t => t.pageState (pstageP n.val) = .fault ∧
      t.regF (pstageP n.val) 0x08C 31 28 = 2 ∧ t.regF (pstageP n.val) 0x08C 27 24 = sw.val ∧
      t.reg64 (pstageP n.val) 0x090 = time.toNat ∧ (t.port n.val).window = some time.toNat ∧ (s.noTriggers 5 → t.mem = s.mem)) ∧
  (∀ (n : Fin 16) (ph : Fin 3) (levels : BitVec 11) (time : Dword) (s : State), s.inState (pstageP n.val) [.armed, .running] = true →
    levels.getLsbD (8 + ph.val) = true →
    Completes (.ocComparatorTrip n ph levels time) s fun t => t.pageState (pstageP n.val) = .fault ∧
      t.regF (pstageP n.val) 0x08C 31 28 = 1 ∧ t.reg64 (pstageP n.val) 0x090 = time.toNat ∧
      (t.port n.val).window = some time.toNat ∧ t.reg (pstageP n.val) 0x09C = levels.zeroExtend 32 &&& 0x73F ∧ (s.noTriggers 5 → t.mem = s.mem)) ∧
  (∀ (n : Fin 16) (t0 : Nat) (s : State), (s.port n.val).window = some t0 → s.pageState (pstageP n.val) = .fault →
    bit (s.reg (pstageP n.val) 0x040) 4 = true → s.regF (pstageP n.val) 0x08C 27 24 % 2 = 0 →
    Completes (.faultWindowExpiry n) s fun t => t.regF (pstageP n.val) 0x088 2 0 = 3 ∧ (t.port n.val).window = none ∧
      (t.port n.val).ascSince = some (t0 + 1000) ∧ bit (t.reg (pstageP n.val) 0x08C) 20 = true ∧
      (t.page (pstageP n.val)).pend.getLsbD 2 = true ∧
      Beside [pstageP n.val] ([0x088, 0x08C].map (regKey (pstageP n.val))) { s with mtn := t.mtn, ports := t.ports, notes := t.notes } t) ∧
  (∀ (n : Fin 16) (t0 : Nat) (s : State), (s.port n.val).window = some t0 → bit (s.reg (pstageP n.val) 0x040) 4 = false →
    Completes (.faultWindowExpiry n) s fun t => t.regF (pstageP n.val) 0x088 2 0 = 2 ∧ (t.port n.val).window = none ∧
      (t.port n.val).ascSince = none ∧
      Beside [] [regKey (pstageP n.val) 0x088] { s with mtn := t.mtn, ports := t.ports, notes := t.notes } t) ∧
  (∀ (n : Fin 16) (t0 : Nat) (s : State), (s.port n.val).ascSince = some t0 → s.pageState (pstageP n.val) = .fault →
    s.regF (pstageP n.val) 0x088 2 0 = 3 →
    Completes (.ascTimeout n) s fun t => t.regF (pstageP n.val) 0x088 2 0 = 2 ∧ (t.port n.val).ascSince = none ∧
      t.mtn = BitVec.ofNat 64 (max (now s) (t0 + 1000000 * s.regF (pstageP n.val) 0x058 15 0)) ∧
      Beside [] [regKey (pstageP n.val) 0x088] { s with mtn := t.mtn, ports := t.ports } t)

/-- A step of a step-and-direction input moves the count by its direction; a tooth that does not come is made up and flagged; a
wheel that stands halts its tracker; an event slot that is due fires, or waits for the next tooth that is not flagged; a write
to an event slot stores its register (R377 to R387). A JSL page sends its request once in a Pulse (R391); a good response of a
device waits for the Pulse boundary (R392, R394); a response that does not come is an error (R393); an acyclic access is
accepted while no axis has torque (R396). Teeth, channels and transactions are read as in log entries 91, 92 and 93. -/
def Obligations.TrackersAndSensorLinksFollow : Prop :=
  (∀ (n : Fin 16) (time : Dword) (s : State), s.pageState (angleP n.val) = .running → s.angSource n.val = 3 →
    Completes (.pulseInputEdge n .a true time) s fun t =>
      (t.trk n.val).count = (s.trk n.val).count + (if (s.trk n.val).b then 1 else -1) ∧ (t.trk n.val).edgeA = time.toNat ∧
      (t.trk n.val).a = true ∧ (∀ k, k ≠ n.val → t.trk k = s.trk k) ∧ t.pages = s.pages ∧ t.mem = s.mem) ∧
  (∀ (n : Fin 16) (s : State), s.pageState (angleP n.val) = .running → s.angSource n.val = 1 → s.angSync n.val = 2 →
    2 ≤ (s.trk n.val).intervals → (s.trk n.val).lastSynth = false →
    (s.trk n.val).last + 3 * s.prediction n.val / 2 < (s.trk n.val).lastReal + 1000 * s.regF (angleP n.val) 0x050 23 0 →
    Completes (.syntheticTooth n) s fun t => (t.trk n.val).lastSynth = true ∧ t.flagged n.val = true ∧
      t.tooth n.val = (s.nextTooth n.val (s.tooth n.val)).1 % 256 ∧ (∀ k, k ≠ n.val → t.trk k = s.trk k) ∧ (s.noTriggers 5 → t.mem = s.mem)) ∧
  (∀ (n : Fin 16) (s : State), s.pageState (angleP n.val) = .running → s.angSource n.val = 1 → s.angSync n.val ≠ 3 →
    Completes (.trackerHalt n) s fun t => t.angSync n.val = 3 ∧ (t.trk n.val).before = s.angSync n.val ∧
      (t.trk n.val).pos = (s.trk n.val).pos ∧ (∀ k, k ≠ n.val → t.trk k = s.trk k) ∧ t.mem = s.mem) ∧
  (∀ (n e : Fin 16) (x : Nat) (s : State), s.pageState (angleP n.val) = .running → s.angSync n.val = 2 →
    bit (s.evtCtl n.val e.val) 31 = true → (s.trk n.val).fired.contains e.val = false → (s.trk n.val).deferred.contains e.val = false →
    s.slotDue n.val e.val = some x → s.flagged n.val = false →
    Completes (.angleEventFire n e) s fun t => (t.trk n.val).fired = (s.trk n.val).fired ++ [e.val] ∧
      (t.trk n.val).firedCount = (s.trk n.val).firedCount + 1) ∧
  (∀ (n e : Fin 16) (x : Nat) (s : State), s.pageState (angleP n.val) = .running → s.angSync n.val = 2 →
    bit (s.evtCtl n.val e.val) 31 = true → (s.trk n.val).fired.contains e.val = false → (s.trk n.val).deferred.contains e.val = false →
    s.slotDue n.val e.val = some x → s.flagged n.val = true → bit (s.evtCtl n.val e.val) 30 = true →
    Completes (.angleEventFire n e) s fun t => (t.trk n.val).deferred = (s.trk n.val).deferred ++ [e.val] ∧
      (t.trk n.val).fired = (s.trk n.val).fired ∧ Quiet { s with mtn := t.mtn, trackers := t.trackers } t) ∧
  (∀ (r : Requester) (n e : Fin 16) (ctl : Bool) (v : Word) (off : Nat) (d : RegDef) (s : State),
    off = 0x060 + 8 * e.val + (if ctl then 4 else 0) → s.writes r (angleP n.val) off = true →
    (s.trk n.val).deferred.contains e.val = false → regFind .angle off = some d → d.rw ≠ 0 → d.w1c = 0 →
    Completes (.angEventWrite r n e ctl v) s fun t =>
      t.reg (angleP n.val) off = ((s.reg (angleP n.val) off &&& ~~~(word d.rw)) ||| (v &&& word d.rw)) ∧
      Beside [angleP n.val] [regKey (angleP n.val) off] s t) ∧
  (∀ (p : Fin 8) (s : State), s.pageState (jslP p.val) = .running → s.tempo.ticks = true → (s.jslPort p.val).pulse ≠ s.tempo.nextK →
    s.tempo.nextK ≠ 0 → (s.jslPort p.val).acyc = false → (s.jslPort p.val).stopping = false →
    Completes (.jslTransactionStart p) s fun t => (t.jslPort p.val).pulse = s.tempo.nextK ∧
      (t.jslPort p.val).request = jslFrame (s.jslMask p.val) 1
        ((List.range 4).flatMap fun a => leBytes 1 (if (s.jslMask p.val).testBit a then s.jslLen p.val a else 0)) ∧
      (t.jslPort p.val).left = (List.range 4).filter (s.jslMask p.val).testBit ∧
      (∀ k, k ≠ p.val → t.jslPort k = s.jslPort k) ∧ Quiet { s with mtn := t.mtn, jsls := t.jsls } t) ∧
  (∀ (p : Fin 8) (a : Fin 4) (data : List Byte) (s : State), s.inState (jslP p.val) [.running, .hold] = true →
    (s.jslPort p.val).left.contains a.val = true → (s.jslPort p.val).acycSent = false → data.length = s.jslLen p.val a.val →
    data.length < 256 →
    Completes (.jslResponse p a (jslFrame (0x80 + a.val) 0 data) true) s fun t => t.regF (jslP p.val) (0x090 + 32 * a.val) 2 0 = 1 ∧
      (t.jslPort p.val).ready = (s.jslPort p.val).ready ++ [(a.val, data, (s.jslPort p.val).stamp)] ∧
      (t.jslPort p.val).left.contains a.val = false ∧ t.mem = s.mem ∧ ∀ k, k ≠ p.val → t.jslPort k = s.jslPort k) ∧
  (∀ (p : Fin 8) (a : Fin 4) (s : State), s.inState (jslP p.val) [.running, .hold] = true →
    (s.jslPort p.val).left.contains a.val = true →
    Completes (.jslResponseTimeout p a) s fun t => t.regF (jslP p.val) (0x090 + 32 * a.val) 31 28 = 1 ∧
      (t.jslPort p.val).left.contains a.val = false ∧ (t.jslPort p.val).ready = (s.jslPort p.val).ready ∧
      (t.page (jslP p.val)).pend.getLsbD 0 = true ∧ t.mem = s.mem) ∧
  (∀ (r : Requester) (p : Fin 8) (s : State), s.commands r (jslP p.val) = true → s.pageState (jslP p.val) = .running →
    bit (s.reg (jslP p.val) 0x040) 16 = true → (∀ n, n < 16 → s.torque n = false) →
    (s.regF (jslP p.val) 0x050 7 0 = 2 ∨ s.regF (jslP p.val) 0x050 7 0 = 3) →
    Completes (.acyc r p 0) s fun t => t.resultCode (jslP p.val) = 1 ∧ (t.jslPort p.val).acyc = true ∧
      Beside [jslP p.val] [] { s with jsls := t.jsls } t ∧ ∀ k, k ≠ p.val → t.jslPort k = s.jslPort k)

/-! ## Safety (chapter 12) -/

/-- A lockstep mismatch (R398) and an uncorrectable error in the Proctor's SRAM (R400) halt the cores: the level is code 0,
STO_A, STO_B and the brakes are off, HM_STOP stands. A hang (R401) and a lost VDD_SAFE (R524) stop them without a word: only
STO_A, the brakes and the level change. A rail outside its window stops every axis for good (R524). The Proctor takes the oldest
note as an event and logs it with its own time and, where no rule covers it, its default verdict (R415, Table 12-17). RELEASE of
the host's request clears it (R438). That a hang shows level 0 and leaves the pages as they are is the model's reading (log
entry 138). -/
def Obligations.ProctorStopsAndTakesEvents : Prop :=
  (∀ (c : Instr) (s : State), c = .lockstepMismatch ∨ c = .proctorSramUe → s.proctorOn = true →
    Completes c s fun t => t.regF procP 0x040 10 8 = 2 ∧ t.regF procP 0x040 3 0 = 0 ∧ t.regF procP 0x040 7 7 = 0 ∧
      t.pageState procP = .fault ∧ t.outBit 0 = false ∧ t.outBit 2 = false ∧ t.outBit 4 = false ∧ t.outBit 6 = false ∧
      t.proc.hmStop = true ∧ (s.noTriggers 5 → t.mem = s.mem)) ∧
  (∀ (c : Instr) (s : State), c = .proctorHang ∨ c = .supplyMonitorFault true → s.proctorOn = true →
    Completes c s fun t => t.regF procP 0x040 3 0 = 0 ∧ t.outBit 0 = false ∧ t.outBit 4 = false ∧ t.outBit 6 = false ∧
      t.outBit 2 = s.outBit 2 ∧ Beside [] [regKey procP 0x040, regKey safeioP 0x088] { s with proc := { s.proc with hung := true } } t) ∧
  (∀ s : State, s.proctorOn = true → Completes (.supplyMonitorFault false) s fun t => SafeStopped s t) ∧
  (∀ (n : Note) (rest : List Note) (at' v : Nat) (s : State), s.notes = n :: rest → s.proctorOn = true →
    at' = 0x400 + 16 * (s.lvl.logged % 64) →
    v = (match s.proc.rubric with
      | some img => if covered img (n.cls, n.axes, n.unit) then 0 else (defaultOf n.cls).1
      | none => (defaultOf n.cls).1) →
    Completes .proctorEvent s fun t =>
      t.regN procP at' = (n.cls + n.src * 0x100 + n.unit % 256 * 0x10000 + v * 0x1000000) % 0x100000000 ∧
      t.regN procP (at' + 4) = n.info % 0x100000000 ∧ t.reg64 procP (at' + 8) = n.time % 2 ^ 64 ∧
      (t.page procP).pend.getLsbD 3 = true ∧
      Beside [procP] (regKey procP 0x0A4 :: [at', at' + 4, at' + 8, at' + 12].map (regKey procP))
        { s with notes := rest, lvl := { s.lvl with logged := s.lvl.logged + 1 },
                 proc := { s.proc with events := s.proc.events ++ [(n.cls, n.axes, n.unit)] } } t) ∧
  (∀ (r : Requester) (arg : BitVec 24) (s : State), s.commands r procP = true →
    Completes (.hostRequestRelease r arg) s fun t => t.resultCode procP = 2 ∧ t.regF procP 0x0A0 1 0 = 0 ∧
      t.proc.latches = s.proc.latches ∧ (s.noTriggers 7 → t.mem = s.mem))

/-- A test pulse that the readback sees, one while the output is low, and a feedback that agrees change only what shows the
feedback (R402, R403). A pulse that is not seen, a feedback that differs and a brake that does not follow are faults of their
channel (R402 to R405). -/
def Obligations.OutputsAreTested : Prop :=
  (∀ (b seen : Bool) (s : State), s.outBit (if b then 2 else 0) = false ∨ seen = true →
    Completes (.stoTestPulse b seen) s fun t => Quiet s t) ∧
  (∀ s : State, s.outBit 0 = true → s.proctorOn = true →
    Completes (.stoTestPulse false false) s fun t => t.regN safeioP 0x08C = 0x60 ∧ (t.page safeioP).pend.getLsbD 2 = true ∧
      SafeStopped s t) ∧
  (∀ s : State, s.outBit 2 = true → s.hmArmed = true → s.proctorOn = true →
    Completes (.stoTestPulse true false) s fun t => HallLatched 6 t ∧ SafeStopped s t) ∧
  (∀ (fb : Bool) (s : State), s.outBit 0 = fb →
    Completes (.stoFeedbackCheck false fb) s fun t => t.outBit 1 = fb ∧ t.outBit 0 = fb ∧ Beside [] [regKey safeioP 0x088] s t) ∧
  (∀ (fb : Bool) (s : State), s.outBit 0 ≠ fb → s.proctorOn = true →
    Completes (.stoFeedbackCheck false fb) s fun t => t.regN safeioP 0x08C = 0x50 ∧ t.outBit 1 = fb ∧
      (t.page safeioP).pend.getLsbD 2 = true ∧ SafeStopped s t) ∧
  (∀ (fb : Bool) (s : State), s.outBit 2 = fb →
    Completes (.stoFeedbackCheck true fb) s fun t => t.outBit 3 = fb ∧ bit (t.reg hallP 0x040) 1 = fb ∧ t.outBit 2 = fb ∧
      Beside [] [regKey safeioP 0x088, regKey hallP 0x040] s t) ∧
  (∀ (fb : Bool) (s : State), s.outBit 2 ≠ fb → s.hmArmed = true → s.proctorOn = true →
    Completes (.stoFeedbackCheck true fb) s fun t => t.outBit 3 = fb ∧ HallLatched 6 t ∧ SafeStopped s t) ∧
  (∀ (k : Fin 2) (fb : Bool) (s : State), s.outBit (4 + 2 * k.val) = fb →
    Completes (.brakeFeedbackTimeout k fb) s fun t => t.outBit (5 + 2 * k.val) = fb ∧ t.outBit (4 + 2 * k.val) = fb ∧
      Beside [] [regKey safeioP 0x088] s t) ∧
  (∀ (k : Fin 2) (fb : Bool) (s : State), s.outBit (4 + 2 * k.val) ≠ fb → s.proctorOn = true →
    Completes (.brakeFeedbackTimeout k fb) s fun t => t.regN safeioP 0x08C = 0x70 + k.val ∧ t.outBit (5 + 2 * k.val) = fb ∧
      (t.page safeioP).pend.getLsbD 2 = true ∧
      (⟨4, s.rubF 0x04C (16 * k.val + 15) (16 * k.val), .brake k.val⟩ : Latch) ∈ t.proc.latches ∧ (s.noTriggers 7 → t.mem = s.mem))

/-- A channel of a SAFE_IN pair takes its level unless a mask hides a low one (R407); a pair whose channels have both shown
DEMAND or RUN for FILTER follows them, from FAULT only after DEMAND together and then RUN together (R406); channels that
disagree too long (R406), a test pulse that is not seen (R407) and an OSSD that sends none (R408) put the pair into FAULT. How a
pair leaves FAULT is the reading of log entry 106. -/
def Obligations.SafeInputsAreJudged : Prop :=
  (∀ (k : Fin 8) (chB high : Bool) (time : Dword) (s : State), high = true ∨ s.maskEnd k.val chB ≤ time.toNat →
    Completes (.safeInEdge k chB high time) s fun t => t.rawLevel (2 * k.val + if chB then 1 else 0) = high ∧
      (if chB then (t.spair k.val).b else (t.spair k.val).a) = high ∧ (∀ j, j ≠ k.val → t.spair j = s.spair j) ∧
      Beside [] [regKey safeioP 0x080] { s with mtn := t.mtn, safein := t.safein } t) ∧
  (∀ (k : Fin 8) (chB : Bool) (time : Dword) (s : State), time.toNat < s.maskEnd k.val chB →
    Completes (.safeInEdge k chB false time) s fun t => t.rawLevel (2 * k.val + if chB then 1 else 0) = false ∧
      (if chB then (t.spair k.val).b = (s.spair k.val).b else (t.spair k.val).a = (s.spair k.val).a) ∧
      Beside [] [regKey safeioP 0x080] { s with mtn := t.mtn, safein := t.safein } t) ∧
  (∀ (k : Fin 8) (time : Dword) (s : State), s.pairOn k.val = true → s.steady k.val false time.toNat → s.steady k.val true time.toNat →
    s.demands k.val false time.toNat = true → s.demands k.val true time.toNat = true → s.pairState k.val = 0 →
    Completes (.safeInFilterExpiry k time) s fun t => t.pairState k.val = 1 ∧
      t.regF safeioP 0x090 15 0 = min (s.regF safeioP 0x090 15 0 + 1) 0xFFFF ∧ (t.page safeioP).pend.getLsbD 0 = true ∧
      t.proc = { s.proc with entries := s.proc.entries ++ [k.val] } ∧ (∀ j, j < 8 → j ≠ k.val → t.pairState j = s.pairState j) ∧
      Beside [safeioP] [regKey safeioP 0x084, regKey safeioP 0x090] { s with mtn := t.mtn, safein := t.safein, proc := t.proc } t) ∧
  (∀ (k : Fin 8) (time : Dword) (s : State), s.pairOn k.val = true → s.steady k.val false time.toNat → s.steady k.val true time.toNat →
    s.demands k.val false time.toNat = false → s.demands k.val true time.toNat = false →
    s.pairState k.val = 1 ∨ (s.pairState k.val = 2 ∧ (s.spair k.val).demandShown = true) →
    Completes (.safeInFilterExpiry k time) s fun t => t.pairState k.val = 0 ∧ (∀ j, j < 8 → j ≠ k.val → t.pairState j = s.pairState j) ∧
      Beside [] [regKey safeioP 0x084] { s with mtn := t.mtn, safein := t.safein, proc := { s.proc with resetDue := t.proc.resetDue } } t) ∧
  (∀ (k : Fin 8) (time : Dword) (s : State), s.pairOn k.val = true → s.steady k.val false time.toNat → s.steady k.val true time.toNat →
    s.demands k.val false time.toNat = s.demands k.val true time.toNat → s.pairState k.val = 2 → (s.spair k.val).demandShown = false →
    Completes (.safeInFilterExpiry k time) s fun t => t.pairState k.val = 2 ∧
      (t.spair k.val).demandShown = s.demands k.val false time.toNat ∧ Quiet { s with mtn := t.mtn, safein := t.safein } t) ∧
  (∀ (k : Fin 8) (time : Dword) (s : State), s.pairOn k.val = true →
    s.demands k.val false time.toNat ≠ s.demands k.val true time.toNat →
    max (s.pairChannel k.val false time.toNat).2 (s.pairChannel k.val true time.toNat).2 + 1000000 * s.pairF k.val 23 16 < time.toNat →
    s.pairState k.val < 2 →
    Completes (.discrepancyExpiry k time) s fun t => t.pairState k.val = 2 ∧ t.regN safeioP 0x08C = 0x10 + k.val ∧
      t.proc.entries = s.proc.entries ++ [k.val] ∧ (t.page safeioP).pend.getLsbD 1 = true ∧ (s.noTriggers 5 → t.mem = s.mem)) ∧
  (∀ (tp1 : Bool) (during after : BitVec 16) (time : Dword) (s : State), s.pageState safeioP = .running →
    Completes (.tpTestPulse tp1 during after time) s fun t =>
      (if tp1 then t.safein.maskB else t.safein.maskA) = time.toNat + 150000 ∧
      (∀ k, k < 8 →
        (during.getLsbD (2 * k + if tp1 then 1 else 0) = false → during.getLsbD (2 * k + if tp1 then 0 else 1) = true →
          t.pairState k = s.pairState k) ∧
        (s.pairMode k ≠ 0 → s.pairTp k = true → during.getLsbD (2 * k + if tp1 then 1 else 0) = true → s.pairState k < 2 →
          t.pairState k = 2)) ∧ (s.noTriggers 5 → t.mem = s.mem)) ∧
  (∀ (k : Fin 8) (chB : Bool) (s : State), s.pairOn k.val = true → s.pairTp k.val = false → s.pairF k.val 31 24 ≠ 0 →
    (if chB then (s.spair k.val).b = false ∨ (s.spair k.val).pulseB = true else (s.spair k.val).a = false ∨ (s.spair k.val).pulseA = true) →
    Completes (.ossdIntervalExpiry k chB) s fun t =>
      t.spair k.val = (if chB then { s.spair k.val with pulseB := false } else { s.spair k.val with pulseA := false }) ∧
      Quiet { s with safein := t.safein } t) ∧
  (∀ (k : Fin 8) (chB : Bool) (s : State), s.pairOn k.val = true → s.pairTp k.val = false → s.pairF k.val 31 24 ≠ 0 →
    (if chB then (s.spair k.val).b = true ∧ (s.spair k.val).pulseB = false
      else (s.spair k.val).a = true ∧ (s.spair k.val).pulseA = false) → s.pairState k.val < 2 →
    Completes (.ossdIntervalExpiry k chB) s fun t => t.pairState k.val = 2 ∧ t.regN safeioP 0x08C = 0x40 + k.val ∧
      (t.page safeioP).pend.getLsbD 1 = true ∧ (s.noTriggers 5 → t.mem = s.mem))

/-- A challenge in time is the next of its sequence (R422); the first answer in the window arms the Hall Monitor and sets STO_B
from PERMIT (R423 to R425); a challenge out of time, an answer that is early, a second one or wrong, a window without an answer
that counts and a bad supply latch it with their cause (R424). The readings of the monitor are those of log entry 105. -/
def Obligations.HallMonitorChecks : Prop :=
  (∀ (cycles : BitVec 32) (s : State), s.regN hallP 0x044 = 0 ∨ (340000 ≤ cycles.toNat ∧ cycles.toNat ≤ 460000) →
    Completes (.hmChallenge cycles) s fun t =>
      t.hm = { s.hm with chal := nextChallenge s.hm.chal, issued := true, answers := 0, counted := false } ∧
      t.regF hallP 0x048 15 0 = nextChallenge s.hm.chal ∧ t.regN hallP 0x04C = (if s.regN hallP 0x044 = 0 then 0 else cycles.toNat) ∧
      Beside [] ([0x044, 0x048, 0x04C].map (regKey hallP)) { s with hm := t.hm } t) ∧
  (∀ (cycles : BitVec 32) (s : State), s.regN hallP 0x044 ≠ 0 → cycles.toNat < 340000 ∨ 460000 < cycles.toNat → s.hmArmed = true →
    s.proctorOn = true →
    Completes (.hmChallenge cycles) s fun t => HallLatched 4 t ∧ SafeStopped s t) ∧
  (∀ (ns : BitVec 20) (s : State), s.proctorOn = true → s.hm.issued = true → s.hmLatched = false → s.hm.answers = 0 →
    300000 ≤ ns.toNat → ns.toNat ≤ 800000 →
    Completes (.hmAnswer 0 ns) s fun t => t.hmArmed = true ∧
      t.outBit 2 = (decide (s.regF procP 0x040 7 7 = 1) && !s.proc.hmStop) ∧ bit (t.reg hallP 0x040) 0 = t.outBit 2 ∧
      t.hm = { s.hm with answers := 1, counted := true } ∧ t.regF hallP 0x048 31 16 = answerOf s.hm.chal s.statusByte ∧
      t.regN hallP 0x050 = ns.toNat / 1000 ∧
      Beside [] (regKey safeioP 0x088 :: [0x040, 0x048, 0x050].map (regKey hallP)) { s with hm := t.hm } t) ∧
  (∀ (ns : BitVec 20) (s : State), s.proctorOn = true → s.hm.issued = true → s.hmArmed = true →
    0 < s.hm.answers ∨ ns.toNat < 300000 →
    Completes (.hmAnswer 0 ns) s fun t => HallLatched 2 t ∧ SafeStopped s t) ∧
  (∀ (errors : BitVec 24) (ns : BitVec 20) (s : State), s.proctorOn = true → s.hm.issued = true → s.hmArmed = true → s.hm.answers = 0 →
    300000 ≤ ns.toNat → ns.toNat ≤ 800000 → errors ≠ 0 → errors.toNat < 0x10000 →
    Completes (.hmAnswer errors ns) s fun t => HallLatched 3 t ∧ SafeStopped s t) ∧
  (∀ s : State, s.hm.issued = true → s.hm.counted = true →
    Completes .hmAnswerWindowExpiry s fun t => Quiet { s with hm := { s.hm with issued := false } } t) ∧
  (∀ s : State, s.hm.issued = true → s.hm.counted = false → s.hmArmed = true → s.proctorOn = true →
    Completes .hmAnswerWindowExpiry s fun t => HallLatched 1 t ∧ SafeStopped s t) ∧
  (∀ s : State, s.hmArmed = true → s.proctorOn = true →
    Completes .hmSupplyFault s fun t => HallLatched 5 t ∧ SafeStopped s t)

/-- STATUS goes out on CAN_S with the next COUNTER and its CRC (R427, R428, R443); a good COMMAND in order is the latest (R430,
R431), a bad frame is discarded and counted; a COMMAND that does not come loses the link (R430); the first good BODY PDU gives
the Body ID and the Seat state (R460, R464), another Body ID latches STOP1 (R465), none in 2 s is NO_BODY. The readings of
STATUS and COMMAND are those of log entries 103 and 104. -/
def Obligations.CanSafetyFrames : Prop :=
  (∀ (time : Dword) (img : Image) (n : Nat) (body : List Byte) (s : State), s.proc.rubric = some img → s.proctorOn = true →
    s.proc.cansOn = true → cansUsed img = true → s.ticking = false → n = (if s.proc.counter = 65535 then 1 else s.proc.counter + 1) →
    body = (advanceTo time.toNat s).statusBody n (imgWord img 0x070).toNat →
    Completes (.cansStatusTimer time) s fun t => body.take 4 = leBytes 2 0x0101 ++ leBytes 2 n ∧
      t.out.canS = s.out.canS ++ [(imgF img 0x05C 10 0, body ++ leBytes 4 (cansCrc (imgWord img 0x064) body).toNat)] ∧
      Quiet { s with mtn := t.mtn, proc := { s.proc with counter := n }, out := { s.out with canS := t.out.canS } } t) ∧
  (∀ (time : Dword) (img : Image) (n : Nat) (body : List Byte) (s : State), s.proc.rubric = none → s.proc.spare = some img →
    s.proctorOn = true → s.proc.cansOn = true → cansUsed img = true →
    n = (if s.proc.counter = 65535 then 1 else s.proc.counter + 1) → body = (advanceTo time.toNat s).statusBody n 0 →
    Completes (.cansStatusTimer time) s fun t =>
      t.out.canS = s.out.canS ++ [(imgF img 0x05C 10 0, body ++ leBytes 4 (cansCrc (imgWord img 0x064) body).toNat)] ∧
      Quiet { s with mtn := t.mtn, proc := { s.proc with counter := n }, out := { s.out with canS := t.out.canS } } t) ∧
  (∀ (id : BitVec 11) (frame : List Byte) (img : Image) (s : State), s.proc.rubric = some img → s.proctorOn = true →
    s.proc.cansOn = true → id.toNat = imgF img 0x05C 26 16 → imgF img 0x060 31 8 ≠ 0 → pduGood img 2 16 frame = true →
    s.echoOk (halfAt frame 4) = true →
    (∀ e ∈ s.proc.command, s.proc.resync = true ∨ halfAt frame 2 = counterAfter (halfAt e.1 2)) →
    Completes (.cansCommand id frame) s fun t =>
      t.proc = { s.proc with
        command := some (frame, now s), resync := false, inRow := s.proc.inRow + 1,
        stop0 := s.proc.stop0 || (byteAt frame 6).testBit 3, stop1 := s.proc.stop1 || (byteAt frame 6).testBit 2,
        resetDue := t.proc.resetDue } ∧
      t.cansState = (if s.cansState = 1 ∨ (s.cansState = 3 ∧ 2 ≤ s.proc.inRow + 1) then 2 else s.cansState) ∧
      Beside [procP] [regKey procP 0x09C] { s with proc := t.proc } t) ∧
  (∀ (id : BitVec 11) (frame : List Byte) (img : Image) (s : State), s.proc.rubric = some img → s.proctorOn = true →
    s.proc.cansOn = true → id.toNat = imgF img 0x05C 26 16 → imgF img 0x060 31 8 ≠ 0 →
    (pduGood img 2 16 frame = false ∨ s.echoOk (halfAt frame 4) = false ∨
      ∃ e ∈ s.proc.command, s.proc.resync = false ∧ halfAt frame 2 ≠ counterAfter (halfAt e.1 2)) →
    Completes (.cansCommand id frame) s fun t => t.regF procP 0x09C 31 16 = min (s.regF procP 0x09C 31 16 + 1) 0xFFFF ∧
      t.cansState = s.cansState ∧ Beside [] [regKey procP 0x09C] s t) ∧
  (∀ s : State, s.rubF 0x060 31 8 ≠ 0 → s.proctorOn = true → s.cansState = 1 ∨ s.cansState = 2 →
    Completes .cansTimeout s fun t => t.cansState = 3 ∧ (t.page procP).pend.getLsbD 4 = true ∧
      Beside [procP] [regKey procP 0x09C] { s with mtn := t.mtn, proc := { s.proc with resync := true, inRow := 0 } } t) ∧
  (∀ (id : BitVec 11) (frame : List Byte) (img : Image) (s : State), s.proc.rubric = some img → s.proctorOn = true →
    s.proc.cansOn = true → id.toNat = imgF img 0x05C 26 16 → pduGood img 3 32 frame = true → s.proc.bodyId = none →
    Completes (.bodyPdu id frame) s fun t =>
      t.proc = { s.proc with bodyId := some ((frame.drop 4).take 16), bodyLast := some ((frame.drop 4).take 16) } ∧
      t.regF identP 0x054 2 0 =
        (if s.boot.seat.map (fun r => (r.drop 0x20).take 16) = some ((frame.drop 4).take 16) then 1 else 2) ∧
      (∀ k, k < 4 → t.reg identP (0x060 + 4 * k) = wordAt ((frame.drop 4).take 16) (4 * k)) ∧
      Beside [identP] (regKey procP 0x040 :: [0x054, 0x060, 0x064, 0x068, 0x06C].map (regKey identP)) { s with proc := t.proc } t) ∧
  (∀ (id : BitVec 11) (frame b : List Byte) (img : Image) (s : State), s.proc.rubric = some img → s.proctorOn = true →
    s.proc.cansOn = true → id.toNat = imgF img 0x05C 26 16 → pduGood img 3 32 frame = true → s.proc.bodyId = some b →
    b ≠ (frame.drop 4).take 16 →
    Completes (.bodyPdu id frame) s fun t => (⟨4, 0xFFFF, .seat⟩ : Latch) ∈ t.proc.latches ∧ t.proc.bodyId = some b ∧
      (s.noTriggers 7 → t.mem = s.mem)) ∧
  (∀ s : State, s.proc.cansOn = true → s.regF identP 0x054 2 0 = 0 → s.proc.bodyId = none →
    Completes .noBodyTimeout s fun t => t.regF identP 0x054 2 0 = 3 ∧ (t.page identP).pend.getLsbD 1 = true ∧
      Beside [identP] [regKey identP 0x054, regKey procP 0x040] { s with mtn := t.mtn } t)

/-! ## Boot, identity and Dynamics (chapters 13 and 14) -/

/-- A low level of PORST_N of 1 µs or more resets everything but fuses and flash (R526), a shorter one is ignored; BOOT_START
with the Proctor in reset ends with its cores active and the Roll Book published: with the pair of the preferred slot where it
passes, else with that of the other slot, else in ROM recovery (R439, R442); DEVICE_RESET is accepted without torque and resets
(R454). What survives a reset is the reading of log entry 117; ties of boot records are read as in log entry 110. -/
def Obligations.ResetAndBoot : Prop :=
  (∀ (ns : Word) (s : State), ns.toNat < 1000 → Completes (.porstNAssert ns) s fun t => Quiet s t) ∧
  (∀ (ns : Word) (s : State), 1000 ≤ ns.toNat →
    Completes (.porstNAssert ns) s fun t => t.mem = [] ∧ t.regN imageP 0x044 = 1 ∧ t.mtn = 0 ∧ t.pages = State.reset.pages ∧
      t.boot.flash = s.boot.flash ∧ t.boot.fuses = s.boot.fuses ∧ t.chip = s.chip ∧ t.pending = s.pending ∧
      ∀ p off, regKey p off ≠ regKey imageP 0x044 → t.reg p off = regReset s.chip p off) ∧
  (∀ (failed : BitVec 256) (readFail : BitVec 4) (recFail : Bool) (time : Dword) (k : Nat) (a : SlotResult) (s : State),
    s.regF procP 0x040 10 8 = 0 → k = (trialRule s.bcr.1).preferred →
    a = (s.atBoot recFail time.toNat).decideSlot k (readFail.getLsbD (2 * k)) (readFail.getLsbD (2 * k + 1)) → a.outcome ≠ 3 →
    Completes (.bootStart failed readFail recFail time) s fun t => t.regF procP 0x040 10 8 = 1 ∧ t.pageState procP = .running ∧
      t.lvl.published = true ∧ t.boot.fuses = s.boot.fuses ∧
      t.regN imageP 0x040 = (k + if a.outcome = 2 then 8 else 0) % 0x100000000 ∧
      t.regF procP 0x040 4 4 = (if a.outcome = 2 then 1 else s.regF procP 0x040 4 4) ∧
      (∀ b, b < 256 → failed.getLsbD b = true → (presentBits s.chip.grade).contains b = true → t.isExcused b = true)) ∧
  (∀ (failed : BitVec 256) (readFail : BitVec 4) (recFail : Bool) (time : Dword) (s : State),
    s.regF procP 0x040 10 8 = 0 → readFail = 0xF →
    Completes (.bootStart failed readFail recFail time) s fun t => t.regF procP 0x040 10 8 = 1 ∧ t.lvl.published = true ∧
      t.lvl.minimal = true ∧ t.regF procP 0x040 3 0 = 1 ∧ t.boot.fuses = s.boot.fuses ∧
      t.regN imageP 0x040 = 0x00018186 ∧ (∀ p ∈ [procP, imageP, identP, pcieP 0], t.pageState p = .running)) ∧
  (∀ (r : Requester) (s : State), s.commands r imageP = true → s.pageState imageP = .running →
    s.anyTorque = false → s.porOnly = false →
    Completes (.deviceReset r 0) s fun t => t.resultCode imageP = 1 ∧ (t.page imageP).pending.isSome = true ∧
      Beside [imageP] [] s t) ∧
  (∀ (c : PendCmd) (d : Word) (s : State), (s.page imageP).pending = some c → c.code = 0x17 →
    Completes (.commandCompletion imageP d) s fun t => t.mem = [] ∧ t.regN imageP 0x044 = 2 ∧ t.mtn = 0 ∧ t.pages = State.reset.pages ∧
      t.boot.flash = s.boot.flash ∧ t.boot.fuses = s.boot.fuses ∧ t.chip = s.chip ∧ t.pending = s.pending ∧
      ∀ p off, regKey p off ≠ regKey imageP 0x044 → t.reg p off = regReset s.chip p off)

/-- DEVICE_RESET, whose argument is 0, is refused with AXIS_ENABLED while any axis is torque-enabled, and with LATCH_POR while a
state is set that clears only at power-on reset; nothing else happens. -/
def Obligations.DeviceResetIsRefused : Prop :=
  (∀ (r : Requester) (s : State), s.commands r imageP = true → s.pageState imageP = .running →
    s.anyTorque = true →
    Completes (.deviceReset r 0) s fun t => t.resultCode imageP = 3 ∧ (t.page imageP).syndrome = 0x60000 ∧
      (t.page imageP).pending = none ∧ Beside [imageP] [] s t) ∧
  (∀ (r : Requester) (s : State), s.commands r imageP = true → s.pageState imageP = .running →
    s.anyTorque = false →
    (s.regF procP 0x040 10 8 = 2 ∨ (∃ l ∈ s.proc.latches, l.cause = .por) ∨ bit (s.reg hallP 0x040) 2 = true) →
    Completes (.deviceReset r 0) s fun t => t.resultCode imageP = 3 ∧ (t.page imageP).syndrome = 0x70000 ∧
      (t.page imageP).pending = none ∧ Beside [imageP] [] s t)

/-- The commands of the IMAGE page (Table 13-12): an erase and a write of a range that passes their checks take their registers,
and end with the sectors erased or the bytes written, the rest of the flash as it was; a slot is decided and shown; a boot
control record is written and in force (R446); fuses only rise (R450, R457). QUOTE ends with the quote in its buffer (R459);
SEAT_ACCEPT takes a record that passes every check of Table 13-10 (R463), and it is in force once written; FLEET_ENROL blows the
fleet fuses once with the hash of the record's key (R462). The quote's signature is a free value (log entry 10). When the
effects of a command fall is the reading of log entries 115 and 116, a stopped command's progress a free value (log entry 10).
-/
def Obligations.FlashAndIdentityCommandsAct : Prop :=
  (∀ (r : Requester) (s : State), s.commands r imageP = true → s.pageState imageP = .running →
    s.flashRange 0x10000 = none →
    Completes (.flashErase r 0) s fun t => t.resultCode imageP = 1 ∧ (t.page imageP).pending.isSome = true ∧
      Beside [imageP] [] { s with boot := { s.boot with
        jobAddr := s.regN imageP 0x0A8, jobSrc := s.reg64 imageP 0x0AC, jobLen := s.regN imageP 0x0B4 } } t) ∧
  (∀ (r : Requester) (s : State), s.commands r imageP = true → s.pageState imageP = .running →
    s.flashRange 0x100 = none → s.flashSrcOk = true →
    Completes (.flashWrite r 0) s fun t => t.resultCode imageP = 1 ∧ (t.page imageP).pending.isSome = true ∧
      Beside [imageP] [] { s with boot := { s.boot with
        jobAddr := s.regN imageP 0x0A8, jobSrc := s.reg64 imageP 0x0AC, jobLen := s.regN imageP 0x0B4 } } t) ∧
  (∀ (c : PendCmd) (s : State), (s.page imageP).pending = some c → c.code = 0x10 → s.boot.jobLen < 0x100000000 →
    Completes (.commandCompletion imageP 0) s fun t => t.resultCode imageP = 2 ∧
      (∀ a, s.boot.jobAddr ≤ a → a < s.boot.jobAddr + s.boot.jobLen → t.flashRead a 1 = [0xFF]) ∧
      (tabWf (fun _ => erased) s.boot.flash = true →
        ∀ a, a < s.boot.jobAddr ∨ s.boot.jobAddr + s.boot.jobLen ≤ a → t.flashRead a 1 = s.flashRead a 1) ∧
      Beside [imageP] [] { s with boot := { s.boot with flash := t.boot.flash } } t) ∧
  (∀ (c : PendCmd) (s : State), (s.page imageP).pending = some c → c.code = 0x11 → s.boot.jobLen < 0x100000000 →
    s.errFree s.boot.jobSrc s.boot.jobLen = true →
    Completes (.commandCompletion imageP 0) s fun t => t.resultCode imageP = 2 ∧
      t.flashRead s.boot.jobAddr s.boot.jobLen = s.readBytes s.boot.jobSrc s.boot.jobLen ∧
      (tabWf (fun _ => erased) s.boot.flash = true →
        ∀ a, a < s.boot.jobAddr ∨ s.boot.jobAddr + s.boot.jobLen ≤ a → t.flashRead a 1 = s.flashRead a 1) ∧
      Beside [imageP] [] { s with boot := { s.boot with flash := t.boot.flash } } t) ∧
  (∀ (c : Instr) (r : Requester) (arg : BitVec 24) (s : State), s.commands r imageP = true → s.pageState imageP = .running →
    c = .verifySlot r arg ∨ c = .setPreferred r arg ∨ (c = .confirm r 0 ∧ s.bcr.1.trial = true) →
    Completes c s fun t => t.resultCode imageP = 1 ∧ (t.page imageP).pending.isSome = true ∧ Beside [imageP] [] s t) ∧
  (∀ (r : Requester) (s : State), s.commands r imageP = true → s.pageState imageP = .running →
    s.bcr.1.trial = false →
    Completes (.confirm r 0) s fun t => t.resultCode imageP = 2 ∧ (t.page imageP).pend.getLsbD 0 = true ∧ Beside [imageP] [] s t) ∧
  (∀ (c : PendCmd) (x : SlotResult) (s : State), (s.page imageP).pending = some c → c.code = 0x12 →
    x = s.decideSlot (c.arg.toNat % 2) false false →
    Completes (.commandCompletion imageP 0) s fun t => t.resultCode imageP = 2 ∧
      t.regN imageP 0x0A4 = (x.outcome + 16 * x.cause + 0x100 * x.image + 0x1000 * (c.arg.toNat % 2)) % 0x100000000 ∧
      Beside [imageP] [regKey imageP 0x0A4] s t) ∧
  (∀ (c : PendCmd) (s : State), (s.page imageP).pending = some c → c.code = 0x13 ∨ c.code = 0x14 →
    tabWf (fun _ => erased) s.boot.flash = true → s.bcr.1.gen + 1 < 0x100000000 →
    Completes (.commandCompletion imageP 0) s fun t => t.resultCode imageP = 2 ∧
      t.bcr.1 = (if c.code = 0x13 then
        ⟨c.arg.toNat % 2, c.arg.toNat.testBit 1, c.arg.toNat / 16 % 16, s.bcr.1.boots, s.bcr.1.gen + 1⟩
        else ⟨s.bcr.1.preferred, false, 0, s.bcr.1.boots, s.bcr.1.gen + 1⟩) ∧
      Beside [imageP] [regKey imageP 0x048, regKey imageP 0x04C] { s with boot := { s.boot with flash := t.boot.flash } } t) ∧
  (∀ (r : Requester) (s : State), s.commands r imageP = true → s.pageState imageP = .running →
    s.probation = false → s.inRecovery = false →
    Completes (.commitSvn r 0) s fun t => t.resultCode imageP = 2 ∧
      Beside [imageP] [regKey imageP 0x0A0] { s with boot := { s.boot with fuses := { s.boot.fuses with
        svnS := max s.boot.fuses.svnS (headF s.boot.headS 0x010 5 0),
        svnC := max s.boot.fuses.svnC (headF s.boot.headC 0x010 5 0) } } } t) ∧
  (∀ (r : Requester) (arg : BitVec 24) (s : State), s.commands r imageP = true → s.pageState imageP = .running →
    (∀ h ∈ [s.boot.headS, s.boot.headC], h = [] ∨ headF h 0x014 1 0 ≠ arg.toNat % 4) →
    (∃ j, j < 4 ∧ j ≠ arg.toNat % 4 ∧ s.boot.fuses.revoked.testBit j = false) →
    Completes (.revokeKey r arg) s fun t => t.resultCode imageP = 2 ∧
      Beside [imageP] [regKey imageP 0x0A0] { s with boot := { s.boot with fuses := { s.boot.fuses with
        revoked := s.boot.fuses.revoked ||| 2 ^ (arg.toNat % 4) } } } t) ∧
  (∀ (r : Requester) (s : State), s.commands r identP = true → s.pageState identP = .running →
    Completes (.quote r 0) s fun t => t.resultCode identP = 1 ∧ (t.page identP).pending.isSome = true ∧ Beside [identP] [] s t) ∧
  (∀ (c : PendCmd) (s : State), (s.page identP).pending = some c → c.code = 0x10 →
    Completes (.commandCompletion identP 0) s fun t => t.resultCode identP = 2 ∧
      (t.regBytes identP 0x800 64).take s.quoteBody.length = s.quoteBody ∧ s.quoteBody.length = 192 ∧
      s.quoteBody.take 4 = [0x51, 0x55, 0x4F, 0x54] ∧
      Beside [identP] ((List.range 64).map fun k => regKey identP (0x800 + 4 * k)) { s with freeCtr := t.freeCtr } t) ∧
  (∀ (r : Requester) (s : State), s.commands r identP = true → s.pageState identP = .running →
    recordForm false s.submitted = true → s.recordOwn s.submitted = true →
    s.proc.bodyId = some ((s.submitted.drop 0x20).take 16) → s.recordFleet s.submitted = true → recordSigned s.submitted = true →
    (∀ o ∈ s.boot.seat, seatSeq o < seatSeq s.submitted) → seatSeq s.submitted ≠ 0 →
    Completes (.seatAccept r 0) s fun t => t.resultCode identP = 1 ∧ (t.page identP).pending.isSome = true ∧
      Beside [identP] [] { s with boot := { s.boot with submit := s.submitted } } t) ∧
  (∀ (c : PendCmd) (s : State), (s.page identP).pending = some c → c.code = 0x11 →
    Completes (.commandCompletion identP 0) s fun t => t.resultCode identP = 2 ∧ t.boot.seat = some s.boot.submit ∧
      t.regN identP 0x058 = seatSeq s.boot.submit ∧ bit (t.reg identP 0x054) 9 = true ∧
      Beside [identP] ([0x054, 0x058, 0x070, 0x074, 0x078, 0x07C].map (regKey identP)) { s with boot := t.boot } t) ∧
  (∀ (r : Requester) (s : State), s.commands r identP = true → s.pageState identP = .running →
    recordForm true s.submitted = true → s.recordOwn s.submitted = true → recordSigned s.submitted = true →
    s.boot.fuses.fleet = none →
    Completes (.fleetEnrol r 0) s fun t => t.resultCode identP = 2 ∧ bit (t.reg identP 0x054) 8 = true ∧
      Beside [identP] ([0x054, 0x058, 0x070, 0x074, 0x078, 0x07C].map (regKey identP))
        { s with boot := { s.boot with fuses := { s.boot.fuses with fleet := some (sha256 (recordKey s.submitted)) } } } t) ∧
  (∀ (r : Requester) (s : State), s.commands r identP = true → s.pageState identP = .running →
    recordForm true s.submitted = true → s.recordOwn s.submitted = true → recordSigned s.submitted = true →
    s.boot.fuses.fleet ≠ none →
    Completes (.fleetEnrol r 0) s fun t => t.resultCode identP = 3 ∧ (t.page identP).syndrome = 0x70000 ∧ Beside [identP] [] s t)

/-- A dwell that is over descends at once without ticks and waits for a Beat with them (R474); WAKE (R487), the alarm and the
link's exit from L1 wake the device; a wake ends in the state the target allows (R478); temperatures show, and one 5 °C above
the limit trips (R482, R484); the supply warning shows and makes its request (R485). The readings of descents, wakes and
temperatures are those of log entries 118 to 121. -/
def Obligations.DynamicsMoves : Prop :=
  (∀ (time : Dword) (t0 : Nat) (s : State), s.dyn.dwellFrom = some t0 → s.dyn.wake = none →
    t0 + 1000 * s.regF dynP 0x04C 23 0 ≤ now (advanceTo time.toNat s) → s.dynState < (advanceTo time.toNat s).dynTarget →
    s.ticking = false →
    Completes (.dwellExpiry time) s fun t => t.dynState = (advanceTo time.toNat s).dynTarget ∧ (t.page dynP).pend.getLsbD 0 = true ∧
      ((advanceTo time.toNat s).dynTarget ≤ 2 → ∀ b, 0x2000000 ≤ b → t.readByte b = s.readByte b)) ∧
  (∀ (time : Dword) (t0 : Nat) (s : State), s.dyn.dwellFrom = some t0 → s.dyn.wake = none →
    t0 + 1000 * s.regF dynP 0x04C 23 0 ≤ now (advanceTo time.toNat s) → s.dynState < (advanceTo time.toNat s).dynTarget →
    s.ticking = true →
    Completes (.dwellExpiry time) s fun t => t.dynState = s.dynState ∧ Quiet { s with mtn := t.mtn } t ∧
      ((advanceTo time.toNat s).settle = advanceTo time.toNat s → t.dyn.due = true)) ∧
  (∀ (k : Fin 4) (s : State), s.commands (.core k) dynP = true → 3 ≤ s.dynState → s.dyn.wake = none →
    Completes (.wakeCmd (.core k) 0) s fun t => t.resultCode dynP = 1 ∧ t.dyn.wake = some (2, s.dynState, now s) ∧
      (t.page dynP).pending.isSome = true ∧ Beside [dynP] [] s t) ∧
  (∀ (k : Fin 4) (s : State), s.commands (.core k) dynP = true → s.dynState < 3 → s.dyn.wake = none →
    Completes (.wakeCmd (.core k) 0) s fun t => t.resultCode dynP = 2 ∧ Beside [dynP] [] s t) ∧
  (∀ s : State, s.reg64 dynP 0x050 ≠ 0 →
    Completes .dynAlarmExpiry s fun t => t.reg64 dynP 0x050 = 0 ∧ (3 ≤ s.dynState → t.dyn.wake.isSome = true) ∧
      t.mtn = BitVec.ofNat 64 (max (now s) (s.reg64 dynP 0x050)) ∧
      Beside [] [regKey dynP 0x050, regKey dynP 0x054] { s with mtn := t.mtn } t) ∧
  (∀ s : State, s.regF (pcieP 0) 0x040 17 16 ≠ 0 →
    Completes .linkExitFromL1 s fun t => t.regF (pcieP 0) 0x040 17 16 = 0 ∧ (3 ≤ s.dynState → t.dyn.wake.isSome = true) ∧
      Beside [] [regKey (pcieP 0) 0x040] s t) ∧
  (∀ (time : Dword) (src start : Nat) (u s : State), u = advanceTo time.toNat s → s.dyn.wake = some (src, s.dynState, start) →
    s.dynState ≤ 4 → src < 16 →
    Completes (.wakeComplete time false) s fun t => t.regF dynP 0x058 3 0 = src ∧ t.regF dynP 0x058 7 4 = s.dynState ∧
      t.regN dynP 0x05C = min (now u - start) 0xFFFFFFFF ∧ t.sram.heldHost = [] ∧
      t.dynState = (if 3 ≤ s.dynState then min u.dynTarget 2 else min u.dynTarget s.dynState) ∧
      (t.page dynP).pending = none) ∧
  (∀ (sec die : Word) (tooHot : Bool) (time : Dword) (s : State), s.dyn.tripped = false → s.tMax + 5 ≤ s.hottest sec (s.dieTemps die) tooHot →
    Completes (.thermalSample sec die tooHot time) s fun t => t.reg dynP 0x074 = sec ∧ t.reg dynP 0x078 = s.dieTemps die ∧
      t.dyn.tripped = true ∧ (⟨4, 0xFFFF, .thermal⟩ : Latch) ∈ t.proc.latches ∧ (t.page dynP).pend.getLsbD 2 = true ∧
      (∀ k, k < 32 → (t.tile k).act = none) ∧ (s.noTriggers 7 → t.mem = s.mem)) ∧
  (∀ (sec die : Word) (time : Dword) (s : State), s.dyn.tripped = false →
    s.tMax - s.regF dynP 0x080 7 0 ≤ s.hottest sec (s.dieTemps die) false → s.hottest sec (s.dieTemps die) false < s.tMax + 5 →
    s.throttleLevel < 4 → s.dyn.throttleAt = none →
    Completes (.thermalSample sec die false time) s fun t => t.reg dynP 0x074 = sec ∧ t.reg dynP 0x078 = s.dieTemps die ∧
      t.throttleLevel = s.throttleLevel + 1 ∧ t.regF dynP 0x07C 15 0 = 1000 - 125 * (s.throttleLevel + 1) ∧
      (t.page dynP).pend.getLsbD 1 = true ∧ Beside [dynP] ([0x074, 0x078, 0x07C].map (regKey dynP)) { s with mtn := t.mtn } t) ∧
  (∀ s : State,
    Completes .pwrwarnAssert s fun t => bit (t.reg dynP 0x084) 31 = true ∧ (t.page dynP).pend.getLsbD 3 = true ∧
      t.regF procP 0x0A0 1 0 = max (s.regF procP 0x0A0 1 0) (min (fld (s.reg dynP 0x084) 1 0) 2) ∧
      (bit (s.reg dynP 0x084) 4 = true → s.dynState < 3 → t.throttleLevel = 4) ∧ (s.noTriggers 7 → t.mem = s.mem)) ∧
  (∀ s : State,
    Completes .pwrwarnClear s fun t => t.reg dynP 0x084 = setBit (s.reg dynP 0x084) 31 false ∧ Beside [] [regKey dynP 0x084] s t)

/-! ## External interfaces (chapter 15) -/

/-- A configuration request that comes early gets Retry Status (R492), a later one is carried out (R490); the link goes down and
only the endpoint is reset, comes up, loses a lane group and trains again (R494, R497); a mask bit written through BAR4 is
stored, an entry unmasked sends its held message (R496); completions and timeouts bring the rows of a DMA read (R184). The
layout of configuration space and the class of errors come from the PCI Express family (log entries 6 and 31); lane loss and
retraining are read as in log entry 131. -/
def Obligations.PcieEndpointAnswers : Prop :=
  (∀ (req : CfgReq) (time : Dword) (s : State), s.hostUp = true →
    now (advanceTo time.toNat s) < max 20000000 (s.msix.perstAt + 100000000) →
    Completes (.pcieConfigRequest req time) s fun t => Quiet { s with mtn := t.mtn, out := { s.out with retry := true } } t) ∧
  (∀ (time : Dword) (s : State), s.hostUp = true → max 20000000 (s.msix.perstAt + 100000000) ≤ now (advanceTo time.toNat s) →
    Completes (.pcieConfigRequest (.header 0) time) s fun t => Quiet { s with
      mtn := t.mtn, freeCtr := t.freeCtr,
      out := { s.out with retry := false, readData := leBytes 4 0x71401F9D, readPoison := false } } t) ∧
  (∀ (k : Fin 6) (v : Word) (time : Dword) (s : State), s.hostUp = true →
    max 20000000 (s.msix.perstAt + 100000000) ≤ now (advanceTo time.toNat s) →
    Completes (.pcieConfigRequest (.bar k v) time) s fun t =>
      tabGet 0 t.msix.bars k.val = v &&& word (barBits k.val).1 ∧
      (∀ j, j < 6 → j ≠ k.val → tabGet 0 t.msix.bars j = tabGet 0 s.msix.bars j) ∧
      Quiet { s with mtn := t.mtn, out := { s.out with retry := false }, msix := { s.msix with bars := t.msix.bars } } t) ∧
  (∀ (perst : Bool) (released : Dword) (s : State),
    Completes (.pcieLinkReset perst released) s fun t => t.msix.linkUp = false ∧ t.msix.enabled = false ∧ t.msix.bars = [] ∧
      t.msix.perstAt = (if perst then released.toNat else s.msix.perstAt) ∧ t.regF (pcieP 0) 0x040 9 0 = 0 ∧
      Beside [pcieP 0] ([regKey (pcieP 1) 0x040] ++ [0x040, 0x054, 0x058].map (regKey (pcieP 0)))
        { s with msix := t.msix, dma := t.dma } t) ∧
  (∀ (perst : Bool) (released : Dword) (c : Fin 8) (j : DmaJob) (s : State), (s.chan c.val).job = some j → j.srcHost = true →
    Completes (.pcieLinkReset perst released) s fun t => ∃ k, (t.chan c.val).job = some k ∧
      (∀ r, r < j.rows → (k.hostRows.any fun e => decide (e.1 = r)) = true) ∧ k.hostRows.take j.hostRows.length = j.hostRows) ∧
  (∀ (speed : BitVec 3) (width : BitVec 4) (s : State), s.isExcused 146 = false → s.isExcused 80 = false → speed ≠ 0 →
    speed.toNat ≤ s.regF (pcieP 0) 0x044 2 0 → [1, 2, 4, 8].contains width.toNat = true → width.toNat ≤ s.maxWidth →
    Completes (.pcieLinkUp speed width) s fun t => t.msix.linkUp = true ∧
      t.regF (pcieP 0) 0x040 9 0 = width.toNat * 16 + speed.toNat ∧ t.regF (pcieP 0) 0x040 17 16 = 0 ∧
      (t.page (pcieP 0)).pending = none ∧
      Beside [pcieP 0] [regKey (pcieP 0) 0x040, regKey (pcieP 1) 0x040] { s with msix := { s.msix with linkUp := true } } t) ∧
  (∀ s : State, s.chip.grade.ioDies = 2 → bit (s.reg (pcieP 0) 0x040) 13 = false → s.msix.linkUp = true →
    Completes .pcieLaneLoss s fun t => bit (t.reg (pcieP 0) 0x040) 13 = true ∧
      t.regF (pcieP 0) 0x040 9 4 = min (s.regF (pcieP 0) 0x040 9 4) 4 ∧ t.regF (pcieP 0) 0x040 3 0 = s.regF (pcieP 0) 0x040 3 0 ∧
      t.regF (pcieP 0) 0x054 15 0 = min (s.regF (pcieP 0) 0x054 15 0 + 1) 0xFFFF ∧
      Beside [pcieP 0] ([regKey (pcieP 1) 0x040] ++ [0x040, 0x054].map (regKey (pcieP 0))) { s with msix := { s.msix with autoBw := true } } t) ∧
  (∀ (r : Requester) (s : State), s.commands r (pcieP 0) = true →
    Completes (.retrain r 0 0) s fun t => t.resultCode (pcieP 0) = 1 ∧ t.regF (pcieP 0) 0x040 9 0 = 0 ∧
      t.regF (pcieP 0) 0x054 15 0 = min (s.regF (pcieP 0) 0x054 15 0 + 1) 0xFFFF ∧ (t.page (pcieP 0)).pending.isSome = true ∧
      Beside [pcieP 0] ([regKey (pcieP 1) 0x040] ++ [0x040, 0x054].map (regKey (pcieP 0))) s t) ∧
  (∀ (e : Fin 64) (s : State), s.msix.pba.getLsbD e.val = true → s.hostUp = true → s.msix.enabled = true →
    s.msix.funcMask = false →
    Completes (.msixUnmask e false) s fun t => t.msix.masked = s.msix.masked &&& ~~~(1#64 <<< e.val) ∧
      t.msix.pba.getLsbD e.val = false ∧ e.val ∈ t.out.msix ∧ Beside [] [] { s with msix := { s.msix with masked := t.msix.masked } } t) ∧
  (∀ (e : Fin 64) (s : State), s.msix.enabled = false →
    Completes (.msixUnmask e true) s fun t => t.msix.masked = s.msix.masked ||| 1#64 <<< e.val ∧
      Quiet { s with msix := { s.msix with masked := t.msix.masked } } t) ∧
  (∀ (c : Fin 8) (row : Nat) (bs : List Byte) (ep : Bool) (j : DmaJob) (s : State), s.hostUp = true → (s.chan c.val).job = some j →
    j.srcHost = true → row < j.rows → (j.hostRows.any fun e => decide (e.1 = row)) = false → bs.length = j.rowBytes →
    Completes (.hostCompletion c row ⟨some bs, ep⟩) s fun t =>
      (t.chan c.val).job = some { j with
        hostRows := j.hostRows ++ [(row, some bs)], epRows := if ep then j.epRows ++ [row] else j.epRows } ∧
      (∀ k, k < 8 → k ≠ c.val → t.chan k = s.chan k) ∧ Quiet { s with dma := t.dma } t) ∧
  (∀ (row : Nat) (s : State),
    Completes (.hostCompletionTimeout none row) s fun t =>
      t.regF (pcieP 0) 0x058 15 0 = min (s.regF (pcieP 0) 0x058 15 0 + 1) 0xFFFF ∧
      t.regF (pcieP 0) 0x050 15 0 = min (s.regF (pcieP 0) 0x050 15 0 + 1) 0xFFFF ∧ (t.page (pcieP 0)).pend.getLsbD 2 = true ∧
      Beside [pcieP 0] ([0x050, 0x058].map (regKey (pcieP 0))) s t) ∧
  (∀ (c : Fin 8) (row : Nat) (j : DmaJob) (s : State), (s.chan c.val).job = some j → j.srcHost = true → row < j.rows →
    (j.hostRows.any fun e => decide (e.1 = row)) = false →
    Completes (.hostCompletionTimeout (some c) row) s fun t =>
      (t.chan c.val).job = some { j with hostRows := j.hostRows ++ [(row, none)] } ∧
      t.regF (pcieP 0) 0x058 15 0 = min (s.regF (pcieP 0) 0x058 15 0 + 1) 0xFFFF ∧
      (∀ k, k < 8 → k ≠ c.val → t.chan k = s.chan k) ∧
      Beside [pcieP 0] ([0x050, 0x058].map (regKey (pcieP 0))) { s with dma := t.dma } t)

/-- A frame for a MAC whose receive ring is empty is counted as dropped, one with a host buffer goes there, and the descriptor
takes its status, length and stamp (R506); the frame at the head of the highest ring with work is sent with its FCS (R504); the
link's state (R507), gPTP offsets, Sync messages and link delays show (R500 to R502); a gate control list that passes its checks
becomes pending, and operative at the first start of its own timing (R503, R505). A CAN frame that a filter takes goes into the
record at the head of the receive ring; the record at the head of the transmit ring is sent, and takes its status and time;
bus-off and recovery show in CAN_STATUS (R509). Rings, gate lists and bus-off recovery are read as in log entries 32 and 133 to
135. -/
def Obligations.NetworkFramesAndTime : Prop :=
  (∀ (m : Fin 4) (frame : List Byte) (fcsOk : Bool) (time : Dword) (s : State), s.ethRunning m.val = true → 60 ≤ frame.length →
    frame.length + 4 ≤ s.frameMax m.val → etherType frame ≠ 0x88F7 → etherType frame ≠ 0x8808 → s.ethAccepts m.val frame = true →
    s.ethDesc m.val 8 = none →
    Completes (.ethFrameReceive m frame fcsOk time) s fun t =>
      t.regF (ethP m.val) 0x0B4 31 16 = min (s.regF (ethP m.val) 0x0B4 31 16 + 1) 0xFFFF ∧
      (t.page (ethP m.val)).pend.getLsbD 4 = true ∧ Beside [ethP m.val] [regKey (ethP m.val) 0x0B4] { s with mtn := t.mtn } t) ∧
  (∀ (m : Fin 4) (frame : List Byte) (fcsOk : Bool) (time : Dword) (s : State), s.ethRunning m.val = true → 60 ≤ frame.length →
    s.frameMax m.val < frame.length + 4 →
    Completes (.ethFrameReceive m frame fcsOk time) s fun t =>
      t.regF (ethP m.val) 0x0B4 15 0 = min (s.regF (ethP m.val) 0x0B4 15 0 + 1) 0xFFFF ∧
      Beside [] [regKey (ethP m.val) 0x0B4] { s with mtn := t.mtn } t) ∧
  (∀ (m : Fin 4) (frame : List Byte) (fcsOk : Bool) (time : Dword) (h : Nat) (d : EthDesc) (s : State), s.ethRunning m.val = true →
    60 ≤ frame.length → frame.length + 4 ≤ s.frameMax m.val → etherType frame ≠ 0x88F7 → etherType frame ≠ 0x8808 →
    s.ethAccepts m.val frame = true → h = (s.page (ethP m.val)).owner → s.ethDesc m.val 8 = some d → d.clean = true → d.host = true →
    d.cueEn = false → frame.length ≤ d.len → s.hostUp = true → s.recordOpen h d.at' 32 →
    Completes (.ethFrameReceive m frame fcsOk time) s fun t =>
      t.out.hostWrites = s.out.hostWrites ++ [⟨d.addr, s.hostPasid h, frame, false⟩] ∧
      t.ringHead (ethP m.val) 0x0A4 = (s.ringHead (ethP m.val) 0x0A4 + 1) % s.ringSize (ethP m.val) 0x0A0 ∧
      fld (wordAt (t.readGrant h (d.at' + 16) 4) 0) 3 0 = (if fcsOk then 1 else 5) ∧
      fld (wordAt (t.readGrant h (d.at' + 8) 4) 0) 13 0 = frame.length ∧
      t.readGrant h (d.at' + 24) 8 = leBytes 8 (s.ethStamp m.val time.toNat) ∧ (t.page (ethP m.val)).pend.getLsbD 1 = true ∧
      (∀ x, (∀ k, k < 32 → s.grantAddr h (d.at' + k) ≠ some x) → t.readByte x = s.readByte x) ∧
      Beside [ethP m.val] [regKey (ethP m.val) 0x0A4]
        { s with mtn := t.mtn, mem := t.mem, sram := t.sram, out := { s.out with hostWrites := t.out.hostWrites } } t) ∧
  (∀ (m : Fin 4) (time : Dword) (q : Fin 8) (host : List HostChunk) (bs : List Byte) (h : Nat) (d : EthDesc) (s : State),
    s.ethRunning m.val = true → (s.mac m.val).oper = none → s.ethDesc m.val q.val = some d →
    (∀ k, k < 8 → q.val < k → s.ethDesc m.val k = none) → d.clean = true → d.cueEn = false → d.vlan = false → d.ts = false →
    60 ≤ d.len → d.len + 4 ≤ s.frameMax m.val → d.host = true → s.hostUp = true → chunkRead host d.addr d.len = some bs →
    h = (s.page (ethP m.val)).owner → s.recordOpen h d.at' 32 →
    Completes (.ethFrameTransmit m host time) s fun t => t.out.eth = s.out.eth ++ [(m.val, bs ++ leBytes 4 (crc32 bs).toNat)] ∧
      t.ringHead (ethP m.val) (ringReg q.val + 4) =
        (s.ringHead (ethP m.val) (ringReg q.val + 4) + 1) % s.ringSize (ethP m.val) (ringReg q.val) ∧
      fld (wordAt (t.readGrant h (d.at' + 16) 4) 0) 3 0 = 1 ∧ (t.page (ethP m.val)).pend.getLsbD 0 = true ∧
      (∀ x, (∀ k, k < 32 → s.grantAddr h (d.at' + k) ≠ some x) → t.readByte x = s.readByte x) ∧
      Beside [ethP m.val] [regKey (ethP m.val) (ringReg q.val + 4)]
        { s with mtn := t.mtn, mem := t.mem, sram := t.sram, out := { s.out with eth := t.out.eth } } t) ∧
  (∀ (m : Fin 4) (v : BitVec 3) (s : State), s.inState (ethP m.val) [.running, .hold] = true →
    (v = 0 ∨ (if s.regF (ethP m.val) 0x040 1 0 = 1 then v = 4 else v.toNat ≤ 3)) →
    Completes (.ethLinkChange m v) s fun t => t.regN (ethP m.val) 0x0A8 = (if v = 0 then 0 else 2 * v.toNat + 1) ∧
      (t.page (ethP m.val)).pend.getLsbD 2 = true ∧ Beside [ethP m.val] [regKey (ethP m.val) 0x0A8] s t) ∧
  (∀ (m : Fin 4) (off : Word) (s : State), s.ethRunning m.val = true → s.gptpRole m.val = 1 →
    Completes (.gptpMessageReceive m (.sync off)) s fun t => t.reg (ethP m.val) 0x0AC = off ∧
      (s.regF tempoP 0x080 11 8 ≠ m.val → t.tempo = s.tempo ∧ t.regF tempoP 0x080 1 0 = s.regF tempoP 0x080 1 0) ∧
      (s.regF tempoP 0x080 11 8 = m.val → 1000 ≤ (sext 32 off.toNat).natAbs → t.regF tempoP 0x080 1 0 = 1 ∧ t.tempo.syncGood = 0) ∧
      (s.regF tempoP 0x080 11 8 = m.val → (sext 32 off.toNat).natAbs < 1000 → 15 ≤ s.tempo.syncGood →
        t.regF tempoP 0x080 1 0 = 2) ∧
      Beside [tempoP] [regKey (ethP m.val) 0x0AC, regKey tempoP 0x080] { s with tempo := { s.tempo with syncGood := t.tempo.syncGood } } t) ∧
  (∀ (m : Fin 4) (time : Dword) (s : State), s.ethRunning m.val = true → s.gptpRole m.val = 2 →
    Completes (.gptpSyncSend m time) s fun t => t.mtn = BitVec.ofNat 64 (max (now s) time.toNat) ∧
      Quiet { s with mtn := t.mtn, out := { s.out with gptp := s.out.gptp ++ [(m.val, 0, now t)] } } t) ∧
  (∀ (m : Fin 4) (delay : Word) (s : State), s.ethRunning m.val = true → s.gptpRole m.val ≠ 0 →
    Completes (.gptpPdelay m delay) s fun t => t.reg (ethP m.val) 0x0B0 = delay ∧
      Beside [] [regKey (ethP m.val) 0x0B0] { s with out := { s.out with gptp := s.out.gptp ++ [(m.val, 1, now s)] } } t) ∧
  (∀ (r : Requester) (m : Fin 4) (arg : BitVec 24) (s : State), s.commands r (ethP m.val) = true →
    s.inState (ethP m.val) [.idle, .armed, .running, .hold] = true → 1 ≤ s.regF (ethP m.val) 0x110 6 0 →
    s.regF (ethP m.val) 0x110 6 0 ≤ 64 → 10000 ≤ s.regF (ethP m.val) 0x104 29 0 → s.regF (ethP m.val) 0x104 29 0 ≤ 1000000000 →
    now s ≤ s.reg64 (ethP m.val) 0x108 →
    Completes (.qbvApply r m arg) s fun t => t.resultCode (ethP m.val) = 1 ∧ t.regF (ethP m.val) 0x100 1 1 = 1 ∧
      (t.mac m.val) = { s.mac m.val with pend := some ⟨s.reg64 (ethP m.val) 0x108, s.regF (ethP m.val) 0x104 29 0,
        (List.range (s.regF (ethP m.val) 0x110 6 0)).map fun e => s.reg (ethP m.val) (0x400 + 4 * e)⟩ } ∧
      Beside [ethP m.val] [regKey (ethP m.val) 0x100] { s with macs := t.macs } t ∧ ∀ k, k ≠ m.val → t.mac k = s.mac k) ∧
  (∀ (m : Fin 4) (time : Dword) (g : GateList) (s : State), (s.mac m.val).pend = some g → g.startsAt time.toNat = true →
    now s ≤ time.toNat → s.inState (ethP m.val) [.idle, .armed, .running, .hold] = true →
    Completes (.qbvCycleStart m time) s fun t => (t.mac m.val).oper = some g ∧ (t.mac m.val).pend = none ∧ now t = time.toNat ∧
      t.regN (ethP m.val) 0x100 = 1 ∧ (∀ e, e < 64 → t.reg (ethP m.val) (0x600 + 4 * e) = g.entries.getD e 0) ∧
      (t.page (ethP m.val)).pend.getLsbD 3 = true ∧ (∀ k, k ≠ m.val → t.mac k = s.mac k) ∧
      (s.noTriggers (0x70 + m.val) → t.mem = s.mem)) ∧
  (∀ (m : Fin 4) (f : CanFrame) (time : Dword) (off h : Nat) (s : State), s.canOn m.val = true →
    (f.fd = true → bit (s.reg (canP m.val) 0x040) 0 = true) → f.rtr = false →
    f.data.length = dlcBytes f.fd f.dlc.toNat → (∃ i, i < 32 ∧ s.canMatch m.val i f = true) →
    s.canRecord m.val 0x050 0x058 = some off → h = (s.page (canP m.val)).owner → s.recordOpen h off 80 →
    Completes (.canFrameReceive m f time) s fun t =>
      t.readGrant h off (16 + f.data.length) =
        leBytes 4 (canWord0 f) ++ leBytes 4 (canWord1 f 1) ++ leBytes 8 time.toNat ++ f.data ∧
      t.ringHead (canP m.val) 0x058 = (s.ringHead (canP m.val) 0x058 + 1) % s.ringSize (canP m.val) 0x050 ∧
      (t.page (canP m.val)).pend.getLsbD 0 = true ∧
      (∀ x, (∀ k, k < 80 → s.grantAddr h (off + k) ≠ some x) → t.readByte x = s.readByte x) ∧
      Beside [canP m.val] [regKey (canP m.val) 0x058] { s with mtn := t.mtn, mem := t.mem, sram := t.sram } t) ∧
  (∀ (m : Fin 4) (f : CanFrame) (time : Dword) (s : State), (∀ i, i < 32 → s.canMatch m.val i f = false) →
    Completes (.canFrameReceive m f time) s fun t => Quiet { s with mtn := t.mtn } t) ∧
  (∀ (m : Fin 4) (time : Dword) (off h : Nat) (rec80 : List Byte) (s : State), s.canOn m.val = true →
    bit (s.reg (canP m.val) 0x040) 2 = false → s.canRecord m.val 0x04C 0x054 = some off → h = (s.page (canP m.val)).owner →
    s.recordOpen h off 80 → rec80 = s.readGrant h off 80 → fld (wordAt rec80 0) 31 30 = 0 →
    Completes (.canFrameTransmit m false time) s fun t =>
      t.out.can = s.out.can ++ [(m.val, leBytes 4 (wordAt rec80 0).toNat ++ leBytes 4 (setBit (wordAt rec80 4 &&& 0x3F) 4 false).toNat ++
        (rec80.drop 16).take (dlcBytes false (fld (wordAt rec80 4) 3 0)))] ∧
      t.ringHead (canP m.val) 0x054 = (s.ringHead (canP m.val) 0x054 + 1) % s.ringSize (canP m.val) 0x04C ∧
      fld (wordAt (t.readGrant h (off + 4) 4) 0) 11 8 = 1 ∧ t.readGrant h (off + 8) 8 = leBytes 8 time.toNat ∧
      (∀ x, (∀ k, k < 80 → s.grantAddr h (off + k) ≠ some x) → t.readByte x = s.readByte x) ∧
      Beside [canP m.val] [regKey (canP m.val) 0x054]
        { s with mtn := t.mtn, mem := t.mem, sram := t.sram, out := { s.out with can := t.out.can } } t) ∧
  (∀ (m : Fin 4) (s : State), s.inState (canP m.val) [.running, .hold] = true → bit (s.reg (canP m.val) 0x040) 2 = false →
    s.regF (canP m.val) 0x05C 17 16 ≠ 2 →
    Completes (.canBusOff m) s fun t => t.regF (canP m.val) 0x05C 17 16 = 2 ∧
      t.pageState (canP m.val) = (if bit (s.reg (canP m.val) 0x040) 3 then s.pageState (canP m.val) else .fault) ∧
      (t.page (canP m.val)).pend.getLsbD 2 = true ∧ Beside [canP m.val] [regKey (canP m.val) 0x05C] { s with notes := t.notes } t) ∧
  (∀ (m : Fin 4) (s : State), s.inState (canP m.val) [.running, .hold] = true → bit (s.reg (canP m.val) 0x040) 3 = true →
    s.regF (canP m.val) 0x05C 17 16 = 2 →
    Completes (.canBusOffRecovery m) s fun t => t.regN (canP m.val) 0x05C = 0 ∧ t.pageState (canP m.val) = s.pageState (canP m.val) ∧
      Beside [canP m.val] [regKey (canP m.val) 0x05C] s t)

/-- A frame of DSI timing starts with the layers in force, a COMMIT at least 50 µs old first (R515, R518): each pixel is COMP_BG
where no layer covers it, and the source pixel under one opaque layer of ARGB8888 (R511, R512); an underrun sends COMP_BG from
its pixel on (R515); a writeback that is done shows its frame and swaps buffers (R514); COMMIT takes the staged layers or names
the bad one (R518); DCS packets are accepted and go out (R516). That a frame is composed when it starts, and the other readings
of the Compositor, are log entry 136. -/
def Obligations.DisplayFramesAreComposed : Prop :=
  (∀ (time : Dword) (s : State), s.inState compP [.running, .hold] = true →
    (s.compOut = 1 ∨ s.compOut = 3) → s.comp.ending = 0 → s.comp.commit = none →
    Completes (.compFrameStart time) s fun t => t.comp.frame = s.composed ∧ t.comp.inFrame = true ∧
      t.comp.started = s.comp.started + 1 ∧ t.regN compP 0x058 = s.comp.started % 0x100000000 ∧ t.comp.layers = s.comp.layers) ∧
  (∀ (time : Dword) (px py : Nat) (s : State), s.inState compP [.running, .hold] = true → (s.compOut = 1 ∨ s.compOut = 3) →
    s.comp.ending = 0 → s.comp.commit = none → px < s.compW → py < s.compH →
    (s.pageState compP = .hold ∨ ∀ l, l < 8 → (layerAt s.comp.layers l).en = false ∨ (layerAt s.comp.layers l).covers px py = false) →
    Completes (.compFrameStart time) s fun t => (t.comp.frame.getD py [])[px]? = some (bgPixel s.comp.layers)) ∧
  (∀ (time : Dword) (px py l off : Nat) (y : Layer) (bs : List Byte) (s : State), s.pageState compP = .running →
    (s.compOut = 1 ∨ s.compOut = 3) →
    s.comp.ending = 0 → s.comp.commit = none → px < s.compW → py < s.compH → l < 8 → y = layerAt s.comp.layers l → y.en = true →
    y.covers px py = true → y.video = false → y.fmt = 3 → y.galpha = 255 → y.premult = false →
    (∀ k, k < 8 → k ≠ l → (layerAt s.comp.layers k).en = false) → off = y.addr + (py - y.posY) * y.pitch + 4 * (px - y.posX) →
    bs = s.readGrant (s.page compP).owner off 4 → byteAt bs 3 = 255 →
    Completes (.compFrameStart time) s fun t => (t.comp.frame.getD py [])[px]? = some (exp8 (byteAt bs 2), exp8 (byteAt bs 1), exp8 (byteAt bs 0))) ∧
  (∀ (time : Dword) (t0 : Nat) (ls : List Word) (s : State), s.inState compP [.running, .hold] = true →
    (s.compOut = 1 ∨ s.compOut = 3) → s.comp.ending = 0 → s.comp.commit = some (t0, ls) → t0 + 50000 ≤ now (advanceTo time.toNat s) →
    Completes (.compFrameStart time) s fun t => t.comp.layers = ls ∧ t.comp.commit = none ∧ t.comp.inFrame = true ∧
      (t.page compP).pending = none ∧ (t.page compP).pend.getLsbD 0 = true) ∧
  (∀ (line x : BitVec 11) (s : State), s.comp.inFrame = true → (s.compOut = 1 ∨ s.compOut = 3) → line.toNat < s.compH →
    line.toNat < s.out.display.length →
    Completes (.compLineUnderrun line x) s fun t =>
      t.regF compP 0x05C 15 0 = min (s.regF compP 0x05C 15 0 + 1) 0xFFFF ∧
      t.out.display.getD line.toNat [] = (s.out.display.getD line.toNat []).take x.toNat ++
        ((List.range s.compW).drop x.toNat).map (fun px =>
          Rgb.map (s.dither (s.comp.started - 1) px line.toNat) (bgPixel s.comp.layers)) ∧
      (∀ k, k ≠ line.toNat → t.out.display.getD k [] = s.out.display.getD k []) ∧
      Beside [compP] [regKey compP 0x05C] { s with out := { s.out with display := t.out.display } } t) ∧
  (∀ (f : Nat) (s : State), s.comp.wb = some f → s.comp.buf ≤ 1 →
    Completes .compWritebackDone s fun t => t.comp.wb = none ∧ t.comp.buf = 1 - s.comp.buf ∧
      t.regN compP 0x054 = f % 0x10000 * 0x10000 + s.comp.buf ∧ (t.page compP).pend.getLsbD 2 = true) ∧
  (∀ (f h pitch base y : Nat) (s : State), s.comp.wb = some f → h = (s.page compP).owner → pitch = s.regF compP 0x050 23 0 →
    base = 64 * s.regF compP 0x04C 23 0 + s.comp.buf * pitch * s.compH → (∀ row ∈ s.comp.frame, 4 * row.length ≤ pitch) →
    s.recordOpen h base (pitch * s.comp.frame.length) → s.noTriggers 0x34 → y < s.comp.frame.length →
    Completes .compWritebackDone s fun t =>
      t.readGrant h (base + y * pitch) (4 * (s.comp.frame.getD y []).length) = wbRow (s.comp.frame.getD y [])) ∧
  (∀ (r : Requester) (arg : BitVec 24) (s : State), s.commands r compP = true → s.inState compP [.running, .hold] = true →
    s.badLayer s.stagedLayers = none →
    Completes (.commitLayers r arg) s fun t => t.resultCode compP = 1 ∧
      Beside [compP] [] { s with comp := { s.comp with commit := some (now s, s.stagedLayers) } } t) ∧
  (∀ (r : Requester) (arg : BitVec 24) (l : Nat) (s : State), s.commands r compP = true → s.inState compP [.running, .hold] = true →
    s.badLayer s.stagedLayers = some l →
    Completes (.commitLayers r arg) s fun t => t.resultCode compP = 5 ∧ (t.page compP).syndrome = 0x30000 + l ∧ Beside [compP] [] s t) ∧
  (∀ (r : Requester) (arg : BitVec 24) (s : State), s.commands r compP = true → s.inState compP [.idle, .hold] = true →
    (longPacket (s.regF compP 0x090 5 0) = true → s.regF compP 0x090 23 8 ≤ 64) →
    Completes (.dcsSend r arg) s fun t => t.resultCode compP = 1 ∧ Beside [compP] [] { s with comp := { s.comp with answer := none } } t) ∧
  (∀ (r : Requester) (arg : BitVec 24) (v : Option Dword) (s : State), s.commands r compP = true →
    s.inState compP [.idle, .hold] = true → (longPacket (s.regF compP 0x090 5 0) = true → s.regF compP 0x090 23 8 ≤ 64) →
    Completes (.dcsRead r arg v) s fun t => t.resultCode compP = 1 ∧ Beside [compP] [] { s with comp := { s.comp with answer := v } } t) ∧
  (∀ (c : PendCmd) (s : State), (s.page compP).pending = some c → c.code = 0x11 →
    Completes (.commandCompletion compP 0) s fun t => t.resultCode compP = 2 ∧
      Beside [compP] [] { s with out := { s.out with dcs := s.out.dcs ++ [s.dsiPacket] } } t) ∧
  (∀ (c : PendCmd) (v : Dword) (s : State), (s.page compP).pending = some c → c.code = 0x12 → s.comp.answer = some v →
    Completes (.commandCompletion compP 0) s fun t => t.resultCode compP = 2 ∧
      t.regN compP 0x0E0 = v.toNat % 0x100000000 ∧ t.regN compP 0x0E4 = v.toNat / 0x100000000 ∧
      Beside [compP] [regKey compP 0x0E0, regKey compP 0x0E4] { s with out := { s.out with dcs := s.out.dcs ++ [s.dsiPacket] } } t)
end

