-- ==== Sys2Proof/Laws/Tab.lean ====
section
/-!
SUPPORT. Tables: what a key reads after another has been set, and that setting keeps the canonical form.
-/

namespace Sys2Proof.Machine

section
variable {α : Type}

theorem tabGet_tabErase_same (d : α) (m : List (Nat × α)) (a : Nat) : tabGet d (tabErase m a) a = d := by
  induction m with
  | nil => rfl
  | cons e m ih =>
    obtain ⟨k, w⟩ := e
    by_cases h : k = a <;> simp [tabErase, tabGet, h, ih]

theorem tabGet_tabErase_ne (d : α) (m : List (Nat × α)) {a b : Nat} (h : b ≠ a) :
    tabGet d (tabErase m a) b = tabGet d m b := by
  induction m with
  | nil => rfl
  | cons e m ih =>
    obtain ⟨k, w⟩ := e
    by_cases h1 : k = a
    · subst h1; simp [tabErase, tabGet, ih, Ne.symm h]
    · by_cases h2 : k = b
      · subst h2; simp [tabErase, tabGet, h1]
      · simp [tabErase, tabGet, h1, h2, ih]

theorem tabGet_tabInsert_same (d : α) (m : List (Nat × α)) (a : Nat) (v : α) (h : ∀ e ∈ m, e.1 ≠ a) :
    tabGet d (tabInsert m a v) a = v := by
  induction m with
  | nil => simp [tabInsert, tabGet]
  | cons e m ih =>
    obtain ⟨k, w⟩ := e
    have hk : k ≠ a := h (k, w) (by simp)
    have ih := ih fun e he => h e (by simp [he])
    by_cases h1 : a < k <;> simp [tabInsert, tabGet, h1, hk, ih]

theorem tabGet_tabInsert_ne (d : α) (m : List (Nat × α)) {a b : Nat} (v : α) (h : b ≠ a) :
    tabGet d (tabInsert m a v) b = tabGet d m b := by
  induction m with
  | nil => simp [tabInsert, tabGet, Ne.symm h]
  | cons e m ih =>
    obtain ⟨k, w⟩ := e
    by_cases h1 : a < k
    · simp [tabInsert, tabGet, h1, Ne.symm h]
    · by_cases h2 : k = b
      · subst h2; simp [tabInsert, tabGet, h1]
      · simp [tabInsert, tabGet, h1, h2, ih]

theorem tabErase_no (m : List (Nat × α)) (a : Nat) : ∀ e ∈ tabErase m a, e.1 ≠ a := by
  induction m with
  | nil => simp [tabErase]
  | cons e m ih =>
    obtain ⟨k, w⟩ := e
    by_cases h : k = a
    · simpa [tabErase, h] using ih
    · simp only [tabErase, h, if_false, List.mem_cons, forall_eq_or_imp]
      exact ⟨h, ih⟩

variable [DecidableEq α]

/-- A key reads the value last set. -/
@[simp] theorem tabGet_tabSet_same (d : α) (m : List (Nat × α)) (a : Nat) (v : α) : tabGet d (tabSet d m a v) a = v := by
  unfold tabSet
  split
  · next h => rw [tabGet_tabErase_same, h]
  · exact tabGet_tabInsert_same d _ a v (tabErase_no m a)

/-- Setting a key leaves every other key, whatever default it is read with. -/
theorem tabGet_tabSet_ne (d d' : α) (m : List (Nat × α)) {a b : Nat} (v : α) (h : b ≠ a) :
    tabGet d' (tabSet d m a v) b = tabGet d' m b := by
  unfold tabSet
  split
  · exact tabGet_tabErase_ne d' m h
  · rw [tabGet_tabInsert_ne d' _ v h, tabGet_tabErase_ne d' m h]

theorem tabGet_tabSet (d : α) (m : List (Nat × α)) (a b : Nat) (v : α) :
    tabGet d (tabSet d m a v) b = if b = a then v else tabGet d m b := by
  split
  · next h => rw [h, tabGet_tabSet_same]
  · next h => exact tabGet_tabSet_ne d d m v h

/-! ## The canonical form -/

theorem tabWfFrom_mono (d : Nat → α) {lo lo' : Nat} (m : List (Nat × α)) (h : lo' ≤ lo) :
    tabWfFrom d lo m = true → tabWfFrom d lo' m = true := by
  cases m with
  | nil => simp [tabWfFrom]
  | cons e m =>
    obtain ⟨k, w⟩ := e
    simp only [tabWfFrom, Bool.and_eq_true, decide_eq_true_eq]
    rintro ⟨⟨h1, h2⟩, h3⟩
    exact ⟨⟨by omega, h2⟩, h3⟩

theorem tabWfFrom_tabErase (d : Nat → α) (m : List (Nat × α)) (a lo : Nat) :
    tabWfFrom d lo m = true → tabWfFrom d lo (tabErase m a) = true := by
  induction m generalizing lo with
  | nil => simp [tabErase]
  | cons e m ih =>
    obtain ⟨k, w⟩ := e
    simp only [tabWfFrom, Bool.and_eq_true, decide_eq_true_eq]
    rintro ⟨⟨h1, h2⟩, h3⟩
    by_cases h : k = a
    · simp only [tabErase, h, if_true]
      exact tabWfFrom_mono d _ (by omega) (ih _ (h ▸ h3))
    · simp only [tabErase, h, if_false, tabWfFrom, Bool.and_eq_true, decide_eq_true_eq]
      exact ⟨⟨h1, h2⟩, ih _ h3⟩

theorem tabWfFrom_tabInsert (d : Nat → α) (m : List (Nat × α)) (a lo : Nat) (v : α) (hlo : lo ≤ a) (hv : v ≠ d a)
    (hm : ∀ e ∈ m, e.1 ≠ a) : tabWfFrom d lo m = true → tabWfFrom d lo (tabInsert m a v) = true := by
  induction m generalizing lo with
  | nil => simp [tabInsert, tabWfFrom, hlo, hv]
  | cons e m ih =>
    obtain ⟨k, w⟩ := e
    have hk : k ≠ a := hm (k, w) (by simp)
    simp only [tabWfFrom, Bool.and_eq_true, decide_eq_true_eq]
    rintro ⟨⟨h1, h2⟩, h3⟩
    by_cases h : a < k
    · simp only [tabInsert, h, if_true, tabWfFrom, Bool.and_eq_true, decide_eq_true_eq]
      exact ⟨⟨hlo, hv⟩, ⟨⟨by omega, h2⟩, h3⟩⟩
    · simp only [tabInsert, h, if_false, tabWfFrom, Bool.and_eq_true, decide_eq_true_eq]
      exact ⟨⟨h1, h2⟩, ih (k + 1) (by omega) (fun e he => hm e (by simp [he])) h3⟩

/-- Setting a key to a value keeps the canonical form, when the default given is the key's. -/
theorem tabWf_tabSet (d : Nat → α) (m : List (Nat × α)) (a : Nat) (v : α) (h : tabWf d m = true) :
    tabWf d (tabSet (d a) m a v) = true := by
  unfold tabSet tabWf at *
  split
  · exact tabWfFrom_tabErase d m a 0 h
  · next hv => exact tabWfFrom_tabInsert d _ a 0 v (by omega) hv (tabErase_no m a) (tabWfFrom_tabErase d m a 0 h)

/-- Leaving entries out keeps the canonical form. -/
theorem tabWfFrom_filter (d : Nat → α) (f : Nat × α → Bool) (m : List (Nat × α)) (lo : Nat) :
    tabWfFrom d lo m = true → tabWfFrom d lo (m.filter f) = true := by
  induction m generalizing lo with
  | nil => simp
  | cons e m ih =>
    obtain ⟨k, w⟩ := e
    simp only [tabWfFrom, Bool.and_eq_true, decide_eq_true_eq]
    rintro ⟨⟨h1, h2⟩, h3⟩
    rw [List.filter_cons]
    split
    · simp only [tabWfFrom, Bool.and_eq_true, decide_eq_true_eq]
      exact ⟨⟨h1, h2⟩, ih _ h3⟩
    · exact tabWfFrom_mono d _ (by omega) (ih _ h3)

theorem tabWf_filter (d : Nat → α) (f : Nat × α → Bool) (m : List (Nat × α)) (h : tabWf d m = true) :
    tabWf d (m.filter f) = true := tabWfFrom_filter d f m 0 h

/-- A run of writes keeps the canonical form of a table with one default. -/
theorem tabWf_tabSetList (d : α) (vs : List α) (m : List (Nat × α)) (a : Nat) (h : tabWf (fun _ => d) m = true) :
    tabWf (fun _ => d) (tabSetList d m a vs) = true := by
  induction vs generalizing m a with
  | nil => exact h
  | cons v vs ih => exact ih _ _ (tabWf_tabSet (fun _ => d) m a v h)

/-- What a run of writes leaves at a key. -/
theorem tabGet_tabSetList (d : α) (vs : List α) (m : List (Nat × α)) (a b : Nat) :
    tabGet d (tabSetList d m a vs) b = if a ≤ b ∧ b < a + vs.length then vs.getD (b - a) d else tabGet d m b := by
  induction vs generalizing m a with
  | nil => exact (if_neg (by simp only [List.length_nil]; omega)).symm
  | cons v vs ih =>
    simp only [tabSetList, ih, List.length_cons, tabGet_tabSet]
    by_cases h1 : b = a
    · subst h1; rw [if_neg (by omega), if_pos rfl, if_pos (by omega)]; simp
    · by_cases h2 : a + 1 ≤ b ∧ b < a + 1 + vs.length
      · have h3 : a ≤ b ∧ b < a + (vs.length + 1) := by omega
        obtain ⟨k, hk⟩ : ∃ k, b - a = k + 1 := ⟨b - a - 1, by omega⟩
        have hk' : b - (a + 1) = k := by omega
        simp [h2, h3, hk, hk']
      · have h3 : ¬ (a ≤ b ∧ b < a + (vs.length + 1)) := by omega
        rw [if_neg h2, if_neg h3, if_neg h1]

end

end Sys2Proof.Machine
end

