-- ==== Sys2Proof/Laws/State.lean ====
section
/-!
SUPPORT. What each primitive update of the state leaves alone, and what it writes.
-/

namespace Sys2Proof.Machine

/-! ## Fields an update leaves alone -/

section setPage
variable (s : State) (p : PageRef) (v : Page)
@[simp] theorem State.setPage_chip : (s.setPage p v).chip = s.chip := rfl
@[simp] theorem State.setPage_mtn : (s.setPage p v).mtn = s.mtn := rfl
@[simp] theorem State.setPage_pending : (s.setPage p v).pending = s.pending := rfl
@[simp] theorem State.setPage_freeCtr : (s.setPage p v).freeCtr = s.freeCtr := rfl
@[simp] theorem State.setPage_regs : (s.setPage p v).regs = s.regs := rfl
@[simp] theorem State.setPage_mem : (s.setPage p v).mem = s.mem := rfl
@[simp] theorem State.setPage_sram : (s.setPage p v).sram = s.sram := rfl
@[simp] theorem State.setPage_tempo : (s.setPage p v).tempo = s.tempo := rfl
@[simp] theorem State.setPage_hrs : (s.setPage p v).hrs = s.hrs := rfl
@[simp] theorem State.setPage_cues : (s.setPage p v).cues = s.cues := rfl
@[simp] theorem State.setPage_excused : (s.setPage p v).excused = s.excused := rfl
@[simp] theorem State.setPage_dma : (s.setPage p v).dma = s.dma := rfl
@[simp] theorem State.setPage_tiles : (s.setPage p v).tiles = s.tiles := rfl
@[simp] theorem State.setPage_notes : (s.setPage p v).notes = s.notes := rfl
@[simp] theorem State.setPage_out : (s.setPage p v).out = s.out := rfl
@[simp] theorem State.setPage_msix : (s.setPage p v).msix = s.msix := rfl
@[simp] theorem State.setPage_lvl : (s.setPage p v).lvl = s.lvl := rfl
@[simp] theorem State.setPage_cams : (s.setPage p v).cams = s.cams := rfl
@[simp] theorem State.setPage_dpp : (s.setPage p v).dpp = s.dpp := rfl
@[simp] theorem State.setPage_banks : (s.setPage p v).banks = s.banks := rfl
@[simp] theorem State.setPage_codec : (s.setPage p v).codec = s.codec := rfl
@[simp] theorem State.setPage_kv : (s.setPage p v).kv = s.kv := rfl
@[simp] theorem State.setPage_ports : (s.setPage p v).ports = s.ports := rfl
@[simp] theorem State.setPage_calibs : (s.setPage p v).calibs = s.calibs := rfl
@[simp] theorem State.setPage_trackers : (s.setPage p v).trackers = s.trackers := rfl
@[simp] theorem State.setPage_jsls : (s.setPage p v).jsls = s.jsls := rfl
@[simp] theorem State.setPage_loops : (s.setPage p v).loops = s.loops := rfl
@[simp] theorem State.setPage_proc : (s.setPage p v).proc = s.proc := rfl
@[simp] theorem State.setPage_hm : (s.setPage p v).hm = s.hm := rfl
@[simp] theorem State.setPage_safein : (s.setPage p v).safein = s.safein := rfl
@[simp] theorem State.setPage_boot : (s.setPage p v).boot = s.boot := rfl
@[simp] theorem State.setPage_dyn : (s.setPage p v).dyn = s.dyn := rfl
@[simp] theorem State.setPage_macs : (s.setPage p v).macs = s.macs := rfl
@[simp] theorem State.setPage_comp : (s.setPage p v).comp = s.comp := rfl
end setPage

section setReg
variable (s : State) (p : PageRef) (off : Nat) (v : Word)
@[simp] theorem State.setReg_chip : (s.setReg p off v).chip = s.chip := rfl
@[simp] theorem State.setReg_mtn : (s.setReg p off v).mtn = s.mtn := rfl
@[simp] theorem State.setReg_pending : (s.setReg p off v).pending = s.pending := rfl
@[simp] theorem State.setReg_freeCtr : (s.setReg p off v).freeCtr = s.freeCtr := rfl
@[simp] theorem State.setReg_pages : (s.setReg p off v).pages = s.pages := rfl
@[simp] theorem State.setReg_mem : (s.setReg p off v).mem = s.mem := rfl
@[simp] theorem State.setReg_sram : (s.setReg p off v).sram = s.sram := rfl
@[simp] theorem State.setReg_tempo : (s.setReg p off v).tempo = s.tempo := rfl
@[simp] theorem State.setReg_hrs : (s.setReg p off v).hrs = s.hrs := rfl
@[simp] theorem State.setReg_cues : (s.setReg p off v).cues = s.cues := rfl
@[simp] theorem State.setReg_excused : (s.setReg p off v).excused = s.excused := rfl
@[simp] theorem State.setReg_dma : (s.setReg p off v).dma = s.dma := rfl
@[simp] theorem State.setReg_tiles : (s.setReg p off v).tiles = s.tiles := rfl
@[simp] theorem State.setReg_notes : (s.setReg p off v).notes = s.notes := rfl
@[simp] theorem State.setReg_out : (s.setReg p off v).out = s.out := rfl
@[simp] theorem State.setReg_msix : (s.setReg p off v).msix = s.msix := rfl
@[simp] theorem State.setReg_lvl : (s.setReg p off v).lvl = s.lvl := rfl
@[simp] theorem State.setReg_cams : (s.setReg p off v).cams = s.cams := rfl
@[simp] theorem State.setReg_dpp : (s.setReg p off v).dpp = s.dpp := rfl
@[simp] theorem State.setReg_banks : (s.setReg p off v).banks = s.banks := rfl
@[simp] theorem State.setReg_codec : (s.setReg p off v).codec = s.codec := rfl
@[simp] theorem State.setReg_kv : (s.setReg p off v).kv = s.kv := rfl
@[simp] theorem State.setReg_ports : (s.setReg p off v).ports = s.ports := rfl
@[simp] theorem State.setReg_calibs : (s.setReg p off v).calibs = s.calibs := rfl
@[simp] theorem State.setReg_trackers : (s.setReg p off v).trackers = s.trackers := rfl
@[simp] theorem State.setReg_jsls : (s.setReg p off v).jsls = s.jsls := rfl
@[simp] theorem State.setReg_loops : (s.setReg p off v).loops = s.loops := rfl
@[simp] theorem State.setReg_proc : (s.setReg p off v).proc = s.proc := rfl
@[simp] theorem State.setReg_hm : (s.setReg p off v).hm = s.hm := rfl
@[simp] theorem State.setReg_safein : (s.setReg p off v).safein = s.safein := rfl
@[simp] theorem State.setReg_boot : (s.setReg p off v).boot = s.boot := rfl
@[simp] theorem State.setReg_dyn : (s.setReg p off v).dyn = s.dyn := rfl
@[simp] theorem State.setReg_macs : (s.setReg p off v).macs = s.macs := rfl
@[simp] theorem State.setReg_comp : (s.setReg p off v).comp = s.comp := rfl
end setReg

section resetRegs
variable (s : State) (p : PageRef) (lo hi : Nat)
@[simp] theorem State.resetRegs_chip : (s.resetRegs p lo hi).chip = s.chip := rfl
@[simp] theorem State.resetRegs_mtn : (s.resetRegs p lo hi).mtn = s.mtn := rfl
@[simp] theorem State.resetRegs_pending : (s.resetRegs p lo hi).pending = s.pending := rfl
@[simp] theorem State.resetRegs_freeCtr : (s.resetRegs p lo hi).freeCtr = s.freeCtr := rfl
@[simp] theorem State.resetRegs_pages : (s.resetRegs p lo hi).pages = s.pages := rfl
@[simp] theorem State.resetRegs_mem : (s.resetRegs p lo hi).mem = s.mem := rfl
@[simp] theorem State.resetRegs_sram : (s.resetRegs p lo hi).sram = s.sram := rfl
@[simp] theorem State.resetRegs_tempo : (s.resetRegs p lo hi).tempo = s.tempo := rfl
@[simp] theorem State.resetRegs_hrs : (s.resetRegs p lo hi).hrs = s.hrs := rfl
@[simp] theorem State.resetRegs_cues : (s.resetRegs p lo hi).cues = s.cues := rfl
@[simp] theorem State.resetRegs_excused : (s.resetRegs p lo hi).excused = s.excused := rfl
@[simp] theorem State.resetRegs_dma : (s.resetRegs p lo hi).dma = s.dma := rfl
@[simp] theorem State.resetRegs_tiles : (s.resetRegs p lo hi).tiles = s.tiles := rfl
@[simp] theorem State.resetRegs_notes : (s.resetRegs p lo hi).notes = s.notes := rfl
@[simp] theorem State.resetRegs_out : (s.resetRegs p lo hi).out = s.out := rfl
@[simp] theorem State.resetRegs_msix : (s.resetRegs p lo hi).msix = s.msix := rfl
@[simp] theorem State.resetRegs_lvl : (s.resetRegs p lo hi).lvl = s.lvl := rfl
@[simp] theorem State.resetRegs_cams : (s.resetRegs p lo hi).cams = s.cams := rfl
@[simp] theorem State.resetRegs_dpp : (s.resetRegs p lo hi).dpp = s.dpp := rfl
@[simp] theorem State.resetRegs_banks : (s.resetRegs p lo hi).banks = s.banks := rfl
@[simp] theorem State.resetRegs_codec : (s.resetRegs p lo hi).codec = s.codec := rfl
@[simp] theorem State.resetRegs_kv : (s.resetRegs p lo hi).kv = s.kv := rfl
@[simp] theorem State.resetRegs_ports : (s.resetRegs p lo hi).ports = s.ports := rfl
@[simp] theorem State.resetRegs_calibs : (s.resetRegs p lo hi).calibs = s.calibs := rfl
@[simp] theorem State.resetRegs_trackers : (s.resetRegs p lo hi).trackers = s.trackers := rfl
@[simp] theorem State.resetRegs_jsls : (s.resetRegs p lo hi).jsls = s.jsls := rfl
@[simp] theorem State.resetRegs_loops : (s.resetRegs p lo hi).loops = s.loops := rfl
@[simp] theorem State.resetRegs_proc : (s.resetRegs p lo hi).proc = s.proc := rfl
@[simp] theorem State.resetRegs_hm : (s.resetRegs p lo hi).hm = s.hm := rfl
@[simp] theorem State.resetRegs_safein : (s.resetRegs p lo hi).safein = s.safein := rfl
@[simp] theorem State.resetRegs_boot : (s.resetRegs p lo hi).boot = s.boot := rfl
@[simp] theorem State.resetRegs_dyn : (s.resetRegs p lo hi).dyn = s.dyn := rfl
@[simp] theorem State.resetRegs_macs : (s.resetRegs p lo hi).macs = s.macs := rfl
@[simp] theorem State.resetRegs_comp : (s.resetRegs p lo hi).comp = s.comp := rfl
end resetRegs

section setHr
variable (s : State) (h : Nat) (v : Hr)
@[simp] theorem State.setHr_chip : (s.setHr h v).chip = s.chip := rfl
@[simp] theorem State.setHr_mtn : (s.setHr h v).mtn = s.mtn := rfl
@[simp] theorem State.setHr_pending : (s.setHr h v).pending = s.pending := rfl
@[simp] theorem State.setHr_freeCtr : (s.setHr h v).freeCtr = s.freeCtr := rfl
@[simp] theorem State.setHr_pages : (s.setHr h v).pages = s.pages := rfl
@[simp] theorem State.setHr_regs : (s.setHr h v).regs = s.regs := rfl
@[simp] theorem State.setHr_mem : (s.setHr h v).mem = s.mem := rfl
@[simp] theorem State.setHr_sram : (s.setHr h v).sram = s.sram := rfl
@[simp] theorem State.setHr_tempo : (s.setHr h v).tempo = s.tempo := rfl
@[simp] theorem State.setHr_cues : (s.setHr h v).cues = s.cues := rfl
@[simp] theorem State.setHr_excused : (s.setHr h v).excused = s.excused := rfl
@[simp] theorem State.setHr_dma : (s.setHr h v).dma = s.dma := rfl
@[simp] theorem State.setHr_tiles : (s.setHr h v).tiles = s.tiles := rfl
@[simp] theorem State.setHr_notes : (s.setHr h v).notes = s.notes := rfl
@[simp] theorem State.setHr_out : (s.setHr h v).out = s.out := rfl
@[simp] theorem State.setHr_msix : (s.setHr h v).msix = s.msix := rfl
@[simp] theorem State.setHr_lvl : (s.setHr h v).lvl = s.lvl := rfl
@[simp] theorem State.setHr_cams : (s.setHr h v).cams = s.cams := rfl
@[simp] theorem State.setHr_dpp : (s.setHr h v).dpp = s.dpp := rfl
@[simp] theorem State.setHr_banks : (s.setHr h v).banks = s.banks := rfl
@[simp] theorem State.setHr_codec : (s.setHr h v).codec = s.codec := rfl
@[simp] theorem State.setHr_kv : (s.setHr h v).kv = s.kv := rfl
@[simp] theorem State.setHr_ports : (s.setHr h v).ports = s.ports := rfl
@[simp] theorem State.setHr_calibs : (s.setHr h v).calibs = s.calibs := rfl
@[simp] theorem State.setHr_trackers : (s.setHr h v).trackers = s.trackers := rfl
@[simp] theorem State.setHr_jsls : (s.setHr h v).jsls = s.jsls := rfl
@[simp] theorem State.setHr_loops : (s.setHr h v).loops = s.loops := rfl
@[simp] theorem State.setHr_proc : (s.setHr h v).proc = s.proc := rfl
@[simp] theorem State.setHr_hm : (s.setHr h v).hm = s.hm := rfl
@[simp] theorem State.setHr_safein : (s.setHr h v).safein = s.safein := rfl
@[simp] theorem State.setHr_boot : (s.setHr h v).boot = s.boot := rfl
@[simp] theorem State.setHr_dyn : (s.setHr h v).dyn = s.dyn := rfl
@[simp] theorem State.setHr_macs : (s.setHr h v).macs = s.macs := rfl
@[simp] theorem State.setHr_comp : (s.setHr h v).comp = s.comp := rfl
end setHr

section setTile
variable (s : State) (t : Nat) (v : Tile)
@[simp] theorem State.setTile_chip : (s.setTile t v).chip = s.chip := rfl
@[simp] theorem State.setTile_mtn : (s.setTile t v).mtn = s.mtn := rfl
@[simp] theorem State.setTile_pending : (s.setTile t v).pending = s.pending := rfl
@[simp] theorem State.setTile_freeCtr : (s.setTile t v).freeCtr = s.freeCtr := rfl
@[simp] theorem State.setTile_pages : (s.setTile t v).pages = s.pages := rfl
@[simp] theorem State.setTile_regs : (s.setTile t v).regs = s.regs := rfl
@[simp] theorem State.setTile_mem : (s.setTile t v).mem = s.mem := rfl
@[simp] theorem State.setTile_sram : (s.setTile t v).sram = s.sram := rfl
@[simp] theorem State.setTile_tempo : (s.setTile t v).tempo = s.tempo := rfl
@[simp] theorem State.setTile_hrs : (s.setTile t v).hrs = s.hrs := rfl
@[simp] theorem State.setTile_cues : (s.setTile t v).cues = s.cues := rfl
@[simp] theorem State.setTile_excused : (s.setTile t v).excused = s.excused := rfl
@[simp] theorem State.setTile_dma : (s.setTile t v).dma = s.dma := rfl
@[simp] theorem State.setTile_notes : (s.setTile t v).notes = s.notes := rfl
@[simp] theorem State.setTile_out : (s.setTile t v).out = s.out := rfl
@[simp] theorem State.setTile_msix : (s.setTile t v).msix = s.msix := rfl
@[simp] theorem State.setTile_lvl : (s.setTile t v).lvl = s.lvl := rfl
@[simp] theorem State.setTile_cams : (s.setTile t v).cams = s.cams := rfl
@[simp] theorem State.setTile_dpp : (s.setTile t v).dpp = s.dpp := rfl
@[simp] theorem State.setTile_banks : (s.setTile t v).banks = s.banks := rfl
@[simp] theorem State.setTile_codec : (s.setTile t v).codec = s.codec := rfl
@[simp] theorem State.setTile_kv : (s.setTile t v).kv = s.kv := rfl
@[simp] theorem State.setTile_ports : (s.setTile t v).ports = s.ports := rfl
@[simp] theorem State.setTile_calibs : (s.setTile t v).calibs = s.calibs := rfl
@[simp] theorem State.setTile_trackers : (s.setTile t v).trackers = s.trackers := rfl
@[simp] theorem State.setTile_jsls : (s.setTile t v).jsls = s.jsls := rfl
@[simp] theorem State.setTile_loops : (s.setTile t v).loops = s.loops := rfl
@[simp] theorem State.setTile_proc : (s.setTile t v).proc = s.proc := rfl
@[simp] theorem State.setTile_hm : (s.setTile t v).hm = s.hm := rfl
@[simp] theorem State.setTile_safein : (s.setTile t v).safein = s.safein := rfl
@[simp] theorem State.setTile_boot : (s.setTile t v).boot = s.boot := rfl
@[simp] theorem State.setTile_dyn : (s.setTile t v).dyn = s.dyn := rfl
@[simp] theorem State.setTile_macs : (s.setTile t v).macs = s.macs := rfl
@[simp] theorem State.setTile_comp : (s.setTile t v).comp = s.comp := rfl
end setTile

section setChan
variable (s : State) (c : Nat) (v : DmaChan)
@[simp] theorem State.setChan_chip : (s.setChan c v).chip = s.chip := rfl
@[simp] theorem State.setChan_mtn : (s.setChan c v).mtn = s.mtn := rfl
@[simp] theorem State.setChan_pending : (s.setChan c v).pending = s.pending := rfl
@[simp] theorem State.setChan_freeCtr : (s.setChan c v).freeCtr = s.freeCtr := rfl
@[simp] theorem State.setChan_pages : (s.setChan c v).pages = s.pages := rfl
@[simp] theorem State.setChan_regs : (s.setChan c v).regs = s.regs := rfl
@[simp] theorem State.setChan_mem : (s.setChan c v).mem = s.mem := rfl
@[simp] theorem State.setChan_sram : (s.setChan c v).sram = s.sram := rfl
@[simp] theorem State.setChan_tempo : (s.setChan c v).tempo = s.tempo := rfl
@[simp] theorem State.setChan_hrs : (s.setChan c v).hrs = s.hrs := rfl
@[simp] theorem State.setChan_cues : (s.setChan c v).cues = s.cues := rfl
@[simp] theorem State.setChan_excused : (s.setChan c v).excused = s.excused := rfl
@[simp] theorem State.setChan_tiles : (s.setChan c v).tiles = s.tiles := rfl
@[simp] theorem State.setChan_notes : (s.setChan c v).notes = s.notes := rfl
@[simp] theorem State.setChan_out : (s.setChan c v).out = s.out := rfl
@[simp] theorem State.setChan_msix : (s.setChan c v).msix = s.msix := rfl
@[simp] theorem State.setChan_lvl : (s.setChan c v).lvl = s.lvl := rfl
@[simp] theorem State.setChan_cams : (s.setChan c v).cams = s.cams := rfl
@[simp] theorem State.setChan_dpp : (s.setChan c v).dpp = s.dpp := rfl
@[simp] theorem State.setChan_banks : (s.setChan c v).banks = s.banks := rfl
@[simp] theorem State.setChan_codec : (s.setChan c v).codec = s.codec := rfl
@[simp] theorem State.setChan_kv : (s.setChan c v).kv = s.kv := rfl
@[simp] theorem State.setChan_ports : (s.setChan c v).ports = s.ports := rfl
@[simp] theorem State.setChan_calibs : (s.setChan c v).calibs = s.calibs := rfl
@[simp] theorem State.setChan_trackers : (s.setChan c v).trackers = s.trackers := rfl
@[simp] theorem State.setChan_jsls : (s.setChan c v).jsls = s.jsls := rfl
@[simp] theorem State.setChan_loops : (s.setChan c v).loops = s.loops := rfl
@[simp] theorem State.setChan_proc : (s.setChan c v).proc = s.proc := rfl
@[simp] theorem State.setChan_hm : (s.setChan c v).hm = s.hm := rfl
@[simp] theorem State.setChan_safein : (s.setChan c v).safein = s.safein := rfl
@[simp] theorem State.setChan_boot : (s.setChan c v).boot = s.boot := rfl
@[simp] theorem State.setChan_dyn : (s.setChan c v).dyn = s.dyn := rfl
@[simp] theorem State.setChan_macs : (s.setChan c v).macs = s.macs := rfl
@[simp] theorem State.setChan_comp : (s.setChan c v).comp = s.comp := rfl
end setChan

section drawFree
variable (s : State)
@[simp] theorem State.drawFree_chip : s.drawFree.chip = s.chip := rfl
@[simp] theorem State.drawFree_mtn : s.drawFree.mtn = s.mtn := rfl
@[simp] theorem State.drawFree_pending : s.drawFree.pending = s.pending := rfl
@[simp] theorem State.drawFree_pages : s.drawFree.pages = s.pages := rfl
@[simp] theorem State.drawFree_regs : s.drawFree.regs = s.regs := rfl
@[simp] theorem State.drawFree_mem : s.drawFree.mem = s.mem := rfl
@[simp] theorem State.drawFree_sram : s.drawFree.sram = s.sram := rfl
@[simp] theorem State.drawFree_tempo : s.drawFree.tempo = s.tempo := rfl
@[simp] theorem State.drawFree_hrs : s.drawFree.hrs = s.hrs := rfl
@[simp] theorem State.drawFree_cues : s.drawFree.cues = s.cues := rfl
@[simp] theorem State.drawFree_excused : s.drawFree.excused = s.excused := rfl
@[simp] theorem State.drawFree_dma : s.drawFree.dma = s.dma := rfl
@[simp] theorem State.drawFree_tiles : s.drawFree.tiles = s.tiles := rfl
@[simp] theorem State.drawFree_notes : s.drawFree.notes = s.notes := rfl
@[simp] theorem State.drawFree_out : s.drawFree.out = s.out := rfl
@[simp] theorem State.drawFree_msix : s.drawFree.msix = s.msix := rfl
@[simp] theorem State.drawFree_lvl : s.drawFree.lvl = s.lvl := rfl
@[simp] theorem State.drawFree_cams : s.drawFree.cams = s.cams := rfl
@[simp] theorem State.drawFree_dpp : s.drawFree.dpp = s.dpp := rfl
@[simp] theorem State.drawFree_banks : s.drawFree.banks = s.banks := rfl
@[simp] theorem State.drawFree_codec : s.drawFree.codec = s.codec := rfl
@[simp] theorem State.drawFree_kv : s.drawFree.kv = s.kv := rfl
@[simp] theorem State.drawFree_ports : s.drawFree.ports = s.ports := rfl
@[simp] theorem State.drawFree_calibs : s.drawFree.calibs = s.calibs := rfl
@[simp] theorem State.drawFree_trackers : s.drawFree.trackers = s.trackers := rfl
@[simp] theorem State.drawFree_jsls : s.drawFree.jsls = s.jsls := rfl
@[simp] theorem State.drawFree_loops : s.drawFree.loops = s.loops := rfl
@[simp] theorem State.drawFree_proc : s.drawFree.proc = s.proc := rfl
@[simp] theorem State.drawFree_hm : s.drawFree.hm = s.hm := rfl
@[simp] theorem State.drawFree_safein : s.drawFree.safein = s.safein := rfl
@[simp] theorem State.drawFree_boot : s.drawFree.boot = s.boot := rfl
@[simp] theorem State.drawFree_dyn : s.drawFree.dyn = s.dyn := rfl
@[simp] theorem State.drawFree_macs : s.drawFree.macs = s.macs := rfl
@[simp] theorem State.drawFree_comp : s.drawFree.comp = s.comp := rfl
end drawFree

section modTempo
variable (s : State) (f : Tempo → Tempo)
@[simp] theorem State.modTempo_chip : (s.modTempo f).chip = s.chip := rfl
@[simp] theorem State.modTempo_mtn : (s.modTempo f).mtn = s.mtn := rfl
@[simp] theorem State.modTempo_pending : (s.modTempo f).pending = s.pending := rfl
@[simp] theorem State.modTempo_freeCtr : (s.modTempo f).freeCtr = s.freeCtr := rfl
@[simp] theorem State.modTempo_pages : (s.modTempo f).pages = s.pages := rfl
@[simp] theorem State.modTempo_regs : (s.modTempo f).regs = s.regs := rfl
@[simp] theorem State.modTempo_mem : (s.modTempo f).mem = s.mem := rfl
@[simp] theorem State.modTempo_sram : (s.modTempo f).sram = s.sram := rfl
@[simp] theorem State.modTempo_hrs : (s.modTempo f).hrs = s.hrs := rfl
@[simp] theorem State.modTempo_cues : (s.modTempo f).cues = s.cues := rfl
@[simp] theorem State.modTempo_excused : (s.modTempo f).excused = s.excused := rfl
@[simp] theorem State.modTempo_dma : (s.modTempo f).dma = s.dma := rfl
@[simp] theorem State.modTempo_tiles : (s.modTempo f).tiles = s.tiles := rfl
@[simp] theorem State.modTempo_notes : (s.modTempo f).notes = s.notes := rfl
@[simp] theorem State.modTempo_out : (s.modTempo f).out = s.out := rfl
@[simp] theorem State.modTempo_msix : (s.modTempo f).msix = s.msix := rfl
@[simp] theorem State.modTempo_lvl : (s.modTempo f).lvl = s.lvl := rfl
@[simp] theorem State.modTempo_cams : (s.modTempo f).cams = s.cams := rfl
@[simp] theorem State.modTempo_dpp : (s.modTempo f).dpp = s.dpp := rfl
@[simp] theorem State.modTempo_banks : (s.modTempo f).banks = s.banks := rfl
@[simp] theorem State.modTempo_codec : (s.modTempo f).codec = s.codec := rfl
@[simp] theorem State.modTempo_kv : (s.modTempo f).kv = s.kv := rfl
@[simp] theorem State.modTempo_ports : (s.modTempo f).ports = s.ports := rfl
@[simp] theorem State.modTempo_calibs : (s.modTempo f).calibs = s.calibs := rfl
@[simp] theorem State.modTempo_trackers : (s.modTempo f).trackers = s.trackers := rfl
@[simp] theorem State.modTempo_jsls : (s.modTempo f).jsls = s.jsls := rfl
@[simp] theorem State.modTempo_loops : (s.modTempo f).loops = s.loops := rfl
@[simp] theorem State.modTempo_proc : (s.modTempo f).proc = s.proc := rfl
@[simp] theorem State.modTempo_hm : (s.modTempo f).hm = s.hm := rfl
@[simp] theorem State.modTempo_safein : (s.modTempo f).safein = s.safein := rfl
@[simp] theorem State.modTempo_boot : (s.modTempo f).boot = s.boot := rfl
@[simp] theorem State.modTempo_dyn : (s.modTempo f).dyn = s.dyn := rfl
@[simp] theorem State.modTempo_macs : (s.modTempo f).macs = s.macs := rfl
@[simp] theorem State.modTempo_comp : (s.modTempo f).comp = s.comp := rfl
end modTempo

section modDyn
variable (s : State) (f : DynUnit → DynUnit)
@[simp] theorem State.modDyn_chip : (s.modDyn f).chip = s.chip := rfl
@[simp] theorem State.modDyn_mtn : (s.modDyn f).mtn = s.mtn := rfl
@[simp] theorem State.modDyn_pending : (s.modDyn f).pending = s.pending := rfl
@[simp] theorem State.modDyn_freeCtr : (s.modDyn f).freeCtr = s.freeCtr := rfl
@[simp] theorem State.modDyn_pages : (s.modDyn f).pages = s.pages := rfl
@[simp] theorem State.modDyn_regs : (s.modDyn f).regs = s.regs := rfl
@[simp] theorem State.modDyn_mem : (s.modDyn f).mem = s.mem := rfl
@[simp] theorem State.modDyn_sram : (s.modDyn f).sram = s.sram := rfl
@[simp] theorem State.modDyn_tempo : (s.modDyn f).tempo = s.tempo := rfl
@[simp] theorem State.modDyn_hrs : (s.modDyn f).hrs = s.hrs := rfl
@[simp] theorem State.modDyn_cues : (s.modDyn f).cues = s.cues := rfl
@[simp] theorem State.modDyn_excused : (s.modDyn f).excused = s.excused := rfl
@[simp] theorem State.modDyn_dma : (s.modDyn f).dma = s.dma := rfl
@[simp] theorem State.modDyn_tiles : (s.modDyn f).tiles = s.tiles := rfl
@[simp] theorem State.modDyn_notes : (s.modDyn f).notes = s.notes := rfl
@[simp] theorem State.modDyn_out : (s.modDyn f).out = s.out := rfl
@[simp] theorem State.modDyn_msix : (s.modDyn f).msix = s.msix := rfl
@[simp] theorem State.modDyn_lvl : (s.modDyn f).lvl = s.lvl := rfl
@[simp] theorem State.modDyn_cams : (s.modDyn f).cams = s.cams := rfl
@[simp] theorem State.modDyn_dpp : (s.modDyn f).dpp = s.dpp := rfl
@[simp] theorem State.modDyn_banks : (s.modDyn f).banks = s.banks := rfl
@[simp] theorem State.modDyn_codec : (s.modDyn f).codec = s.codec := rfl
@[simp] theorem State.modDyn_kv : (s.modDyn f).kv = s.kv := rfl
@[simp] theorem State.modDyn_ports : (s.modDyn f).ports = s.ports := rfl
@[simp] theorem State.modDyn_calibs : (s.modDyn f).calibs = s.calibs := rfl
@[simp] theorem State.modDyn_trackers : (s.modDyn f).trackers = s.trackers := rfl
@[simp] theorem State.modDyn_jsls : (s.modDyn f).jsls = s.jsls := rfl
@[simp] theorem State.modDyn_loops : (s.modDyn f).loops = s.loops := rfl
@[simp] theorem State.modDyn_proc : (s.modDyn f).proc = s.proc := rfl
@[simp] theorem State.modDyn_hm : (s.modDyn f).hm = s.hm := rfl
@[simp] theorem State.modDyn_safein : (s.modDyn f).safein = s.safein := rfl
@[simp] theorem State.modDyn_boot : (s.modDyn f).boot = s.boot := rfl
@[simp] theorem State.modDyn_macs : (s.modDyn f).macs = s.macs := rfl
@[simp] theorem State.modDyn_comp : (s.modDyn f).comp = s.comp := rfl
end modDyn

section modComp
variable (s : State) (f : CompUnit → CompUnit)
@[simp] theorem State.modComp_chip : (s.modComp f).chip = s.chip := rfl
@[simp] theorem State.modComp_mtn : (s.modComp f).mtn = s.mtn := rfl
@[simp] theorem State.modComp_pending : (s.modComp f).pending = s.pending := rfl
@[simp] theorem State.modComp_freeCtr : (s.modComp f).freeCtr = s.freeCtr := rfl
@[simp] theorem State.modComp_pages : (s.modComp f).pages = s.pages := rfl
@[simp] theorem State.modComp_regs : (s.modComp f).regs = s.regs := rfl
@[simp] theorem State.modComp_mem : (s.modComp f).mem = s.mem := rfl
@[simp] theorem State.modComp_sram : (s.modComp f).sram = s.sram := rfl
@[simp] theorem State.modComp_tempo : (s.modComp f).tempo = s.tempo := rfl
@[simp] theorem State.modComp_hrs : (s.modComp f).hrs = s.hrs := rfl
@[simp] theorem State.modComp_cues : (s.modComp f).cues = s.cues := rfl
@[simp] theorem State.modComp_excused : (s.modComp f).excused = s.excused := rfl
@[simp] theorem State.modComp_dma : (s.modComp f).dma = s.dma := rfl
@[simp] theorem State.modComp_tiles : (s.modComp f).tiles = s.tiles := rfl
@[simp] theorem State.modComp_notes : (s.modComp f).notes = s.notes := rfl
@[simp] theorem State.modComp_out : (s.modComp f).out = s.out := rfl
@[simp] theorem State.modComp_msix : (s.modComp f).msix = s.msix := rfl
@[simp] theorem State.modComp_lvl : (s.modComp f).lvl = s.lvl := rfl
@[simp] theorem State.modComp_cams : (s.modComp f).cams = s.cams := rfl
@[simp] theorem State.modComp_dpp : (s.modComp f).dpp = s.dpp := rfl
@[simp] theorem State.modComp_banks : (s.modComp f).banks = s.banks := rfl
@[simp] theorem State.modComp_codec : (s.modComp f).codec = s.codec := rfl
@[simp] theorem State.modComp_kv : (s.modComp f).kv = s.kv := rfl
@[simp] theorem State.modComp_ports : (s.modComp f).ports = s.ports := rfl
@[simp] theorem State.modComp_calibs : (s.modComp f).calibs = s.calibs := rfl
@[simp] theorem State.modComp_trackers : (s.modComp f).trackers = s.trackers := rfl
@[simp] theorem State.modComp_jsls : (s.modComp f).jsls = s.jsls := rfl
@[simp] theorem State.modComp_loops : (s.modComp f).loops = s.loops := rfl
@[simp] theorem State.modComp_proc : (s.modComp f).proc = s.proc := rfl
@[simp] theorem State.modComp_hm : (s.modComp f).hm = s.hm := rfl
@[simp] theorem State.modComp_safein : (s.modComp f).safein = s.safein := rfl
@[simp] theorem State.modComp_boot : (s.modComp f).boot = s.boot := rfl
@[simp] theorem State.modComp_dyn : (s.modComp f).dyn = s.dyn := rfl
@[simp] theorem State.modComp_macs : (s.modComp f).macs = s.macs := rfl
end modComp

section modBoot
variable (s : State) (f : BootUnit → BootUnit)
@[simp] theorem State.modBoot_chip : (s.modBoot f).chip = s.chip := rfl
@[simp] theorem State.modBoot_mtn : (s.modBoot f).mtn = s.mtn := rfl
@[simp] theorem State.modBoot_pending : (s.modBoot f).pending = s.pending := rfl
@[simp] theorem State.modBoot_freeCtr : (s.modBoot f).freeCtr = s.freeCtr := rfl
@[simp] theorem State.modBoot_pages : (s.modBoot f).pages = s.pages := rfl
@[simp] theorem State.modBoot_regs : (s.modBoot f).regs = s.regs := rfl
@[simp] theorem State.modBoot_mem : (s.modBoot f).mem = s.mem := rfl
@[simp] theorem State.modBoot_sram : (s.modBoot f).sram = s.sram := rfl
@[simp] theorem State.modBoot_tempo : (s.modBoot f).tempo = s.tempo := rfl
@[simp] theorem State.modBoot_hrs : (s.modBoot f).hrs = s.hrs := rfl
@[simp] theorem State.modBoot_cues : (s.modBoot f).cues = s.cues := rfl
@[simp] theorem State.modBoot_excused : (s.modBoot f).excused = s.excused := rfl
@[simp] theorem State.modBoot_dma : (s.modBoot f).dma = s.dma := rfl
@[simp] theorem State.modBoot_tiles : (s.modBoot f).tiles = s.tiles := rfl
@[simp] theorem State.modBoot_notes : (s.modBoot f).notes = s.notes := rfl
@[simp] theorem State.modBoot_out : (s.modBoot f).out = s.out := rfl
@[simp] theorem State.modBoot_msix : (s.modBoot f).msix = s.msix := rfl
@[simp] theorem State.modBoot_lvl : (s.modBoot f).lvl = s.lvl := rfl
@[simp] theorem State.modBoot_cams : (s.modBoot f).cams = s.cams := rfl
@[simp] theorem State.modBoot_dpp : (s.modBoot f).dpp = s.dpp := rfl
@[simp] theorem State.modBoot_banks : (s.modBoot f).banks = s.banks := rfl
@[simp] theorem State.modBoot_codec : (s.modBoot f).codec = s.codec := rfl
@[simp] theorem State.modBoot_kv : (s.modBoot f).kv = s.kv := rfl
@[simp] theorem State.modBoot_ports : (s.modBoot f).ports = s.ports := rfl
@[simp] theorem State.modBoot_calibs : (s.modBoot f).calibs = s.calibs := rfl
@[simp] theorem State.modBoot_trackers : (s.modBoot f).trackers = s.trackers := rfl
@[simp] theorem State.modBoot_jsls : (s.modBoot f).jsls = s.jsls := rfl
@[simp] theorem State.modBoot_loops : (s.modBoot f).loops = s.loops := rfl
@[simp] theorem State.modBoot_proc : (s.modBoot f).proc = s.proc := rfl
@[simp] theorem State.modBoot_hm : (s.modBoot f).hm = s.hm := rfl
@[simp] theorem State.modBoot_safein : (s.modBoot f).safein = s.safein := rfl
@[simp] theorem State.modBoot_dyn : (s.modBoot f).dyn = s.dyn := rfl
@[simp] theorem State.modBoot_macs : (s.modBoot f).macs = s.macs := rfl
@[simp] theorem State.modBoot_comp : (s.modBoot f).comp = s.comp := rfl
end modBoot

section modKv
variable (s : State) (f : Kv → Kv)
@[simp] theorem State.modKv_chip : (s.modKv f).chip = s.chip := rfl
@[simp] theorem State.modKv_mtn : (s.modKv f).mtn = s.mtn := rfl
@[simp] theorem State.modKv_pending : (s.modKv f).pending = s.pending := rfl
@[simp] theorem State.modKv_freeCtr : (s.modKv f).freeCtr = s.freeCtr := rfl
@[simp] theorem State.modKv_pages : (s.modKv f).pages = s.pages := rfl
@[simp] theorem State.modKv_regs : (s.modKv f).regs = s.regs := rfl
@[simp] theorem State.modKv_mem : (s.modKv f).mem = s.mem := rfl
@[simp] theorem State.modKv_sram : (s.modKv f).sram = s.sram := rfl
@[simp] theorem State.modKv_tempo : (s.modKv f).tempo = s.tempo := rfl
@[simp] theorem State.modKv_hrs : (s.modKv f).hrs = s.hrs := rfl
@[simp] theorem State.modKv_cues : (s.modKv f).cues = s.cues := rfl
@[simp] theorem State.modKv_excused : (s.modKv f).excused = s.excused := rfl
@[simp] theorem State.modKv_dma : (s.modKv f).dma = s.dma := rfl
@[simp] theorem State.modKv_tiles : (s.modKv f).tiles = s.tiles := rfl
@[simp] theorem State.modKv_notes : (s.modKv f).notes = s.notes := rfl
@[simp] theorem State.modKv_out : (s.modKv f).out = s.out := rfl
@[simp] theorem State.modKv_msix : (s.modKv f).msix = s.msix := rfl
@[simp] theorem State.modKv_lvl : (s.modKv f).lvl = s.lvl := rfl
@[simp] theorem State.modKv_cams : (s.modKv f).cams = s.cams := rfl
@[simp] theorem State.modKv_dpp : (s.modKv f).dpp = s.dpp := rfl
@[simp] theorem State.modKv_banks : (s.modKv f).banks = s.banks := rfl
@[simp] theorem State.modKv_codec : (s.modKv f).codec = s.codec := rfl
@[simp] theorem State.modKv_ports : (s.modKv f).ports = s.ports := rfl
@[simp] theorem State.modKv_calibs : (s.modKv f).calibs = s.calibs := rfl
@[simp] theorem State.modKv_trackers : (s.modKv f).trackers = s.trackers := rfl
@[simp] theorem State.modKv_jsls : (s.modKv f).jsls = s.jsls := rfl
@[simp] theorem State.modKv_loops : (s.modKv f).loops = s.loops := rfl
@[simp] theorem State.modKv_proc : (s.modKv f).proc = s.proc := rfl
@[simp] theorem State.modKv_hm : (s.modKv f).hm = s.hm := rfl
@[simp] theorem State.modKv_safein : (s.modKv f).safein = s.safein := rfl
@[simp] theorem State.modKv_boot : (s.modKv f).boot = s.boot := rfl
@[simp] theorem State.modKv_dyn : (s.modKv f).dyn = s.dyn := rfl
@[simp] theorem State.modKv_macs : (s.modKv f).macs = s.macs := rfl
@[simp] theorem State.modKv_comp : (s.modKv f).comp = s.comp := rfl
end modKv

section modProc
variable (s : State) (f : ProctorUnit → ProctorUnit)
@[simp] theorem State.modProc_chip : (s.modProc f).chip = s.chip := rfl
@[simp] theorem State.modProc_mtn : (s.modProc f).mtn = s.mtn := rfl
@[simp] theorem State.modProc_pending : (s.modProc f).pending = s.pending := rfl
@[simp] theorem State.modProc_freeCtr : (s.modProc f).freeCtr = s.freeCtr := rfl
@[simp] theorem State.modProc_pages : (s.modProc f).pages = s.pages := rfl
@[simp] theorem State.modProc_regs : (s.modProc f).regs = s.regs := rfl
@[simp] theorem State.modProc_mem : (s.modProc f).mem = s.mem := rfl
@[simp] theorem State.modProc_sram : (s.modProc f).sram = s.sram := rfl
@[simp] theorem State.modProc_tempo : (s.modProc f).tempo = s.tempo := rfl
@[simp] theorem State.modProc_hrs : (s.modProc f).hrs = s.hrs := rfl
@[simp] theorem State.modProc_cues : (s.modProc f).cues = s.cues := rfl
@[simp] theorem State.modProc_excused : (s.modProc f).excused = s.excused := rfl
@[simp] theorem State.modProc_dma : (s.modProc f).dma = s.dma := rfl
@[simp] theorem State.modProc_tiles : (s.modProc f).tiles = s.tiles := rfl
@[simp] theorem State.modProc_notes : (s.modProc f).notes = s.notes := rfl
@[simp] theorem State.modProc_out : (s.modProc f).out = s.out := rfl
@[simp] theorem State.modProc_msix : (s.modProc f).msix = s.msix := rfl
@[simp] theorem State.modProc_lvl : (s.modProc f).lvl = s.lvl := rfl
@[simp] theorem State.modProc_cams : (s.modProc f).cams = s.cams := rfl
@[simp] theorem State.modProc_dpp : (s.modProc f).dpp = s.dpp := rfl
@[simp] theorem State.modProc_banks : (s.modProc f).banks = s.banks := rfl
@[simp] theorem State.modProc_codec : (s.modProc f).codec = s.codec := rfl
@[simp] theorem State.modProc_kv : (s.modProc f).kv = s.kv := rfl
@[simp] theorem State.modProc_ports : (s.modProc f).ports = s.ports := rfl
@[simp] theorem State.modProc_calibs : (s.modProc f).calibs = s.calibs := rfl
@[simp] theorem State.modProc_trackers : (s.modProc f).trackers = s.trackers := rfl
@[simp] theorem State.modProc_jsls : (s.modProc f).jsls = s.jsls := rfl
@[simp] theorem State.modProc_loops : (s.modProc f).loops = s.loops := rfl
@[simp] theorem State.modProc_hm : (s.modProc f).hm = s.hm := rfl
@[simp] theorem State.modProc_safein : (s.modProc f).safein = s.safein := rfl
@[simp] theorem State.modProc_boot : (s.modProc f).boot = s.boot := rfl
@[simp] theorem State.modProc_dyn : (s.modProc f).dyn = s.dyn := rfl
@[simp] theorem State.modProc_macs : (s.modProc f).macs = s.macs := rfl
@[simp] theorem State.modProc_comp : (s.modProc f).comp = s.comp := rfl
end modProc

section setMac
variable (s : State) (m : Nat) (x : EthMac)
@[simp] theorem State.setMac_chip : (s.setMac m x).chip = s.chip := rfl
@[simp] theorem State.setMac_mtn : (s.setMac m x).mtn = s.mtn := rfl
@[simp] theorem State.setMac_pending : (s.setMac m x).pending = s.pending := rfl
@[simp] theorem State.setMac_freeCtr : (s.setMac m x).freeCtr = s.freeCtr := rfl
@[simp] theorem State.setMac_pages : (s.setMac m x).pages = s.pages := rfl
@[simp] theorem State.setMac_regs : (s.setMac m x).regs = s.regs := rfl
@[simp] theorem State.setMac_mem : (s.setMac m x).mem = s.mem := rfl
@[simp] theorem State.setMac_sram : (s.setMac m x).sram = s.sram := rfl
@[simp] theorem State.setMac_tempo : (s.setMac m x).tempo = s.tempo := rfl
@[simp] theorem State.setMac_hrs : (s.setMac m x).hrs = s.hrs := rfl
@[simp] theorem State.setMac_cues : (s.setMac m x).cues = s.cues := rfl
@[simp] theorem State.setMac_excused : (s.setMac m x).excused = s.excused := rfl
@[simp] theorem State.setMac_dma : (s.setMac m x).dma = s.dma := rfl
@[simp] theorem State.setMac_tiles : (s.setMac m x).tiles = s.tiles := rfl
@[simp] theorem State.setMac_notes : (s.setMac m x).notes = s.notes := rfl
@[simp] theorem State.setMac_out : (s.setMac m x).out = s.out := rfl
@[simp] theorem State.setMac_msix : (s.setMac m x).msix = s.msix := rfl
@[simp] theorem State.setMac_lvl : (s.setMac m x).lvl = s.lvl := rfl
@[simp] theorem State.setMac_cams : (s.setMac m x).cams = s.cams := rfl
@[simp] theorem State.setMac_dpp : (s.setMac m x).dpp = s.dpp := rfl
@[simp] theorem State.setMac_banks : (s.setMac m x).banks = s.banks := rfl
@[simp] theorem State.setMac_codec : (s.setMac m x).codec = s.codec := rfl
@[simp] theorem State.setMac_kv : (s.setMac m x).kv = s.kv := rfl
@[simp] theorem State.setMac_ports : (s.setMac m x).ports = s.ports := rfl
@[simp] theorem State.setMac_calibs : (s.setMac m x).calibs = s.calibs := rfl
@[simp] theorem State.setMac_trackers : (s.setMac m x).trackers = s.trackers := rfl
@[simp] theorem State.setMac_jsls : (s.setMac m x).jsls = s.jsls := rfl
@[simp] theorem State.setMac_loops : (s.setMac m x).loops = s.loops := rfl
@[simp] theorem State.setMac_proc : (s.setMac m x).proc = s.proc := rfl
@[simp] theorem State.setMac_hm : (s.setMac m x).hm = s.hm := rfl
@[simp] theorem State.setMac_safein : (s.setMac m x).safein = s.safein := rfl
@[simp] theorem State.setMac_boot : (s.setMac m x).boot = s.boot := rfl
@[simp] theorem State.setMac_dyn : (s.setMac m x).dyn = s.dyn := rfl
@[simp] theorem State.setMac_comp : (s.setMac m x).comp = s.comp := rfl
end setMac

section setCam
variable (s : State) (n : Nat) (v : Cam)
@[simp] theorem State.setCam_chip : (s.setCam n v).chip = s.chip := rfl
@[simp] theorem State.setCam_mtn : (s.setCam n v).mtn = s.mtn := rfl
@[simp] theorem State.setCam_pending : (s.setCam n v).pending = s.pending := rfl
@[simp] theorem State.setCam_freeCtr : (s.setCam n v).freeCtr = s.freeCtr := rfl
@[simp] theorem State.setCam_pages : (s.setCam n v).pages = s.pages := rfl
@[simp] theorem State.setCam_regs : (s.setCam n v).regs = s.regs := rfl
@[simp] theorem State.setCam_mem : (s.setCam n v).mem = s.mem := rfl
@[simp] theorem State.setCam_sram : (s.setCam n v).sram = s.sram := rfl
@[simp] theorem State.setCam_tempo : (s.setCam n v).tempo = s.tempo := rfl
@[simp] theorem State.setCam_hrs : (s.setCam n v).hrs = s.hrs := rfl
@[simp] theorem State.setCam_cues : (s.setCam n v).cues = s.cues := rfl
@[simp] theorem State.setCam_excused : (s.setCam n v).excused = s.excused := rfl
@[simp] theorem State.setCam_dma : (s.setCam n v).dma = s.dma := rfl
@[simp] theorem State.setCam_tiles : (s.setCam n v).tiles = s.tiles := rfl
@[simp] theorem State.setCam_notes : (s.setCam n v).notes = s.notes := rfl
@[simp] theorem State.setCam_out : (s.setCam n v).out = s.out := rfl
@[simp] theorem State.setCam_msix : (s.setCam n v).msix = s.msix := rfl
@[simp] theorem State.setCam_lvl : (s.setCam n v).lvl = s.lvl := rfl
@[simp] theorem State.setCam_dpp : (s.setCam n v).dpp = s.dpp := rfl
@[simp] theorem State.setCam_banks : (s.setCam n v).banks = s.banks := rfl
@[simp] theorem State.setCam_codec : (s.setCam n v).codec = s.codec := rfl
@[simp] theorem State.setCam_kv : (s.setCam n v).kv = s.kv := rfl
@[simp] theorem State.setCam_ports : (s.setCam n v).ports = s.ports := rfl
@[simp] theorem State.setCam_calibs : (s.setCam n v).calibs = s.calibs := rfl
@[simp] theorem State.setCam_trackers : (s.setCam n v).trackers = s.trackers := rfl
@[simp] theorem State.setCam_jsls : (s.setCam n v).jsls = s.jsls := rfl
@[simp] theorem State.setCam_loops : (s.setCam n v).loops = s.loops := rfl
@[simp] theorem State.setCam_proc : (s.setCam n v).proc = s.proc := rfl
@[simp] theorem State.setCam_hm : (s.setCam n v).hm = s.hm := rfl
@[simp] theorem State.setCam_safein : (s.setCam n v).safein = s.safein := rfl
@[simp] theorem State.setCam_boot : (s.setCam n v).boot = s.boot := rfl
@[simp] theorem State.setCam_dyn : (s.setCam n v).dyn = s.dyn := rfl
@[simp] theorem State.setCam_macs : (s.setCam n v).macs = s.macs := rfl
@[simp] theorem State.setCam_comp : (s.setCam n v).comp = s.comp := rfl
end setCam

section setTrk
variable (s : State) (n : Nat) (x : Tracker)
@[simp] theorem State.setTrk_chip : (s.setTrk n x).chip = s.chip := rfl
@[simp] theorem State.setTrk_mtn : (s.setTrk n x).mtn = s.mtn := rfl
@[simp] theorem State.setTrk_pending : (s.setTrk n x).pending = s.pending := rfl
@[simp] theorem State.setTrk_freeCtr : (s.setTrk n x).freeCtr = s.freeCtr := rfl
@[simp] theorem State.setTrk_pages : (s.setTrk n x).pages = s.pages := rfl
@[simp] theorem State.setTrk_regs : (s.setTrk n x).regs = s.regs := rfl
@[simp] theorem State.setTrk_mem : (s.setTrk n x).mem = s.mem := rfl
@[simp] theorem State.setTrk_sram : (s.setTrk n x).sram = s.sram := rfl
@[simp] theorem State.setTrk_tempo : (s.setTrk n x).tempo = s.tempo := rfl
@[simp] theorem State.setTrk_hrs : (s.setTrk n x).hrs = s.hrs := rfl
@[simp] theorem State.setTrk_cues : (s.setTrk n x).cues = s.cues := rfl
@[simp] theorem State.setTrk_excused : (s.setTrk n x).excused = s.excused := rfl
@[simp] theorem State.setTrk_dma : (s.setTrk n x).dma = s.dma := rfl
@[simp] theorem State.setTrk_tiles : (s.setTrk n x).tiles = s.tiles := rfl
@[simp] theorem State.setTrk_notes : (s.setTrk n x).notes = s.notes := rfl
@[simp] theorem State.setTrk_out : (s.setTrk n x).out = s.out := rfl
@[simp] theorem State.setTrk_msix : (s.setTrk n x).msix = s.msix := rfl
@[simp] theorem State.setTrk_lvl : (s.setTrk n x).lvl = s.lvl := rfl
@[simp] theorem State.setTrk_cams : (s.setTrk n x).cams = s.cams := rfl
@[simp] theorem State.setTrk_dpp : (s.setTrk n x).dpp = s.dpp := rfl
@[simp] theorem State.setTrk_banks : (s.setTrk n x).banks = s.banks := rfl
@[simp] theorem State.setTrk_codec : (s.setTrk n x).codec = s.codec := rfl
@[simp] theorem State.setTrk_kv : (s.setTrk n x).kv = s.kv := rfl
@[simp] theorem State.setTrk_ports : (s.setTrk n x).ports = s.ports := rfl
@[simp] theorem State.setTrk_calibs : (s.setTrk n x).calibs = s.calibs := rfl
@[simp] theorem State.setTrk_jsls : (s.setTrk n x).jsls = s.jsls := rfl
@[simp] theorem State.setTrk_loops : (s.setTrk n x).loops = s.loops := rfl
@[simp] theorem State.setTrk_proc : (s.setTrk n x).proc = s.proc := rfl
@[simp] theorem State.setTrk_hm : (s.setTrk n x).hm = s.hm := rfl
@[simp] theorem State.setTrk_safein : (s.setTrk n x).safein = s.safein := rfl
@[simp] theorem State.setTrk_boot : (s.setTrk n x).boot = s.boot := rfl
@[simp] theorem State.setTrk_dyn : (s.setTrk n x).dyn = s.dyn := rfl
@[simp] theorem State.setTrk_macs : (s.setTrk n x).macs = s.macs := rfl
@[simp] theorem State.setTrk_comp : (s.setTrk n x).comp = s.comp := rfl
end setTrk

section setBank
variable (s : State) (k : Nat) (b : Bank)
@[simp] theorem State.setBank_chip : (s.setBank k b).chip = s.chip := rfl
@[simp] theorem State.setBank_mtn : (s.setBank k b).mtn = s.mtn := rfl
@[simp] theorem State.setBank_pending : (s.setBank k b).pending = s.pending := rfl
@[simp] theorem State.setBank_freeCtr : (s.setBank k b).freeCtr = s.freeCtr := rfl
@[simp] theorem State.setBank_pages : (s.setBank k b).pages = s.pages := rfl
@[simp] theorem State.setBank_regs : (s.setBank k b).regs = s.regs := rfl
@[simp] theorem State.setBank_mem : (s.setBank k b).mem = s.mem := rfl
@[simp] theorem State.setBank_sram : (s.setBank k b).sram = s.sram := rfl
@[simp] theorem State.setBank_tempo : (s.setBank k b).tempo = s.tempo := rfl
@[simp] theorem State.setBank_hrs : (s.setBank k b).hrs = s.hrs := rfl
@[simp] theorem State.setBank_cues : (s.setBank k b).cues = s.cues := rfl
@[simp] theorem State.setBank_excused : (s.setBank k b).excused = s.excused := rfl
@[simp] theorem State.setBank_dma : (s.setBank k b).dma = s.dma := rfl
@[simp] theorem State.setBank_tiles : (s.setBank k b).tiles = s.tiles := rfl
@[simp] theorem State.setBank_notes : (s.setBank k b).notes = s.notes := rfl
@[simp] theorem State.setBank_out : (s.setBank k b).out = s.out := rfl
@[simp] theorem State.setBank_msix : (s.setBank k b).msix = s.msix := rfl
@[simp] theorem State.setBank_lvl : (s.setBank k b).lvl = s.lvl := rfl
@[simp] theorem State.setBank_cams : (s.setBank k b).cams = s.cams := rfl
@[simp] theorem State.setBank_dpp : (s.setBank k b).dpp = s.dpp := rfl
@[simp] theorem State.setBank_codec : (s.setBank k b).codec = s.codec := rfl
@[simp] theorem State.setBank_kv : (s.setBank k b).kv = s.kv := rfl
@[simp] theorem State.setBank_ports : (s.setBank k b).ports = s.ports := rfl
@[simp] theorem State.setBank_calibs : (s.setBank k b).calibs = s.calibs := rfl
@[simp] theorem State.setBank_trackers : (s.setBank k b).trackers = s.trackers := rfl
@[simp] theorem State.setBank_jsls : (s.setBank k b).jsls = s.jsls := rfl
@[simp] theorem State.setBank_loops : (s.setBank k b).loops = s.loops := rfl
@[simp] theorem State.setBank_proc : (s.setBank k b).proc = s.proc := rfl
@[simp] theorem State.setBank_hm : (s.setBank k b).hm = s.hm := rfl
@[simp] theorem State.setBank_safein : (s.setBank k b).safein = s.safein := rfl
@[simp] theorem State.setBank_boot : (s.setBank k b).boot = s.boot := rfl
@[simp] theorem State.setBank_dyn : (s.setBank k b).dyn = s.dyn := rfl
@[simp] theorem State.setBank_macs : (s.setBank k b).macs = s.macs := rfl
@[simp] theorem State.setBank_comp : (s.setBank k b).comp = s.comp := rfl
end setBank

section setJsl
variable (s : State) (p : Nat) (x : JslPort)
@[simp] theorem State.setJsl_chip : (s.setJsl p x).chip = s.chip := rfl
@[simp] theorem State.setJsl_mtn : (s.setJsl p x).mtn = s.mtn := rfl
@[simp] theorem State.setJsl_pending : (s.setJsl p x).pending = s.pending := rfl
@[simp] theorem State.setJsl_freeCtr : (s.setJsl p x).freeCtr = s.freeCtr := rfl
@[simp] theorem State.setJsl_pages : (s.setJsl p x).pages = s.pages := rfl
@[simp] theorem State.setJsl_regs : (s.setJsl p x).regs = s.regs := rfl
@[simp] theorem State.setJsl_mem : (s.setJsl p x).mem = s.mem := rfl
@[simp] theorem State.setJsl_sram : (s.setJsl p x).sram = s.sram := rfl
@[simp] theorem State.setJsl_tempo : (s.setJsl p x).tempo = s.tempo := rfl
@[simp] theorem State.setJsl_hrs : (s.setJsl p x).hrs = s.hrs := rfl
@[simp] theorem State.setJsl_cues : (s.setJsl p x).cues = s.cues := rfl
@[simp] theorem State.setJsl_excused : (s.setJsl p x).excused = s.excused := rfl
@[simp] theorem State.setJsl_dma : (s.setJsl p x).dma = s.dma := rfl
@[simp] theorem State.setJsl_tiles : (s.setJsl p x).tiles = s.tiles := rfl
@[simp] theorem State.setJsl_notes : (s.setJsl p x).notes = s.notes := rfl
@[simp] theorem State.setJsl_out : (s.setJsl p x).out = s.out := rfl
@[simp] theorem State.setJsl_msix : (s.setJsl p x).msix = s.msix := rfl
@[simp] theorem State.setJsl_lvl : (s.setJsl p x).lvl = s.lvl := rfl
@[simp] theorem State.setJsl_cams : (s.setJsl p x).cams = s.cams := rfl
@[simp] theorem State.setJsl_dpp : (s.setJsl p x).dpp = s.dpp := rfl
@[simp] theorem State.setJsl_banks : (s.setJsl p x).banks = s.banks := rfl
@[simp] theorem State.setJsl_codec : (s.setJsl p x).codec = s.codec := rfl
@[simp] theorem State.setJsl_kv : (s.setJsl p x).kv = s.kv := rfl
@[simp] theorem State.setJsl_ports : (s.setJsl p x).ports = s.ports := rfl
@[simp] theorem State.setJsl_calibs : (s.setJsl p x).calibs = s.calibs := rfl
@[simp] theorem State.setJsl_trackers : (s.setJsl p x).trackers = s.trackers := rfl
@[simp] theorem State.setJsl_loops : (s.setJsl p x).loops = s.loops := rfl
@[simp] theorem State.setJsl_proc : (s.setJsl p x).proc = s.proc := rfl
@[simp] theorem State.setJsl_hm : (s.setJsl p x).hm = s.hm := rfl
@[simp] theorem State.setJsl_safein : (s.setJsl p x).safein = s.safein := rfl
@[simp] theorem State.setJsl_boot : (s.setJsl p x).boot = s.boot := rfl
@[simp] theorem State.setJsl_dyn : (s.setJsl p x).dyn = s.dyn := rfl
@[simp] theorem State.setJsl_macs : (s.setJsl p x).macs = s.macs := rfl
@[simp] theorem State.setJsl_comp : (s.setJsl p x).comp = s.comp := rfl
end setJsl

section setPort
variable (s : State) (n : Nat) (x : Port)
@[simp] theorem State.setPort_chip : (s.setPort n x).chip = s.chip := rfl
@[simp] theorem State.setPort_mtn : (s.setPort n x).mtn = s.mtn := rfl
@[simp] theorem State.setPort_pending : (s.setPort n x).pending = s.pending := rfl
@[simp] theorem State.setPort_freeCtr : (s.setPort n x).freeCtr = s.freeCtr := rfl
@[simp] theorem State.setPort_pages : (s.setPort n x).pages = s.pages := rfl
@[simp] theorem State.setPort_regs : (s.setPort n x).regs = s.regs := rfl
@[simp] theorem State.setPort_mem : (s.setPort n x).mem = s.mem := rfl
@[simp] theorem State.setPort_sram : (s.setPort n x).sram = s.sram := rfl
@[simp] theorem State.setPort_tempo : (s.setPort n x).tempo = s.tempo := rfl
@[simp] theorem State.setPort_hrs : (s.setPort n x).hrs = s.hrs := rfl
@[simp] theorem State.setPort_cues : (s.setPort n x).cues = s.cues := rfl
@[simp] theorem State.setPort_excused : (s.setPort n x).excused = s.excused := rfl
@[simp] theorem State.setPort_dma : (s.setPort n x).dma = s.dma := rfl
@[simp] theorem State.setPort_tiles : (s.setPort n x).tiles = s.tiles := rfl
@[simp] theorem State.setPort_notes : (s.setPort n x).notes = s.notes := rfl
@[simp] theorem State.setPort_out : (s.setPort n x).out = s.out := rfl
@[simp] theorem State.setPort_msix : (s.setPort n x).msix = s.msix := rfl
@[simp] theorem State.setPort_lvl : (s.setPort n x).lvl = s.lvl := rfl
@[simp] theorem State.setPort_cams : (s.setPort n x).cams = s.cams := rfl
@[simp] theorem State.setPort_dpp : (s.setPort n x).dpp = s.dpp := rfl
@[simp] theorem State.setPort_banks : (s.setPort n x).banks = s.banks := rfl
@[simp] theorem State.setPort_codec : (s.setPort n x).codec = s.codec := rfl
@[simp] theorem State.setPort_kv : (s.setPort n x).kv = s.kv := rfl
@[simp] theorem State.setPort_calibs : (s.setPort n x).calibs = s.calibs := rfl
@[simp] theorem State.setPort_trackers : (s.setPort n x).trackers = s.trackers := rfl
@[simp] theorem State.setPort_jsls : (s.setPort n x).jsls = s.jsls := rfl
@[simp] theorem State.setPort_loops : (s.setPort n x).loops = s.loops := rfl
@[simp] theorem State.setPort_proc : (s.setPort n x).proc = s.proc := rfl
@[simp] theorem State.setPort_hm : (s.setPort n x).hm = s.hm := rfl
@[simp] theorem State.setPort_safein : (s.setPort n x).safein = s.safein := rfl
@[simp] theorem State.setPort_boot : (s.setPort n x).boot = s.boot := rfl
@[simp] theorem State.setPort_dyn : (s.setPort n x).dyn = s.dyn := rfl
@[simp] theorem State.setPort_macs : (s.setPort n x).macs = s.macs := rfl
@[simp] theorem State.setPort_comp : (s.setPort n x).comp = s.comp := rfl
end setPort

section setAxis
variable (s : State) (n : Nat) (x : LoopAxis)
@[simp] theorem State.setAxis_chip : (s.setAxis n x).chip = s.chip := rfl
@[simp] theorem State.setAxis_mtn : (s.setAxis n x).mtn = s.mtn := rfl
@[simp] theorem State.setAxis_pending : (s.setAxis n x).pending = s.pending := rfl
@[simp] theorem State.setAxis_freeCtr : (s.setAxis n x).freeCtr = s.freeCtr := rfl
@[simp] theorem State.setAxis_pages : (s.setAxis n x).pages = s.pages := rfl
@[simp] theorem State.setAxis_regs : (s.setAxis n x).regs = s.regs := rfl
@[simp] theorem State.setAxis_mem : (s.setAxis n x).mem = s.mem := rfl
@[simp] theorem State.setAxis_sram : (s.setAxis n x).sram = s.sram := rfl
@[simp] theorem State.setAxis_tempo : (s.setAxis n x).tempo = s.tempo := rfl
@[simp] theorem State.setAxis_hrs : (s.setAxis n x).hrs = s.hrs := rfl
@[simp] theorem State.setAxis_cues : (s.setAxis n x).cues = s.cues := rfl
@[simp] theorem State.setAxis_excused : (s.setAxis n x).excused = s.excused := rfl
@[simp] theorem State.setAxis_dma : (s.setAxis n x).dma = s.dma := rfl
@[simp] theorem State.setAxis_tiles : (s.setAxis n x).tiles = s.tiles := rfl
@[simp] theorem State.setAxis_notes : (s.setAxis n x).notes = s.notes := rfl
@[simp] theorem State.setAxis_out : (s.setAxis n x).out = s.out := rfl
@[simp] theorem State.setAxis_msix : (s.setAxis n x).msix = s.msix := rfl
@[simp] theorem State.setAxis_lvl : (s.setAxis n x).lvl = s.lvl := rfl
@[simp] theorem State.setAxis_cams : (s.setAxis n x).cams = s.cams := rfl
@[simp] theorem State.setAxis_dpp : (s.setAxis n x).dpp = s.dpp := rfl
@[simp] theorem State.setAxis_banks : (s.setAxis n x).banks = s.banks := rfl
@[simp] theorem State.setAxis_codec : (s.setAxis n x).codec = s.codec := rfl
@[simp] theorem State.setAxis_kv : (s.setAxis n x).kv = s.kv := rfl
@[simp] theorem State.setAxis_ports : (s.setAxis n x).ports = s.ports := rfl
@[simp] theorem State.setAxis_calibs : (s.setAxis n x).calibs = s.calibs := rfl
@[simp] theorem State.setAxis_trackers : (s.setAxis n x).trackers = s.trackers := rfl
@[simp] theorem State.setAxis_jsls : (s.setAxis n x).jsls = s.jsls := rfl
@[simp] theorem State.setAxis_proc : (s.setAxis n x).proc = s.proc := rfl
@[simp] theorem State.setAxis_hm : (s.setAxis n x).hm = s.hm := rfl
@[simp] theorem State.setAxis_safein : (s.setAxis n x).safein = s.safein := rfl
@[simp] theorem State.setAxis_boot : (s.setAxis n x).boot = s.boot := rfl
@[simp] theorem State.setAxis_dyn : (s.setAxis n x).dyn = s.dyn := rfl
@[simp] theorem State.setAxis_macs : (s.setAxis n x).macs = s.macs := rfl
@[simp] theorem State.setAxis_comp : (s.setAxis n x).comp = s.comp := rfl
end setAxis

section setCalib
variable (s : State) (d : Nat) (c : Option Calib)
@[simp] theorem State.setCalib_chip : (s.setCalib d c).chip = s.chip := rfl
@[simp] theorem State.setCalib_mtn : (s.setCalib d c).mtn = s.mtn := rfl
@[simp] theorem State.setCalib_pending : (s.setCalib d c).pending = s.pending := rfl
@[simp] theorem State.setCalib_freeCtr : (s.setCalib d c).freeCtr = s.freeCtr := rfl
@[simp] theorem State.setCalib_pages : (s.setCalib d c).pages = s.pages := rfl
@[simp] theorem State.setCalib_regs : (s.setCalib d c).regs = s.regs := rfl
@[simp] theorem State.setCalib_mem : (s.setCalib d c).mem = s.mem := rfl
@[simp] theorem State.setCalib_sram : (s.setCalib d c).sram = s.sram := rfl
@[simp] theorem State.setCalib_tempo : (s.setCalib d c).tempo = s.tempo := rfl
@[simp] theorem State.setCalib_hrs : (s.setCalib d c).hrs = s.hrs := rfl
@[simp] theorem State.setCalib_cues : (s.setCalib d c).cues = s.cues := rfl
@[simp] theorem State.setCalib_excused : (s.setCalib d c).excused = s.excused := rfl
@[simp] theorem State.setCalib_dma : (s.setCalib d c).dma = s.dma := rfl
@[simp] theorem State.setCalib_tiles : (s.setCalib d c).tiles = s.tiles := rfl
@[simp] theorem State.setCalib_notes : (s.setCalib d c).notes = s.notes := rfl
@[simp] theorem State.setCalib_out : (s.setCalib d c).out = s.out := rfl
@[simp] theorem State.setCalib_msix : (s.setCalib d c).msix = s.msix := rfl
@[simp] theorem State.setCalib_lvl : (s.setCalib d c).lvl = s.lvl := rfl
@[simp] theorem State.setCalib_cams : (s.setCalib d c).cams = s.cams := rfl
@[simp] theorem State.setCalib_dpp : (s.setCalib d c).dpp = s.dpp := rfl
@[simp] theorem State.setCalib_banks : (s.setCalib d c).banks = s.banks := rfl
@[simp] theorem State.setCalib_codec : (s.setCalib d c).codec = s.codec := rfl
@[simp] theorem State.setCalib_kv : (s.setCalib d c).kv = s.kv := rfl
@[simp] theorem State.setCalib_ports : (s.setCalib d c).ports = s.ports := rfl
@[simp] theorem State.setCalib_trackers : (s.setCalib d c).trackers = s.trackers := rfl
@[simp] theorem State.setCalib_jsls : (s.setCalib d c).jsls = s.jsls := rfl
@[simp] theorem State.setCalib_loops : (s.setCalib d c).loops = s.loops := rfl
@[simp] theorem State.setCalib_proc : (s.setCalib d c).proc = s.proc := rfl
@[simp] theorem State.setCalib_hm : (s.setCalib d c).hm = s.hm := rfl
@[simp] theorem State.setCalib_safein : (s.setCalib d c).safein = s.safein := rfl
@[simp] theorem State.setCalib_boot : (s.setCalib d c).boot = s.boot := rfl
@[simp] theorem State.setCalib_dyn : (s.setCalib d c).dyn = s.dyn := rfl
@[simp] theorem State.setCalib_macs : (s.setCalib d c).macs = s.macs := rfl
@[simp] theorem State.setCalib_comp : (s.setCalib d c).comp = s.comp := rfl
end setCalib

section setSpair
variable (s : State) (k : Nat) (x : SafePair)
@[simp] theorem State.setSpair_chip : (s.setSpair k x).chip = s.chip := rfl
@[simp] theorem State.setSpair_mtn : (s.setSpair k x).mtn = s.mtn := rfl
@[simp] theorem State.setSpair_pending : (s.setSpair k x).pending = s.pending := rfl
@[simp] theorem State.setSpair_freeCtr : (s.setSpair k x).freeCtr = s.freeCtr := rfl
@[simp] theorem State.setSpair_pages : (s.setSpair k x).pages = s.pages := rfl
@[simp] theorem State.setSpair_regs : (s.setSpair k x).regs = s.regs := rfl
@[simp] theorem State.setSpair_mem : (s.setSpair k x).mem = s.mem := rfl
@[simp] theorem State.setSpair_sram : (s.setSpair k x).sram = s.sram := rfl
@[simp] theorem State.setSpair_tempo : (s.setSpair k x).tempo = s.tempo := rfl
@[simp] theorem State.setSpair_hrs : (s.setSpair k x).hrs = s.hrs := rfl
@[simp] theorem State.setSpair_cues : (s.setSpair k x).cues = s.cues := rfl
@[simp] theorem State.setSpair_excused : (s.setSpair k x).excused = s.excused := rfl
@[simp] theorem State.setSpair_dma : (s.setSpair k x).dma = s.dma := rfl
@[simp] theorem State.setSpair_tiles : (s.setSpair k x).tiles = s.tiles := rfl
@[simp] theorem State.setSpair_notes : (s.setSpair k x).notes = s.notes := rfl
@[simp] theorem State.setSpair_out : (s.setSpair k x).out = s.out := rfl
@[simp] theorem State.setSpair_msix : (s.setSpair k x).msix = s.msix := rfl
@[simp] theorem State.setSpair_lvl : (s.setSpair k x).lvl = s.lvl := rfl
@[simp] theorem State.setSpair_cams : (s.setSpair k x).cams = s.cams := rfl
@[simp] theorem State.setSpair_dpp : (s.setSpair k x).dpp = s.dpp := rfl
@[simp] theorem State.setSpair_banks : (s.setSpair k x).banks = s.banks := rfl
@[simp] theorem State.setSpair_codec : (s.setSpair k x).codec = s.codec := rfl
@[simp] theorem State.setSpair_kv : (s.setSpair k x).kv = s.kv := rfl
@[simp] theorem State.setSpair_ports : (s.setSpair k x).ports = s.ports := rfl
@[simp] theorem State.setSpair_calibs : (s.setSpair k x).calibs = s.calibs := rfl
@[simp] theorem State.setSpair_trackers : (s.setSpair k x).trackers = s.trackers := rfl
@[simp] theorem State.setSpair_jsls : (s.setSpair k x).jsls = s.jsls := rfl
@[simp] theorem State.setSpair_loops : (s.setSpair k x).loops = s.loops := rfl
@[simp] theorem State.setSpair_proc : (s.setSpair k x).proc = s.proc := rfl
@[simp] theorem State.setSpair_hm : (s.setSpair k x).hm = s.hm := rfl
@[simp] theorem State.setSpair_boot : (s.setSpair k x).boot = s.boot := rfl
@[simp] theorem State.setSpair_dyn : (s.setSpair k x).dyn = s.dyn := rfl
@[simp] theorem State.setSpair_macs : (s.setSpair k x).macs = s.macs := rfl
@[simp] theorem State.setSpair_comp : (s.setSpair k x).comp = s.comp := rfl
end setSpair

section setErr
variable (s : State) (a e : Nat)
@[simp] theorem State.setErr_chip : (s.setErr a e).chip = s.chip := rfl
@[simp] theorem State.setErr_mtn : (s.setErr a e).mtn = s.mtn := rfl
@[simp] theorem State.setErr_pending : (s.setErr a e).pending = s.pending := rfl
@[simp] theorem State.setErr_freeCtr : (s.setErr a e).freeCtr = s.freeCtr := rfl
@[simp] theorem State.setErr_pages : (s.setErr a e).pages = s.pages := rfl
@[simp] theorem State.setErr_regs : (s.setErr a e).regs = s.regs := rfl
@[simp] theorem State.setErr_mem : (s.setErr a e).mem = s.mem := rfl
@[simp] theorem State.setErr_tempo : (s.setErr a e).tempo = s.tempo := rfl
@[simp] theorem State.setErr_hrs : (s.setErr a e).hrs = s.hrs := rfl
@[simp] theorem State.setErr_cues : (s.setErr a e).cues = s.cues := rfl
@[simp] theorem State.setErr_excused : (s.setErr a e).excused = s.excused := rfl
@[simp] theorem State.setErr_dma : (s.setErr a e).dma = s.dma := rfl
@[simp] theorem State.setErr_tiles : (s.setErr a e).tiles = s.tiles := rfl
@[simp] theorem State.setErr_notes : (s.setErr a e).notes = s.notes := rfl
@[simp] theorem State.setErr_out : (s.setErr a e).out = s.out := rfl
@[simp] theorem State.setErr_msix : (s.setErr a e).msix = s.msix := rfl
@[simp] theorem State.setErr_lvl : (s.setErr a e).lvl = s.lvl := rfl
@[simp] theorem State.setErr_cams : (s.setErr a e).cams = s.cams := rfl
@[simp] theorem State.setErr_dpp : (s.setErr a e).dpp = s.dpp := rfl
@[simp] theorem State.setErr_banks : (s.setErr a e).banks = s.banks := rfl
@[simp] theorem State.setErr_codec : (s.setErr a e).codec = s.codec := rfl
@[simp] theorem State.setErr_kv : (s.setErr a e).kv = s.kv := rfl
@[simp] theorem State.setErr_ports : (s.setErr a e).ports = s.ports := rfl
@[simp] theorem State.setErr_calibs : (s.setErr a e).calibs = s.calibs := rfl
@[simp] theorem State.setErr_trackers : (s.setErr a e).trackers = s.trackers := rfl
@[simp] theorem State.setErr_jsls : (s.setErr a e).jsls = s.jsls := rfl
@[simp] theorem State.setErr_loops : (s.setErr a e).loops = s.loops := rfl
@[simp] theorem State.setErr_proc : (s.setErr a e).proc = s.proc := rfl
@[simp] theorem State.setErr_hm : (s.setErr a e).hm = s.hm := rfl
@[simp] theorem State.setErr_safein : (s.setErr a e).safein = s.safein := rfl
@[simp] theorem State.setErr_boot : (s.setErr a e).boot = s.boot := rfl
@[simp] theorem State.setErr_dyn : (s.setErr a e).dyn = s.dyn := rfl
@[simp] theorem State.setErr_macs : (s.setErr a e).macs = s.macs := rfl
@[simp] theorem State.setErr_comp : (s.setErr a e).comp = s.comp := rfl
end setErr

section note
variable (s : State) (cls src unit axes info : Nat)
@[simp] theorem State.note_chip : (s.note cls src unit axes info).chip = s.chip := rfl
@[simp] theorem State.note_mtn : (s.note cls src unit axes info).mtn = s.mtn := rfl
@[simp] theorem State.note_pending : (s.note cls src unit axes info).pending = s.pending := rfl
@[simp] theorem State.note_freeCtr : (s.note cls src unit axes info).freeCtr = s.freeCtr := rfl
@[simp] theorem State.note_pages : (s.note cls src unit axes info).pages = s.pages := rfl
@[simp] theorem State.note_regs : (s.note cls src unit axes info).regs = s.regs := rfl
@[simp] theorem State.note_mem : (s.note cls src unit axes info).mem = s.mem := rfl
@[simp] theorem State.note_sram : (s.note cls src unit axes info).sram = s.sram := rfl
@[simp] theorem State.note_tempo : (s.note cls src unit axes info).tempo = s.tempo := rfl
@[simp] theorem State.note_hrs : (s.note cls src unit axes info).hrs = s.hrs := rfl
@[simp] theorem State.note_cues : (s.note cls src unit axes info).cues = s.cues := rfl
@[simp] theorem State.note_excused : (s.note cls src unit axes info).excused = s.excused := rfl
@[simp] theorem State.note_dma : (s.note cls src unit axes info).dma = s.dma := rfl
@[simp] theorem State.note_tiles : (s.note cls src unit axes info).tiles = s.tiles := rfl
@[simp] theorem State.note_out : (s.note cls src unit axes info).out = s.out := rfl
@[simp] theorem State.note_msix : (s.note cls src unit axes info).msix = s.msix := rfl
@[simp] theorem State.note_lvl : (s.note cls src unit axes info).lvl = s.lvl := rfl
@[simp] theorem State.note_cams : (s.note cls src unit axes info).cams = s.cams := rfl
@[simp] theorem State.note_dpp : (s.note cls src unit axes info).dpp = s.dpp := rfl
@[simp] theorem State.note_banks : (s.note cls src unit axes info).banks = s.banks := rfl
@[simp] theorem State.note_codec : (s.note cls src unit axes info).codec = s.codec := rfl
@[simp] theorem State.note_kv : (s.note cls src unit axes info).kv = s.kv := rfl
@[simp] theorem State.note_ports : (s.note cls src unit axes info).ports = s.ports := rfl
@[simp] theorem State.note_calibs : (s.note cls src unit axes info).calibs = s.calibs := rfl
@[simp] theorem State.note_trackers : (s.note cls src unit axes info).trackers = s.trackers := rfl
@[simp] theorem State.note_jsls : (s.note cls src unit axes info).jsls = s.jsls := rfl
@[simp] theorem State.note_loops : (s.note cls src unit axes info).loops = s.loops := rfl
@[simp] theorem State.note_proc : (s.note cls src unit axes info).proc = s.proc := rfl
@[simp] theorem State.note_hm : (s.note cls src unit axes info).hm = s.hm := rfl
@[simp] theorem State.note_safein : (s.note cls src unit axes info).safein = s.safein := rfl
@[simp] theorem State.note_boot : (s.note cls src unit axes info).boot = s.boot := rfl
@[simp] theorem State.note_dyn : (s.note cls src unit axes info).dyn = s.dyn := rfl
@[simp] theorem State.note_macs : (s.note cls src unit axes info).macs = s.macs := rfl
@[simp] theorem State.note_comp : (s.note cls src unit axes info).comp = s.comp := rfl
end note

section answer
variable (s : State) (bs : List Byte) (poisoned : Bool)
@[simp] theorem State.answer_chip : (s.answer bs poisoned).chip = s.chip := rfl
@[simp] theorem State.answer_mtn : (s.answer bs poisoned).mtn = s.mtn := rfl
@[simp] theorem State.answer_pending : (s.answer bs poisoned).pending = s.pending := rfl
@[simp] theorem State.answer_freeCtr : (s.answer bs poisoned).freeCtr = s.freeCtr := rfl
@[simp] theorem State.answer_pages : (s.answer bs poisoned).pages = s.pages := rfl
@[simp] theorem State.answer_regs : (s.answer bs poisoned).regs = s.regs := rfl
@[simp] theorem State.answer_mem : (s.answer bs poisoned).mem = s.mem := rfl
@[simp] theorem State.answer_sram : (s.answer bs poisoned).sram = s.sram := rfl
@[simp] theorem State.answer_tempo : (s.answer bs poisoned).tempo = s.tempo := rfl
@[simp] theorem State.answer_hrs : (s.answer bs poisoned).hrs = s.hrs := rfl
@[simp] theorem State.answer_cues : (s.answer bs poisoned).cues = s.cues := rfl
@[simp] theorem State.answer_excused : (s.answer bs poisoned).excused = s.excused := rfl
@[simp] theorem State.answer_dma : (s.answer bs poisoned).dma = s.dma := rfl
@[simp] theorem State.answer_tiles : (s.answer bs poisoned).tiles = s.tiles := rfl
@[simp] theorem State.answer_notes : (s.answer bs poisoned).notes = s.notes := rfl
@[simp] theorem State.answer_msix : (s.answer bs poisoned).msix = s.msix := rfl
@[simp] theorem State.answer_lvl : (s.answer bs poisoned).lvl = s.lvl := rfl
@[simp] theorem State.answer_cams : (s.answer bs poisoned).cams = s.cams := rfl
@[simp] theorem State.answer_dpp : (s.answer bs poisoned).dpp = s.dpp := rfl
@[simp] theorem State.answer_banks : (s.answer bs poisoned).banks = s.banks := rfl
@[simp] theorem State.answer_codec : (s.answer bs poisoned).codec = s.codec := rfl
@[simp] theorem State.answer_kv : (s.answer bs poisoned).kv = s.kv := rfl
@[simp] theorem State.answer_ports : (s.answer bs poisoned).ports = s.ports := rfl
@[simp] theorem State.answer_calibs : (s.answer bs poisoned).calibs = s.calibs := rfl
@[simp] theorem State.answer_trackers : (s.answer bs poisoned).trackers = s.trackers := rfl
@[simp] theorem State.answer_jsls : (s.answer bs poisoned).jsls = s.jsls := rfl
@[simp] theorem State.answer_loops : (s.answer bs poisoned).loops = s.loops := rfl
@[simp] theorem State.answer_proc : (s.answer bs poisoned).proc = s.proc := rfl
@[simp] theorem State.answer_hm : (s.answer bs poisoned).hm = s.hm := rfl
@[simp] theorem State.answer_safein : (s.answer bs poisoned).safein = s.safein := rfl
@[simp] theorem State.answer_boot : (s.answer bs poisoned).boot = s.boot := rfl
@[simp] theorem State.answer_dyn : (s.answer bs poisoned).dyn = s.dyn := rfl
@[simp] theorem State.answer_macs : (s.answer bs poisoned).macs = s.macs := rfl
@[simp] theorem State.answer_comp : (s.answer bs poisoned).comp = s.comp := rfl
end answer

section settle
variable (s : State)
@[simp] theorem State.settle_chip : s.settle.chip = s.chip := rfl
@[simp] theorem State.settle_mtn : s.settle.mtn = s.mtn := rfl
@[simp] theorem State.settle_pending : s.settle.pending = s.pending := rfl
@[simp] theorem State.settle_freeCtr : s.settle.freeCtr = s.freeCtr := rfl
@[simp] theorem State.settle_pages : s.settle.pages = s.pages := rfl
@[simp] theorem State.settle_regs : s.settle.regs = s.regs := rfl
@[simp] theorem State.settle_mem : s.settle.mem = s.mem := rfl
@[simp] theorem State.settle_sram : s.settle.sram = s.sram := rfl
@[simp] theorem State.settle_tempo : s.settle.tempo = s.tempo := rfl
@[simp] theorem State.settle_hrs : s.settle.hrs = s.hrs := rfl
@[simp] theorem State.settle_cues : s.settle.cues = s.cues := rfl
@[simp] theorem State.settle_excused : s.settle.excused = s.excused := rfl
@[simp] theorem State.settle_dma : s.settle.dma = s.dma := rfl
@[simp] theorem State.settle_tiles : s.settle.tiles = s.tiles := rfl
@[simp] theorem State.settle_notes : s.settle.notes = s.notes := rfl
@[simp] theorem State.settle_out : s.settle.out = s.out := rfl
@[simp] theorem State.settle_msix : s.settle.msix = s.msix := rfl
@[simp] theorem State.settle_lvl : s.settle.lvl = s.lvl := rfl
@[simp] theorem State.settle_cams : s.settle.cams = s.cams := rfl
@[simp] theorem State.settle_dpp : s.settle.dpp = s.dpp := rfl
@[simp] theorem State.settle_banks : s.settle.banks = s.banks := rfl
@[simp] theorem State.settle_codec : s.settle.codec = s.codec := rfl
@[simp] theorem State.settle_kv : s.settle.kv = s.kv := rfl
@[simp] theorem State.settle_ports : s.settle.ports = s.ports := rfl
@[simp] theorem State.settle_calibs : s.settle.calibs = s.calibs := rfl
@[simp] theorem State.settle_trackers : s.settle.trackers = s.trackers := rfl
@[simp] theorem State.settle_jsls : s.settle.jsls = s.jsls := rfl
@[simp] theorem State.settle_loops : s.settle.loops = s.loops := rfl
@[simp] theorem State.settle_proc : s.settle.proc = s.proc := rfl
@[simp] theorem State.settle_hm : s.settle.hm = s.hm := rfl
@[simp] theorem State.settle_safein : s.settle.safein = s.safein := rfl
@[simp] theorem State.settle_boot : s.settle.boot = s.boot := rfl
@[simp] theorem State.settle_macs : s.settle.macs = s.macs := rfl
@[simp] theorem State.settle_comp : s.settle.comp = s.comp := rfl
end settle

/-! ## What an update writes -/

section
variable (s : State)

theorem State.setPage_pages (p : PageRef) (v : Page) :
    (s.setPage p v).pages = tabSet Page.atReset s.pages (pageKey p) v := rfl
theorem State.setReg_regs (p : PageRef) (off : Nat) (v : Word) :
    (s.setReg p off v).regs = tabSet (regReset s.chip p off) s.regs (regKey p off) v := rfl
@[simp] theorem State.drawFree_freeCtr : s.drawFree.freeCtr = s.freeCtr + 1 := rfl
@[simp] theorem State.modTempo_tempo (f : Tempo → Tempo) : (s.modTempo f).tempo = f s.tempo := rfl
@[simp] theorem State.modDyn_dyn (f : DynUnit → DynUnit) : (s.modDyn f).dyn = f s.dyn := rfl
@[simp] theorem State.modComp_comp (f : CompUnit → CompUnit) : (s.modComp f).comp = f s.comp := rfl
@[simp] theorem State.modBoot_boot (f : BootUnit → BootUnit) : (s.modBoot f).boot = f s.boot := rfl
@[simp] theorem State.modKv_kv (f : Kv → Kv) : (s.modKv f).kv = f s.kv := rfl
@[simp] theorem State.modProc_proc (f : ProctorUnit → ProctorUnit) : (s.modProc f).proc = f s.proc := rfl

/-! ## Pages -/

theorem typeCode_lt (t : PageType) : typeCode t < 64 := by cases t <;> decide

theorem typeCode_inj {t u : PageType} (h : typeCode t = typeCode u) : t = u := by
  have find : ∀ x : PageType, (allTypes.find? fun y => decide (typeCode y = typeCode x)) = some x := fun x => by cases x <;> rfl
  have h1 := find t
  rw [h, find u] at h1
  exact (Option.some.inj h1).symm

/-- No two page spans share a key. -/
theorem pageKey_inj {p q : PageRef} (h : pageKey p = pageKey q) : p = q := by
  have h1 := typeCode_lt p.ty
  have h2 := typeCode_lt q.ty
  have h3 : typeCode p.ty = typeCode q.ty := by unfold pageKey at h; omega
  have h4 : p.inst = q.inst := by unfold pageKey at h; omega
  cases p; cases q
  simp only at h3 h4
  rw [typeCode_inj h3, h4]

/-- No two registers share a key. -/
theorem regKey_inj {p q : PageRef} {a b : Nat} (ha : a < 0x10000) (hb : b < 0x10000) (h : regKey p a = regKey q b) : p = q ∧ a = b := by
  have h1 : pageKey p = pageKey q := by unfold regKey at h; omega
  exact ⟨pageKey_inj h1, by unfold regKey at h; omega⟩


@[simp] theorem State.page_setPage_same (p : PageRef) (v : Page) : (s.setPage p v).page p = v := by
  simp [State.page, State.setPage]

theorem State.page_setPage_ne {p q : PageRef} (v : Page) (h : pageKey q ≠ pageKey p) :
    (s.setPage p v).page q = s.page q := tabGet_tabSet_ne _ _ _ _ h

@[simp] theorem State.page_setReg (p q : PageRef) (off : Nat) (v : Word) : (s.setReg p off v).page q = s.page q := rfl
@[simp] theorem State.page_settle (p : PageRef) : s.settle.page p = s.page p := rfl
@[simp] theorem State.page_modDyn (f : DynUnit → DynUnit) (p : PageRef) : (s.modDyn f).page p = s.page p := rfl

/-! ## Registers -/

@[simp] theorem State.reg_setReg_same (p : PageRef) (off : Nat) (v : Word) : (s.setReg p off v).reg p off = v := by
  simp [State.reg, State.setReg]

theorem State.reg_setReg_ne {p q : PageRef} {off off' : Nat} (v : Word) (h : regKey q off' ≠ regKey p off) :
    (s.setReg p off v).reg q off' = s.reg q off' := tabGet_tabSet_ne _ _ _ _ h

@[simp] theorem State.reg_setPage (p q : PageRef) (off : Nat) (v : Page) : (s.setPage p v).reg q off = s.reg q off := rfl
@[simp] theorem State.reg_settle (p : PageRef) (off : Nat) : s.settle.reg p off = s.reg p off := rfl
@[simp] theorem State.reg_modDyn (f : DynUnit → DynUnit) (p : PageRef) (off : Nat) : (s.modDyn f).reg p off = s.reg p off := rfl

/-! ## Unit tables -/

@[simp] theorem State.hr_setHr_same (h : Nat) (v : Hr) : (s.setHr h v).hr h = v := by simp [State.hr, State.setHr]
theorem State.hr_setHr_ne {h k : Nat} (v : Hr) (hk : k ≠ h) : (s.setHr h v).hr k = s.hr k := tabGet_tabSet_ne _ _ _ _ hk
@[simp] theorem State.tile_setTile_same (t : Nat) (v : Tile) : (s.setTile t v).tile t = v := by
  simp [State.tile, State.setTile]
theorem State.tile_setTile_ne {t u : Nat} (v : Tile) (h : u ≠ t) : (s.setTile t v).tile u = s.tile u :=
  tabGet_tabSet_ne _ _ _ _ h
@[simp] theorem State.chan_setChan_same (c : Nat) (v : DmaChan) : (s.setChan c v).chan c = v := by
  simp [State.chan, State.setChan]
@[simp] theorem State.cam_setCam_same (n : Nat) (v : Cam) : (s.setCam n v).cam n = v := by simp [State.cam, State.setCam]
@[simp] theorem State.trk_setTrk_same (n : Nat) (x : Tracker) : (s.setTrk n x).trk n = x := by
  simp [State.trk, State.setTrk]
@[simp] theorem State.bank_setBank_same (k : Nat) (b : Bank) : (s.setBank k b).bank k = b := by
  simp [State.bank, State.setBank]
@[simp] theorem State.jslPort_setJsl_same (p : Nat) (x : JslPort) : (s.setJsl p x).jslPort p = x := by
  simp [State.jslPort, State.setJsl]
@[simp] theorem State.port_setPort_same (n : Nat) (x : Port) : (s.setPort n x).port n = x := by
  simp [State.port, State.setPort]
@[simp] theorem State.axis_setAxis_same (n : Nat) (x : LoopAxis) : (s.setAxis n x).axis n = x := by
  simp [State.axis, State.setAxis]
@[simp] theorem State.mac_setMac_same (m : Nat) (x : EthMac) : (s.setMac m x).mac m = x := by simp [State.mac, State.setMac]

/-! ## How every command ends -/

/-- A command's end changes nothing but the Dynamics unit. -/
theorem State.settle_eq : ∃ d, s.settle = { s with dyn := d } := ⟨_, rfl⟩

theorem done_eq : done s = .next s.settle := rfl

end

end Sys2Proof.Machine
end

