-- ==== Sys2Proof/Laws/Ops.lean ====
section
/-!
SUPPORT. What the shared operations of Machine/Ops and Machine/Pages change: a page command, a register write, an event.
-/

namespace Sys2Proof.Machine

/-! ## Fields the shared operations leave alone -/

section modPage
variable (s : State) (p : PageRef) (f : Page → Page)
@[simp] theorem State.modPage_chip : (s.modPage p f).chip = s.chip := rfl
@[simp] theorem State.modPage_mtn : (s.modPage p f).mtn = s.mtn := rfl
@[simp] theorem State.modPage_pending : (s.modPage p f).pending = s.pending := rfl
@[simp] theorem State.modPage_regs : (s.modPage p f).regs = s.regs := rfl
@[simp] theorem State.modPage_mem : (s.modPage p f).mem = s.mem := rfl
@[simp] theorem State.modPage_sram : (s.modPage p f).sram = s.sram := rfl
@[simp] theorem State.modPage_tempo : (s.modPage p f).tempo = s.tempo := rfl
@[simp] theorem State.modPage_hrs : (s.modPage p f).hrs = s.hrs := rfl
@[simp] theorem State.modPage_cues : (s.modPage p f).cues = s.cues := rfl
@[simp] theorem State.modPage_excused : (s.modPage p f).excused = s.excused := rfl
@[simp] theorem State.modPage_dma : (s.modPage p f).dma = s.dma := rfl
@[simp] theorem State.modPage_tiles : (s.modPage p f).tiles = s.tiles := rfl
@[simp] theorem State.modPage_notes : (s.modPage p f).notes = s.notes := rfl
@[simp] theorem State.modPage_lvl : (s.modPage p f).lvl = s.lvl := rfl
@[simp] theorem State.modPage_dyn : (s.modPage p f).dyn = s.dyn := rfl
@[simp] theorem State.modPage_cams : (s.modPage p f).cams = s.cams := rfl
@[simp] theorem State.modPage_banks : (s.modPage p f).banks = s.banks := rfl
@[simp] theorem State.modPage_codec : (s.modPage p f).codec = s.codec := rfl
@[simp] theorem State.modPage_kv : (s.modPage p f).kv = s.kv := rfl
@[simp] theorem State.modPage_ports : (s.modPage p f).ports = s.ports := rfl
@[simp] theorem State.modPage_trackers : (s.modPage p f).trackers = s.trackers := rfl
@[simp] theorem State.modPage_jsls : (s.modPage p f).jsls = s.jsls := rfl
@[simp] theorem State.modPage_loops : (s.modPage p f).loops = s.loops := rfl
@[simp] theorem State.modPage_proc : (s.modPage p f).proc = s.proc := rfl
@[simp] theorem State.modPage_safein : (s.modPage p f).safein = s.safein := rfl
@[simp] theorem State.modPage_boot : (s.modPage p f).boot = s.boot := rfl
@[simp] theorem State.modPage_macs : (s.modPage p f).macs = s.macs := rfl
@[simp] theorem State.modPage_comp : (s.modPage p f).comp = s.comp := rfl
end modPage

section toState
variable (s : State) (p : PageRef) (x : PageState)
@[simp] theorem State.toState_chip : (s.toState p x).chip = s.chip := rfl
@[simp] theorem State.toState_mtn : (s.toState p x).mtn = s.mtn := rfl
@[simp] theorem State.toState_pending : (s.toState p x).pending = s.pending := rfl
@[simp] theorem State.toState_regs : (s.toState p x).regs = s.regs := rfl
@[simp] theorem State.toState_mem : (s.toState p x).mem = s.mem := rfl
@[simp] theorem State.toState_sram : (s.toState p x).sram = s.sram := rfl
@[simp] theorem State.toState_tempo : (s.toState p x).tempo = s.tempo := rfl
@[simp] theorem State.toState_hrs : (s.toState p x).hrs = s.hrs := rfl
@[simp] theorem State.toState_cues : (s.toState p x).cues = s.cues := rfl
@[simp] theorem State.toState_excused : (s.toState p x).excused = s.excused := rfl
@[simp] theorem State.toState_dma : (s.toState p x).dma = s.dma := rfl
@[simp] theorem State.toState_tiles : (s.toState p x).tiles = s.tiles := rfl
@[simp] theorem State.toState_notes : (s.toState p x).notes = s.notes := rfl
@[simp] theorem State.toState_lvl : (s.toState p x).lvl = s.lvl := rfl
@[simp] theorem State.toState_dyn : (s.toState p x).dyn = s.dyn := rfl
@[simp] theorem State.toState_cams : (s.toState p x).cams = s.cams := rfl
@[simp] theorem State.toState_banks : (s.toState p x).banks = s.banks := rfl
@[simp] theorem State.toState_codec : (s.toState p x).codec = s.codec := rfl
@[simp] theorem State.toState_kv : (s.toState p x).kv = s.kv := rfl
@[simp] theorem State.toState_ports : (s.toState p x).ports = s.ports := rfl
@[simp] theorem State.toState_trackers : (s.toState p x).trackers = s.trackers := rfl
@[simp] theorem State.toState_jsls : (s.toState p x).jsls = s.jsls := rfl
@[simp] theorem State.toState_loops : (s.toState p x).loops = s.loops := rfl
@[simp] theorem State.toState_proc : (s.toState p x).proc = s.proc := rfl
@[simp] theorem State.toState_safein : (s.toState p x).safein = s.safein := rfl
@[simp] theorem State.toState_boot : (s.toState p x).boot = s.boot := rfl
@[simp] theorem State.toState_macs : (s.toState p x).macs = s.macs := rfl
@[simp] theorem State.toState_comp : (s.toState p x).comp = s.comp := rfl
end toState

section takeCommand
variable (s : State) (p : PageRef)
@[simp] theorem State.takeCommand_chip : (s.takeCommand p).chip = s.chip := rfl
@[simp] theorem State.takeCommand_mtn : (s.takeCommand p).mtn = s.mtn := rfl
@[simp] theorem State.takeCommand_pending : (s.takeCommand p).pending = s.pending := rfl
@[simp] theorem State.takeCommand_regs : (s.takeCommand p).regs = s.regs := rfl
@[simp] theorem State.takeCommand_mem : (s.takeCommand p).mem = s.mem := rfl
@[simp] theorem State.takeCommand_sram : (s.takeCommand p).sram = s.sram := rfl
@[simp] theorem State.takeCommand_tempo : (s.takeCommand p).tempo = s.tempo := rfl
@[simp] theorem State.takeCommand_hrs : (s.takeCommand p).hrs = s.hrs := rfl
@[simp] theorem State.takeCommand_cues : (s.takeCommand p).cues = s.cues := rfl
@[simp] theorem State.takeCommand_excused : (s.takeCommand p).excused = s.excused := rfl
@[simp] theorem State.takeCommand_dma : (s.takeCommand p).dma = s.dma := rfl
@[simp] theorem State.takeCommand_tiles : (s.takeCommand p).tiles = s.tiles := rfl
@[simp] theorem State.takeCommand_notes : (s.takeCommand p).notes = s.notes := rfl
@[simp] theorem State.takeCommand_lvl : (s.takeCommand p).lvl = s.lvl := rfl
@[simp] theorem State.takeCommand_dyn : (s.takeCommand p).dyn = s.dyn := rfl
@[simp] theorem State.takeCommand_cams : (s.takeCommand p).cams = s.cams := rfl
@[simp] theorem State.takeCommand_banks : (s.takeCommand p).banks = s.banks := rfl
@[simp] theorem State.takeCommand_codec : (s.takeCommand p).codec = s.codec := rfl
@[simp] theorem State.takeCommand_kv : (s.takeCommand p).kv = s.kv := rfl
@[simp] theorem State.takeCommand_ports : (s.takeCommand p).ports = s.ports := rfl
@[simp] theorem State.takeCommand_trackers : (s.takeCommand p).trackers = s.trackers := rfl
@[simp] theorem State.takeCommand_jsls : (s.takeCommand p).jsls = s.jsls := rfl
@[simp] theorem State.takeCommand_loops : (s.takeCommand p).loops = s.loops := rfl
@[simp] theorem State.takeCommand_proc : (s.takeCommand p).proc = s.proc := rfl
@[simp] theorem State.takeCommand_safein : (s.takeCommand p).safein = s.safein := rfl
@[simp] theorem State.takeCommand_boot : (s.takeCommand p).boot = s.boot := rfl
@[simp] theorem State.takeCommand_macs : (s.takeCommand p).macs = s.macs := rfl
@[simp] theorem State.takeCommand_comp : (s.takeCommand p).comp = s.comp := rfl
end takeCommand

section countWrite
variable (s : State) (p : PageRef)
@[simp] theorem State.countWrite_chip : (s.countWrite p).chip = s.chip := rfl
@[simp] theorem State.countWrite_mtn : (s.countWrite p).mtn = s.mtn := rfl
@[simp] theorem State.countWrite_pending : (s.countWrite p).pending = s.pending := rfl
@[simp] theorem State.countWrite_regs : (s.countWrite p).regs = s.regs := rfl
@[simp] theorem State.countWrite_mem : (s.countWrite p).mem = s.mem := rfl
@[simp] theorem State.countWrite_sram : (s.countWrite p).sram = s.sram := rfl
@[simp] theorem State.countWrite_tempo : (s.countWrite p).tempo = s.tempo := rfl
@[simp] theorem State.countWrite_hrs : (s.countWrite p).hrs = s.hrs := rfl
@[simp] theorem State.countWrite_cues : (s.countWrite p).cues = s.cues := rfl
@[simp] theorem State.countWrite_excused : (s.countWrite p).excused = s.excused := rfl
@[simp] theorem State.countWrite_dma : (s.countWrite p).dma = s.dma := rfl
@[simp] theorem State.countWrite_tiles : (s.countWrite p).tiles = s.tiles := rfl
@[simp] theorem State.countWrite_notes : (s.countWrite p).notes = s.notes := rfl
@[simp] theorem State.countWrite_lvl : (s.countWrite p).lvl = s.lvl := rfl
@[simp] theorem State.countWrite_dyn : (s.countWrite p).dyn = s.dyn := rfl
@[simp] theorem State.countWrite_cams : (s.countWrite p).cams = s.cams := rfl
@[simp] theorem State.countWrite_banks : (s.countWrite p).banks = s.banks := rfl
@[simp] theorem State.countWrite_codec : (s.countWrite p).codec = s.codec := rfl
@[simp] theorem State.countWrite_kv : (s.countWrite p).kv = s.kv := rfl
@[simp] theorem State.countWrite_ports : (s.countWrite p).ports = s.ports := rfl
@[simp] theorem State.countWrite_trackers : (s.countWrite p).trackers = s.trackers := rfl
@[simp] theorem State.countWrite_jsls : (s.countWrite p).jsls = s.jsls := rfl
@[simp] theorem State.countWrite_loops : (s.countWrite p).loops = s.loops := rfl
@[simp] theorem State.countWrite_proc : (s.countWrite p).proc = s.proc := rfl
@[simp] theorem State.countWrite_safein : (s.countWrite p).safein = s.safein := rfl
@[simp] theorem State.countWrite_boot : (s.countWrite p).boot = s.boot := rfl
@[simp] theorem State.countWrite_macs : (s.countWrite p).macs = s.macs := rfl
@[simp] theorem State.countWrite_comp : (s.countWrite p).comp = s.comp := rfl
end countWrite

section syndrome
variable (s : State) (p : PageRef) (a b : Nat)
@[simp] theorem State.syndrome_chip : (s.syndrome p a b).chip = s.chip := rfl
@[simp] theorem State.syndrome_mtn : (s.syndrome p a b).mtn = s.mtn := rfl
@[simp] theorem State.syndrome_pending : (s.syndrome p a b).pending = s.pending := rfl
@[simp] theorem State.syndrome_regs : (s.syndrome p a b).regs = s.regs := rfl
@[simp] theorem State.syndrome_mem : (s.syndrome p a b).mem = s.mem := rfl
@[simp] theorem State.syndrome_sram : (s.syndrome p a b).sram = s.sram := rfl
@[simp] theorem State.syndrome_tempo : (s.syndrome p a b).tempo = s.tempo := rfl
@[simp] theorem State.syndrome_hrs : (s.syndrome p a b).hrs = s.hrs := rfl
@[simp] theorem State.syndrome_cues : (s.syndrome p a b).cues = s.cues := rfl
@[simp] theorem State.syndrome_excused : (s.syndrome p a b).excused = s.excused := rfl
@[simp] theorem State.syndrome_dma : (s.syndrome p a b).dma = s.dma := rfl
@[simp] theorem State.syndrome_tiles : (s.syndrome p a b).tiles = s.tiles := rfl
@[simp] theorem State.syndrome_notes : (s.syndrome p a b).notes = s.notes := rfl
@[simp] theorem State.syndrome_lvl : (s.syndrome p a b).lvl = s.lvl := rfl
@[simp] theorem State.syndrome_dyn : (s.syndrome p a b).dyn = s.dyn := rfl
@[simp] theorem State.syndrome_cams : (s.syndrome p a b).cams = s.cams := rfl
@[simp] theorem State.syndrome_banks : (s.syndrome p a b).banks = s.banks := rfl
@[simp] theorem State.syndrome_codec : (s.syndrome p a b).codec = s.codec := rfl
@[simp] theorem State.syndrome_kv : (s.syndrome p a b).kv = s.kv := rfl
@[simp] theorem State.syndrome_ports : (s.syndrome p a b).ports = s.ports := rfl
@[simp] theorem State.syndrome_trackers : (s.syndrome p a b).trackers = s.trackers := rfl
@[simp] theorem State.syndrome_jsls : (s.syndrome p a b).jsls = s.jsls := rfl
@[simp] theorem State.syndrome_loops : (s.syndrome p a b).loops = s.loops := rfl
@[simp] theorem State.syndrome_proc : (s.syndrome p a b).proc = s.proc := rfl
@[simp] theorem State.syndrome_safein : (s.syndrome p a b).safein = s.safein := rfl
@[simp] theorem State.syndrome_boot : (s.syndrome p a b).boot = s.boot := rfl
@[simp] theorem State.syndrome_macs : (s.syndrome p a b).macs = s.macs := rfl
@[simp] theorem State.syndrome_comp : (s.syndrome p a b).comp = s.comp := rfl
end syndrome

section postResult
variable (s : State) (p : PageRef) (res : Nat) (x : PageState) (code : Nat) (seq : BitVec 16)
@[simp] theorem State.postResult_chip : (s.postResult p res x code seq).chip = s.chip := rfl
@[simp] theorem State.postResult_mtn : (s.postResult p res x code seq).mtn = s.mtn := rfl
@[simp] theorem State.postResult_pending : (s.postResult p res x code seq).pending = s.pending := rfl
@[simp] theorem State.postResult_regs : (s.postResult p res x code seq).regs = s.regs := rfl
@[simp] theorem State.postResult_mem : (s.postResult p res x code seq).mem = s.mem := rfl
@[simp] theorem State.postResult_sram : (s.postResult p res x code seq).sram = s.sram := rfl
@[simp] theorem State.postResult_tempo : (s.postResult p res x code seq).tempo = s.tempo := rfl
@[simp] theorem State.postResult_hrs : (s.postResult p res x code seq).hrs = s.hrs := rfl
@[simp] theorem State.postResult_cues : (s.postResult p res x code seq).cues = s.cues := rfl
@[simp] theorem State.postResult_excused : (s.postResult p res x code seq).excused = s.excused := rfl
@[simp] theorem State.postResult_dma : (s.postResult p res x code seq).dma = s.dma := rfl
@[simp] theorem State.postResult_tiles : (s.postResult p res x code seq).tiles = s.tiles := rfl
@[simp] theorem State.postResult_notes : (s.postResult p res x code seq).notes = s.notes := rfl
@[simp] theorem State.postResult_lvl : (s.postResult p res x code seq).lvl = s.lvl := rfl
@[simp] theorem State.postResult_dyn : (s.postResult p res x code seq).dyn = s.dyn := rfl
@[simp] theorem State.postResult_cams : (s.postResult p res x code seq).cams = s.cams := rfl
@[simp] theorem State.postResult_banks : (s.postResult p res x code seq).banks = s.banks := rfl
@[simp] theorem State.postResult_codec : (s.postResult p res x code seq).codec = s.codec := rfl
@[simp] theorem State.postResult_kv : (s.postResult p res x code seq).kv = s.kv := rfl
@[simp] theorem State.postResult_ports : (s.postResult p res x code seq).ports = s.ports := rfl
@[simp] theorem State.postResult_trackers : (s.postResult p res x code seq).trackers = s.trackers := rfl
@[simp] theorem State.postResult_jsls : (s.postResult p res x code seq).jsls = s.jsls := rfl
@[simp] theorem State.postResult_loops : (s.postResult p res x code seq).loops = s.loops := rfl
@[simp] theorem State.postResult_proc : (s.postResult p res x code seq).proc = s.proc := rfl
@[simp] theorem State.postResult_safein : (s.postResult p res x code seq).safein = s.safein := rfl
@[simp] theorem State.postResult_boot : (s.postResult p res x code seq).boot = s.boot := rfl
@[simp] theorem State.postResult_macs : (s.postResult p res x code seq).macs = s.macs := rfl
@[simp] theorem State.postResult_comp : (s.postResult p res x code seq).comp = s.comp := rfl
end postResult

section setRegN
variable (s : State) (p : PageRef) (off n : Nat)
@[simp] theorem State.setRegN_chip : (s.setRegN p off n).chip = s.chip := rfl
@[simp] theorem State.setRegN_mtn : (s.setRegN p off n).mtn = s.mtn := rfl
@[simp] theorem State.setRegN_pending : (s.setRegN p off n).pending = s.pending := rfl
@[simp] theorem State.setRegN_mem : (s.setRegN p off n).mem = s.mem := rfl
@[simp] theorem State.setRegN_sram : (s.setRegN p off n).sram = s.sram := rfl
@[simp] theorem State.setRegN_tempo : (s.setRegN p off n).tempo = s.tempo := rfl
@[simp] theorem State.setRegN_hrs : (s.setRegN p off n).hrs = s.hrs := rfl
@[simp] theorem State.setRegN_cues : (s.setRegN p off n).cues = s.cues := rfl
@[simp] theorem State.setRegN_excused : (s.setRegN p off n).excused = s.excused := rfl
@[simp] theorem State.setRegN_dma : (s.setRegN p off n).dma = s.dma := rfl
@[simp] theorem State.setRegN_tiles : (s.setRegN p off n).tiles = s.tiles := rfl
@[simp] theorem State.setRegN_notes : (s.setRegN p off n).notes = s.notes := rfl
@[simp] theorem State.setRegN_lvl : (s.setRegN p off n).lvl = s.lvl := rfl
@[simp] theorem State.setRegN_dyn : (s.setRegN p off n).dyn = s.dyn := rfl
@[simp] theorem State.setRegN_cams : (s.setRegN p off n).cams = s.cams := rfl
@[simp] theorem State.setRegN_banks : (s.setRegN p off n).banks = s.banks := rfl
@[simp] theorem State.setRegN_codec : (s.setRegN p off n).codec = s.codec := rfl
@[simp] theorem State.setRegN_kv : (s.setRegN p off n).kv = s.kv := rfl
@[simp] theorem State.setRegN_ports : (s.setRegN p off n).ports = s.ports := rfl
@[simp] theorem State.setRegN_trackers : (s.setRegN p off n).trackers = s.trackers := rfl
@[simp] theorem State.setRegN_jsls : (s.setRegN p off n).jsls = s.jsls := rfl
@[simp] theorem State.setRegN_loops : (s.setRegN p off n).loops = s.loops := rfl
@[simp] theorem State.setRegN_proc : (s.setRegN p off n).proc = s.proc := rfl
@[simp] theorem State.setRegN_safein : (s.setRegN p off n).safein = s.safein := rfl
@[simp] theorem State.setRegN_boot : (s.setRegN p off n).boot = s.boot := rfl
@[simp] theorem State.setRegN_macs : (s.setRegN p off n).macs = s.macs := rfl
@[simp] theorem State.setRegN_comp : (s.setRegN p off n).comp = s.comp := rfl
end setRegN

section setRegF
variable (s : State) (p : PageRef) (off hi lo n : Nat)
@[simp] theorem State.setRegF_chip : (s.setRegF p off hi lo n).chip = s.chip := rfl
@[simp] theorem State.setRegF_mtn : (s.setRegF p off hi lo n).mtn = s.mtn := rfl
@[simp] theorem State.setRegF_pending : (s.setRegF p off hi lo n).pending = s.pending := rfl
@[simp] theorem State.setRegF_mem : (s.setRegF p off hi lo n).mem = s.mem := rfl
@[simp] theorem State.setRegF_sram : (s.setRegF p off hi lo n).sram = s.sram := rfl
@[simp] theorem State.setRegF_tempo : (s.setRegF p off hi lo n).tempo = s.tempo := rfl
@[simp] theorem State.setRegF_hrs : (s.setRegF p off hi lo n).hrs = s.hrs := rfl
@[simp] theorem State.setRegF_cues : (s.setRegF p off hi lo n).cues = s.cues := rfl
@[simp] theorem State.setRegF_excused : (s.setRegF p off hi lo n).excused = s.excused := rfl
@[simp] theorem State.setRegF_dma : (s.setRegF p off hi lo n).dma = s.dma := rfl
@[simp] theorem State.setRegF_tiles : (s.setRegF p off hi lo n).tiles = s.tiles := rfl
@[simp] theorem State.setRegF_notes : (s.setRegF p off hi lo n).notes = s.notes := rfl
@[simp] theorem State.setRegF_lvl : (s.setRegF p off hi lo n).lvl = s.lvl := rfl
@[simp] theorem State.setRegF_dyn : (s.setRegF p off hi lo n).dyn = s.dyn := rfl
@[simp] theorem State.setRegF_cams : (s.setRegF p off hi lo n).cams = s.cams := rfl
@[simp] theorem State.setRegF_banks : (s.setRegF p off hi lo n).banks = s.banks := rfl
@[simp] theorem State.setRegF_codec : (s.setRegF p off hi lo n).codec = s.codec := rfl
@[simp] theorem State.setRegF_kv : (s.setRegF p off hi lo n).kv = s.kv := rfl
@[simp] theorem State.setRegF_ports : (s.setRegF p off hi lo n).ports = s.ports := rfl
@[simp] theorem State.setRegF_trackers : (s.setRegF p off hi lo n).trackers = s.trackers := rfl
@[simp] theorem State.setRegF_jsls : (s.setRegF p off hi lo n).jsls = s.jsls := rfl
@[simp] theorem State.setRegF_loops : (s.setRegF p off hi lo n).loops = s.loops := rfl
@[simp] theorem State.setRegF_proc : (s.setRegF p off hi lo n).proc = s.proc := rfl
@[simp] theorem State.setRegF_safein : (s.setRegF p off hi lo n).safein = s.safein := rfl
@[simp] theorem State.setRegF_boot : (s.setRegF p off hi lo n).boot = s.boot := rfl
@[simp] theorem State.setRegF_macs : (s.setRegF p off hi lo n).macs = s.macs := rfl
@[simp] theorem State.setRegF_comp : (s.setRegF p off hi lo n).comp = s.comp := rfl
end setRegF

section setReg64
variable (s : State) (p : PageRef) (off n : Nat)
@[simp] theorem State.setReg64_chip : (s.setReg64 p off n).chip = s.chip := rfl
@[simp] theorem State.setReg64_mtn : (s.setReg64 p off n).mtn = s.mtn := rfl
@[simp] theorem State.setReg64_pending : (s.setReg64 p off n).pending = s.pending := rfl
@[simp] theorem State.setReg64_mem : (s.setReg64 p off n).mem = s.mem := rfl
@[simp] theorem State.setReg64_sram : (s.setReg64 p off n).sram = s.sram := rfl
@[simp] theorem State.setReg64_tempo : (s.setReg64 p off n).tempo = s.tempo := rfl
@[simp] theorem State.setReg64_hrs : (s.setReg64 p off n).hrs = s.hrs := rfl
@[simp] theorem State.setReg64_cues : (s.setReg64 p off n).cues = s.cues := rfl
@[simp] theorem State.setReg64_excused : (s.setReg64 p off n).excused = s.excused := rfl
@[simp] theorem State.setReg64_dma : (s.setReg64 p off n).dma = s.dma := rfl
@[simp] theorem State.setReg64_tiles : (s.setReg64 p off n).tiles = s.tiles := rfl
@[simp] theorem State.setReg64_notes : (s.setReg64 p off n).notes = s.notes := rfl
@[simp] theorem State.setReg64_lvl : (s.setReg64 p off n).lvl = s.lvl := rfl
@[simp] theorem State.setReg64_dyn : (s.setReg64 p off n).dyn = s.dyn := rfl
@[simp] theorem State.setReg64_cams : (s.setReg64 p off n).cams = s.cams := rfl
@[simp] theorem State.setReg64_banks : (s.setReg64 p off n).banks = s.banks := rfl
@[simp] theorem State.setReg64_codec : (s.setReg64 p off n).codec = s.codec := rfl
@[simp] theorem State.setReg64_kv : (s.setReg64 p off n).kv = s.kv := rfl
@[simp] theorem State.setReg64_ports : (s.setReg64 p off n).ports = s.ports := rfl
@[simp] theorem State.setReg64_trackers : (s.setReg64 p off n).trackers = s.trackers := rfl
@[simp] theorem State.setReg64_jsls : (s.setReg64 p off n).jsls = s.jsls := rfl
@[simp] theorem State.setReg64_loops : (s.setReg64 p off n).loops = s.loops := rfl
@[simp] theorem State.setReg64_proc : (s.setReg64 p off n).proc = s.proc := rfl
@[simp] theorem State.setReg64_safein : (s.setReg64 p off n).safein = s.safein := rfl
@[simp] theorem State.setReg64_boot : (s.setReg64 p off n).boot = s.boot := rfl
@[simp] theorem State.setReg64_macs : (s.setReg64 p off n).macs = s.macs := rfl
@[simp] theorem State.setReg64_comp : (s.setReg64 p off n).comp = s.comp := rfl
end setReg64

section bumpF
variable (s : State) (p : PageRef) (off hi lo k : Nat)
@[simp] theorem State.bumpF_chip : (s.bumpF p off hi lo k).chip = s.chip := rfl
@[simp] theorem State.bumpF_mtn : (s.bumpF p off hi lo k).mtn = s.mtn := rfl
@[simp] theorem State.bumpF_pending : (s.bumpF p off hi lo k).pending = s.pending := rfl
@[simp] theorem State.bumpF_mem : (s.bumpF p off hi lo k).mem = s.mem := rfl
@[simp] theorem State.bumpF_sram : (s.bumpF p off hi lo k).sram = s.sram := rfl
@[simp] theorem State.bumpF_tempo : (s.bumpF p off hi lo k).tempo = s.tempo := rfl
@[simp] theorem State.bumpF_hrs : (s.bumpF p off hi lo k).hrs = s.hrs := rfl
@[simp] theorem State.bumpF_cues : (s.bumpF p off hi lo k).cues = s.cues := rfl
@[simp] theorem State.bumpF_excused : (s.bumpF p off hi lo k).excused = s.excused := rfl
@[simp] theorem State.bumpF_dma : (s.bumpF p off hi lo k).dma = s.dma := rfl
@[simp] theorem State.bumpF_tiles : (s.bumpF p off hi lo k).tiles = s.tiles := rfl
@[simp] theorem State.bumpF_notes : (s.bumpF p off hi lo k).notes = s.notes := rfl
@[simp] theorem State.bumpF_lvl : (s.bumpF p off hi lo k).lvl = s.lvl := rfl
@[simp] theorem State.bumpF_dyn : (s.bumpF p off hi lo k).dyn = s.dyn := rfl
@[simp] theorem State.bumpF_cams : (s.bumpF p off hi lo k).cams = s.cams := rfl
@[simp] theorem State.bumpF_banks : (s.bumpF p off hi lo k).banks = s.banks := rfl
@[simp] theorem State.bumpF_codec : (s.bumpF p off hi lo k).codec = s.codec := rfl
@[simp] theorem State.bumpF_kv : (s.bumpF p off hi lo k).kv = s.kv := rfl
@[simp] theorem State.bumpF_ports : (s.bumpF p off hi lo k).ports = s.ports := rfl
@[simp] theorem State.bumpF_trackers : (s.bumpF p off hi lo k).trackers = s.trackers := rfl
@[simp] theorem State.bumpF_jsls : (s.bumpF p off hi lo k).jsls = s.jsls := rfl
@[simp] theorem State.bumpF_loops : (s.bumpF p off hi lo k).loops = s.loops := rfl
@[simp] theorem State.bumpF_proc : (s.bumpF p off hi lo k).proc = s.proc := rfl
@[simp] theorem State.bumpF_safein : (s.bumpF p off hi lo k).safein = s.safein := rfl
@[simp] theorem State.bumpF_boot : (s.bumpF p off hi lo k).boot = s.boot := rfl
@[simp] theorem State.bumpF_macs : (s.bumpF p off hi lo k).macs = s.macs := rfl
@[simp] theorem State.bumpF_comp : (s.bumpF p off hi lo k).comp = s.comp := rfl
end bumpF

section incReg
variable (s : State) (p : PageRef) (off : Nat)
@[simp] theorem State.incReg_chip : (s.incReg p off).chip = s.chip := rfl
@[simp] theorem State.incReg_mtn : (s.incReg p off).mtn = s.mtn := rfl
@[simp] theorem State.incReg_pending : (s.incReg p off).pending = s.pending := rfl
@[simp] theorem State.incReg_mem : (s.incReg p off).mem = s.mem := rfl
@[simp] theorem State.incReg_sram : (s.incReg p off).sram = s.sram := rfl
@[simp] theorem State.incReg_tempo : (s.incReg p off).tempo = s.tempo := rfl
@[simp] theorem State.incReg_hrs : (s.incReg p off).hrs = s.hrs := rfl
@[simp] theorem State.incReg_cues : (s.incReg p off).cues = s.cues := rfl
@[simp] theorem State.incReg_excused : (s.incReg p off).excused = s.excused := rfl
@[simp] theorem State.incReg_dma : (s.incReg p off).dma = s.dma := rfl
@[simp] theorem State.incReg_tiles : (s.incReg p off).tiles = s.tiles := rfl
@[simp] theorem State.incReg_notes : (s.incReg p off).notes = s.notes := rfl
@[simp] theorem State.incReg_lvl : (s.incReg p off).lvl = s.lvl := rfl
@[simp] theorem State.incReg_dyn : (s.incReg p off).dyn = s.dyn := rfl
@[simp] theorem State.incReg_cams : (s.incReg p off).cams = s.cams := rfl
@[simp] theorem State.incReg_banks : (s.incReg p off).banks = s.banks := rfl
@[simp] theorem State.incReg_codec : (s.incReg p off).codec = s.codec := rfl
@[simp] theorem State.incReg_kv : (s.incReg p off).kv = s.kv := rfl
@[simp] theorem State.incReg_ports : (s.incReg p off).ports = s.ports := rfl
@[simp] theorem State.incReg_trackers : (s.incReg p off).trackers = s.trackers := rfl
@[simp] theorem State.incReg_jsls : (s.incReg p off).jsls = s.jsls := rfl
@[simp] theorem State.incReg_loops : (s.incReg p off).loops = s.loops := rfl
@[simp] theorem State.incReg_proc : (s.incReg p off).proc = s.proc := rfl
@[simp] theorem State.incReg_safein : (s.incReg p off).safein = s.safein := rfl
@[simp] theorem State.incReg_boot : (s.incReg p off).boot = s.boot := rfl
@[simp] theorem State.incReg_macs : (s.incReg p off).macs = s.macs := rfl
@[simp] theorem State.incReg_comp : (s.incReg p off).comp = s.comp := rfl
end incReg

section modHr
variable (s : State) (h : Nat) (f : Hr → Hr)
@[simp] theorem State.modHr_chip : (s.modHr h f).chip = s.chip := rfl
@[simp] theorem State.modHr_mtn : (s.modHr h f).mtn = s.mtn := rfl
@[simp] theorem State.modHr_pending : (s.modHr h f).pending = s.pending := rfl
@[simp] theorem State.modHr_regs : (s.modHr h f).regs = s.regs := rfl
@[simp] theorem State.modHr_mem : (s.modHr h f).mem = s.mem := rfl
@[simp] theorem State.modHr_sram : (s.modHr h f).sram = s.sram := rfl
@[simp] theorem State.modHr_tempo : (s.modHr h f).tempo = s.tempo := rfl
@[simp] theorem State.modHr_cues : (s.modHr h f).cues = s.cues := rfl
@[simp] theorem State.modHr_excused : (s.modHr h f).excused = s.excused := rfl
@[simp] theorem State.modHr_dma : (s.modHr h f).dma = s.dma := rfl
@[simp] theorem State.modHr_tiles : (s.modHr h f).tiles = s.tiles := rfl
@[simp] theorem State.modHr_notes : (s.modHr h f).notes = s.notes := rfl
@[simp] theorem State.modHr_lvl : (s.modHr h f).lvl = s.lvl := rfl
@[simp] theorem State.modHr_dyn : (s.modHr h f).dyn = s.dyn := rfl
@[simp] theorem State.modHr_cams : (s.modHr h f).cams = s.cams := rfl
@[simp] theorem State.modHr_banks : (s.modHr h f).banks = s.banks := rfl
@[simp] theorem State.modHr_codec : (s.modHr h f).codec = s.codec := rfl
@[simp] theorem State.modHr_kv : (s.modHr h f).kv = s.kv := rfl
@[simp] theorem State.modHr_ports : (s.modHr h f).ports = s.ports := rfl
@[simp] theorem State.modHr_trackers : (s.modHr h f).trackers = s.trackers := rfl
@[simp] theorem State.modHr_jsls : (s.modHr h f).jsls = s.jsls := rfl
@[simp] theorem State.modHr_loops : (s.modHr h f).loops = s.loops := rfl
@[simp] theorem State.modHr_proc : (s.modHr h f).proc = s.proc := rfl
@[simp] theorem State.modHr_safein : (s.modHr h f).safein = s.safein := rfl
@[simp] theorem State.modHr_boot : (s.modHr h f).boot = s.boot := rfl
@[simp] theorem State.modHr_macs : (s.modHr h f).macs = s.macs := rfl
@[simp] theorem State.modHr_comp : (s.modHr h f).comp = s.comp := rfl
end modHr

section modTile
variable (s : State) (t : Nat) (f : Tile → Tile)
@[simp] theorem State.modTile_chip : (s.modTile t f).chip = s.chip := rfl
@[simp] theorem State.modTile_mtn : (s.modTile t f).mtn = s.mtn := rfl
@[simp] theorem State.modTile_pending : (s.modTile t f).pending = s.pending := rfl
@[simp] theorem State.modTile_regs : (s.modTile t f).regs = s.regs := rfl
@[simp] theorem State.modTile_mem : (s.modTile t f).mem = s.mem := rfl
@[simp] theorem State.modTile_sram : (s.modTile t f).sram = s.sram := rfl
@[simp] theorem State.modTile_tempo : (s.modTile t f).tempo = s.tempo := rfl
@[simp] theorem State.modTile_hrs : (s.modTile t f).hrs = s.hrs := rfl
@[simp] theorem State.modTile_cues : (s.modTile t f).cues = s.cues := rfl
@[simp] theorem State.modTile_excused : (s.modTile t f).excused = s.excused := rfl
@[simp] theorem State.modTile_dma : (s.modTile t f).dma = s.dma := rfl
@[simp] theorem State.modTile_notes : (s.modTile t f).notes = s.notes := rfl
@[simp] theorem State.modTile_lvl : (s.modTile t f).lvl = s.lvl := rfl
@[simp] theorem State.modTile_dyn : (s.modTile t f).dyn = s.dyn := rfl
@[simp] theorem State.modTile_cams : (s.modTile t f).cams = s.cams := rfl
@[simp] theorem State.modTile_banks : (s.modTile t f).banks = s.banks := rfl
@[simp] theorem State.modTile_codec : (s.modTile t f).codec = s.codec := rfl
@[simp] theorem State.modTile_kv : (s.modTile t f).kv = s.kv := rfl
@[simp] theorem State.modTile_ports : (s.modTile t f).ports = s.ports := rfl
@[simp] theorem State.modTile_trackers : (s.modTile t f).trackers = s.trackers := rfl
@[simp] theorem State.modTile_jsls : (s.modTile t f).jsls = s.jsls := rfl
@[simp] theorem State.modTile_loops : (s.modTile t f).loops = s.loops := rfl
@[simp] theorem State.modTile_proc : (s.modTile t f).proc = s.proc := rfl
@[simp] theorem State.modTile_safein : (s.modTile t f).safein = s.safein := rfl
@[simp] theorem State.modTile_boot : (s.modTile t f).boot = s.boot := rfl
@[simp] theorem State.modTile_macs : (s.modTile t f).macs = s.macs := rfl
@[simp] theorem State.modTile_comp : (s.modTile t f).comp = s.comp := rfl
end modTile

section answerWord
variable (s : State) (v : Word)
@[simp] theorem State.answerWord_chip : (s.answerWord v).chip = s.chip := rfl
@[simp] theorem State.answerWord_mtn : (s.answerWord v).mtn = s.mtn := rfl
@[simp] theorem State.answerWord_pending : (s.answerWord v).pending = s.pending := rfl
@[simp] theorem State.answerWord_regs : (s.answerWord v).regs = s.regs := rfl
@[simp] theorem State.answerWord_mem : (s.answerWord v).mem = s.mem := rfl
@[simp] theorem State.answerWord_sram : (s.answerWord v).sram = s.sram := rfl
@[simp] theorem State.answerWord_tempo : (s.answerWord v).tempo = s.tempo := rfl
@[simp] theorem State.answerWord_hrs : (s.answerWord v).hrs = s.hrs := rfl
@[simp] theorem State.answerWord_cues : (s.answerWord v).cues = s.cues := rfl
@[simp] theorem State.answerWord_excused : (s.answerWord v).excused = s.excused := rfl
@[simp] theorem State.answerWord_dma : (s.answerWord v).dma = s.dma := rfl
@[simp] theorem State.answerWord_tiles : (s.answerWord v).tiles = s.tiles := rfl
@[simp] theorem State.answerWord_notes : (s.answerWord v).notes = s.notes := rfl
@[simp] theorem State.answerWord_lvl : (s.answerWord v).lvl = s.lvl := rfl
@[simp] theorem State.answerWord_dyn : (s.answerWord v).dyn = s.dyn := rfl
@[simp] theorem State.answerWord_cams : (s.answerWord v).cams = s.cams := rfl
@[simp] theorem State.answerWord_banks : (s.answerWord v).banks = s.banks := rfl
@[simp] theorem State.answerWord_codec : (s.answerWord v).codec = s.codec := rfl
@[simp] theorem State.answerWord_kv : (s.answerWord v).kv = s.kv := rfl
@[simp] theorem State.answerWord_ports : (s.answerWord v).ports = s.ports := rfl
@[simp] theorem State.answerWord_trackers : (s.answerWord v).trackers = s.trackers := rfl
@[simp] theorem State.answerWord_jsls : (s.answerWord v).jsls = s.jsls := rfl
@[simp] theorem State.answerWord_loops : (s.answerWord v).loops = s.loops := rfl
@[simp] theorem State.answerWord_proc : (s.answerWord v).proc = s.proc := rfl
@[simp] theorem State.answerWord_safein : (s.answerWord v).safein = s.safein := rfl
@[simp] theorem State.answerWord_boot : (s.answerWord v).boot = s.boot := rfl
@[simp] theorem State.answerWord_macs : (s.answerWord v).macs = s.macs := rfl
@[simp] theorem State.answerWord_comp : (s.answerWord v).comp = s.comp := rfl
end answerWord

section writeBytes
variable (s : State) (a : Nat) (bs : List Byte) (b : Bool)
@[simp] theorem State.writeBytes_chip : (s.writeBytes a bs b).chip = s.chip := rfl
@[simp] theorem State.writeBytes_mtn : (s.writeBytes a bs b).mtn = s.mtn := rfl
@[simp] theorem State.writeBytes_pending : (s.writeBytes a bs b).pending = s.pending := rfl
@[simp] theorem State.writeBytes_regs : (s.writeBytes a bs b).regs = s.regs := rfl
@[simp] theorem State.writeBytes_tempo : (s.writeBytes a bs b).tempo = s.tempo := rfl
@[simp] theorem State.writeBytes_hrs : (s.writeBytes a bs b).hrs = s.hrs := rfl
@[simp] theorem State.writeBytes_cues : (s.writeBytes a bs b).cues = s.cues := rfl
@[simp] theorem State.writeBytes_excused : (s.writeBytes a bs b).excused = s.excused := rfl
@[simp] theorem State.writeBytes_dma : (s.writeBytes a bs b).dma = s.dma := rfl
@[simp] theorem State.writeBytes_tiles : (s.writeBytes a bs b).tiles = s.tiles := rfl
@[simp] theorem State.writeBytes_notes : (s.writeBytes a bs b).notes = s.notes := rfl
@[simp] theorem State.writeBytes_lvl : (s.writeBytes a bs b).lvl = s.lvl := rfl
@[simp] theorem State.writeBytes_dyn : (s.writeBytes a bs b).dyn = s.dyn := rfl
@[simp] theorem State.writeBytes_cams : (s.writeBytes a bs b).cams = s.cams := rfl
@[simp] theorem State.writeBytes_banks : (s.writeBytes a bs b).banks = s.banks := rfl
@[simp] theorem State.writeBytes_codec : (s.writeBytes a bs b).codec = s.codec := rfl
@[simp] theorem State.writeBytes_kv : (s.writeBytes a bs b).kv = s.kv := rfl
@[simp] theorem State.writeBytes_ports : (s.writeBytes a bs b).ports = s.ports := rfl
@[simp] theorem State.writeBytes_trackers : (s.writeBytes a bs b).trackers = s.trackers := rfl
@[simp] theorem State.writeBytes_jsls : (s.writeBytes a bs b).jsls = s.jsls := rfl
@[simp] theorem State.writeBytes_loops : (s.writeBytes a bs b).loops = s.loops := rfl
@[simp] theorem State.writeBytes_proc : (s.writeBytes a bs b).proc = s.proc := rfl
@[simp] theorem State.writeBytes_safein : (s.writeBytes a bs b).safein = s.safein := rfl
@[simp] theorem State.writeBytes_boot : (s.writeBytes a bs b).boot = s.boot := rfl
@[simp] theorem State.writeBytes_macs : (s.writeBytes a bs b).macs = s.macs := rfl
@[simp] theorem State.writeBytes_comp : (s.writeBytes a bs b).comp = s.comp := rfl
end writeBytes

section advanceTo
variable (s : State) (t : Nat)
@[simp] theorem advanceTo_chip : (advanceTo t s).chip = s.chip := by unfold advanceTo; split <;> rfl
@[simp] theorem advanceTo_pending : (advanceTo t s).pending = s.pending := by unfold advanceTo; split <;> rfl
@[simp] theorem advanceTo_regs : (advanceTo t s).regs = s.regs := by unfold advanceTo; split <;> rfl
@[simp] theorem advanceTo_mem : (advanceTo t s).mem = s.mem := by unfold advanceTo; split <;> rfl
@[simp] theorem advanceTo_sram : (advanceTo t s).sram = s.sram := by unfold advanceTo; split <;> rfl
@[simp] theorem advanceTo_tempo : (advanceTo t s).tempo = s.tempo := by unfold advanceTo; split <;> rfl
@[simp] theorem advanceTo_hrs : (advanceTo t s).hrs = s.hrs := by unfold advanceTo; split <;> rfl
@[simp] theorem advanceTo_cues : (advanceTo t s).cues = s.cues := by unfold advanceTo; split <;> rfl
@[simp] theorem advanceTo_excused : (advanceTo t s).excused = s.excused := by unfold advanceTo; split <;> rfl
@[simp] theorem advanceTo_dma : (advanceTo t s).dma = s.dma := by unfold advanceTo; split <;> rfl
@[simp] theorem advanceTo_tiles : (advanceTo t s).tiles = s.tiles := by unfold advanceTo; split <;> rfl
@[simp] theorem advanceTo_notes : (advanceTo t s).notes = s.notes := by unfold advanceTo; split <;> rfl
@[simp] theorem advanceTo_lvl : (advanceTo t s).lvl = s.lvl := by unfold advanceTo; split <;> rfl
@[simp] theorem advanceTo_dyn : (advanceTo t s).dyn = s.dyn := by unfold advanceTo; split <;> rfl
@[simp] theorem advanceTo_cams : (advanceTo t s).cams = s.cams := by unfold advanceTo; split <;> rfl
@[simp] theorem advanceTo_banks : (advanceTo t s).banks = s.banks := by unfold advanceTo; split <;> rfl
@[simp] theorem advanceTo_codec : (advanceTo t s).codec = s.codec := by unfold advanceTo; split <;> rfl
@[simp] theorem advanceTo_kv : (advanceTo t s).kv = s.kv := by unfold advanceTo; split <;> rfl
@[simp] theorem advanceTo_ports : (advanceTo t s).ports = s.ports := by unfold advanceTo; split <;> rfl
@[simp] theorem advanceTo_trackers : (advanceTo t s).trackers = s.trackers := by unfold advanceTo; split <;> rfl
@[simp] theorem advanceTo_jsls : (advanceTo t s).jsls = s.jsls := by unfold advanceTo; split <;> rfl
@[simp] theorem advanceTo_loops : (advanceTo t s).loops = s.loops := by unfold advanceTo; split <;> rfl
@[simp] theorem advanceTo_proc : (advanceTo t s).proc = s.proc := by unfold advanceTo; split <;> rfl
@[simp] theorem advanceTo_safein : (advanceTo t s).safein = s.safein := by unfold advanceTo; split <;> rfl
@[simp] theorem advanceTo_boot : (advanceTo t s).boot = s.boot := by unfold advanceTo; split <;> rfl
@[simp] theorem advanceTo_macs : (advanceTo t s).macs = s.macs := by unfold advanceTo; split <;> rfl
@[simp] theorem advanceTo_comp : (advanceTo t s).comp = s.comp := by unfold advanceTo; split <;> rfl
end advanceTo

section wakeBy
variable (s : State) (k : Nat)
@[simp] theorem State.wakeBy_chip : (s.wakeBy k).chip = s.chip := by unfold State.wakeBy; split <;> rfl
@[simp] theorem State.wakeBy_mtn : (s.wakeBy k).mtn = s.mtn := by unfold State.wakeBy; split <;> rfl
@[simp] theorem State.wakeBy_pending : (s.wakeBy k).pending = s.pending := by unfold State.wakeBy; split <;> rfl
@[simp] theorem State.wakeBy_regs : (s.wakeBy k).regs = s.regs := by unfold State.wakeBy; split <;> rfl
@[simp] theorem State.wakeBy_mem : (s.wakeBy k).mem = s.mem := by unfold State.wakeBy; split <;> rfl
@[simp] theorem State.wakeBy_sram : (s.wakeBy k).sram = s.sram := by unfold State.wakeBy; split <;> rfl
@[simp] theorem State.wakeBy_tempo : (s.wakeBy k).tempo = s.tempo := by unfold State.wakeBy; split <;> rfl
@[simp] theorem State.wakeBy_hrs : (s.wakeBy k).hrs = s.hrs := by unfold State.wakeBy; split <;> rfl
@[simp] theorem State.wakeBy_cues : (s.wakeBy k).cues = s.cues := by unfold State.wakeBy; split <;> rfl
@[simp] theorem State.wakeBy_excused : (s.wakeBy k).excused = s.excused := by unfold State.wakeBy; split <;> rfl
@[simp] theorem State.wakeBy_dma : (s.wakeBy k).dma = s.dma := by unfold State.wakeBy; split <;> rfl
@[simp] theorem State.wakeBy_tiles : (s.wakeBy k).tiles = s.tiles := by unfold State.wakeBy; split <;> rfl
@[simp] theorem State.wakeBy_notes : (s.wakeBy k).notes = s.notes := by unfold State.wakeBy; split <;> rfl
@[simp] theorem State.wakeBy_lvl : (s.wakeBy k).lvl = s.lvl := by unfold State.wakeBy; split <;> rfl
@[simp] theorem State.wakeBy_cams : (s.wakeBy k).cams = s.cams := by unfold State.wakeBy; split <;> rfl
@[simp] theorem State.wakeBy_banks : (s.wakeBy k).banks = s.banks := by unfold State.wakeBy; split <;> rfl
@[simp] theorem State.wakeBy_codec : (s.wakeBy k).codec = s.codec := by unfold State.wakeBy; split <;> rfl
@[simp] theorem State.wakeBy_kv : (s.wakeBy k).kv = s.kv := by unfold State.wakeBy; split <;> rfl
@[simp] theorem State.wakeBy_ports : (s.wakeBy k).ports = s.ports := by unfold State.wakeBy; split <;> rfl
@[simp] theorem State.wakeBy_trackers : (s.wakeBy k).trackers = s.trackers := by unfold State.wakeBy; split <;> rfl
@[simp] theorem State.wakeBy_jsls : (s.wakeBy k).jsls = s.jsls := by unfold State.wakeBy; split <;> rfl
@[simp] theorem State.wakeBy_loops : (s.wakeBy k).loops = s.loops := by unfold State.wakeBy; split <;> rfl
@[simp] theorem State.wakeBy_proc : (s.wakeBy k).proc = s.proc := by unfold State.wakeBy; split <;> rfl
@[simp] theorem State.wakeBy_safein : (s.wakeBy k).safein = s.safein := by unfold State.wakeBy; split <;> rfl
@[simp] theorem State.wakeBy_boot : (s.wakeBy k).boot = s.boot := by unfold State.wakeBy; split <;> rfl
@[simp] theorem State.wakeBy_macs : (s.wakeBy k).macs = s.macs := by unfold State.wakeBy; split <;> rfl
@[simp] theorem State.wakeBy_comp : (s.wakeBy k).comp = s.comp := by unfold State.wakeBy; split <;> rfl
end wakeBy

section hostWake
variable (s : State) (r : Requester)
@[simp] theorem State.hostWake_chip : (s.hostWake r).chip = s.chip := by cases r <;> simp [State.hostWake]
@[simp] theorem State.hostWake_mtn : (s.hostWake r).mtn = s.mtn := by cases r <;> simp [State.hostWake]
@[simp] theorem State.hostWake_pending : (s.hostWake r).pending = s.pending := by cases r <;> simp [State.hostWake]
@[simp] theorem State.hostWake_regs : (s.hostWake r).regs = s.regs := by cases r <;> simp [State.hostWake]
@[simp] theorem State.hostWake_mem : (s.hostWake r).mem = s.mem := by cases r <;> simp [State.hostWake]
@[simp] theorem State.hostWake_sram : (s.hostWake r).sram = s.sram := by cases r <;> simp [State.hostWake]
@[simp] theorem State.hostWake_tempo : (s.hostWake r).tempo = s.tempo := by cases r <;> simp [State.hostWake]
@[simp] theorem State.hostWake_hrs : (s.hostWake r).hrs = s.hrs := by cases r <;> simp [State.hostWake]
@[simp] theorem State.hostWake_cues : (s.hostWake r).cues = s.cues := by cases r <;> simp [State.hostWake]
@[simp] theorem State.hostWake_excused : (s.hostWake r).excused = s.excused := by cases r <;> simp [State.hostWake]
@[simp] theorem State.hostWake_dma : (s.hostWake r).dma = s.dma := by cases r <;> simp [State.hostWake]
@[simp] theorem State.hostWake_tiles : (s.hostWake r).tiles = s.tiles := by cases r <;> simp [State.hostWake]
@[simp] theorem State.hostWake_notes : (s.hostWake r).notes = s.notes := by cases r <;> simp [State.hostWake]
@[simp] theorem State.hostWake_lvl : (s.hostWake r).lvl = s.lvl := by cases r <;> simp [State.hostWake]
@[simp] theorem State.hostWake_cams : (s.hostWake r).cams = s.cams := by cases r <;> simp [State.hostWake]
@[simp] theorem State.hostWake_banks : (s.hostWake r).banks = s.banks := by cases r <;> simp [State.hostWake]
@[simp] theorem State.hostWake_codec : (s.hostWake r).codec = s.codec := by cases r <;> simp [State.hostWake]
@[simp] theorem State.hostWake_kv : (s.hostWake r).kv = s.kv := by cases r <;> simp [State.hostWake]
@[simp] theorem State.hostWake_ports : (s.hostWake r).ports = s.ports := by cases r <;> simp [State.hostWake]
@[simp] theorem State.hostWake_trackers : (s.hostWake r).trackers = s.trackers := by cases r <;> simp [State.hostWake]
@[simp] theorem State.hostWake_jsls : (s.hostWake r).jsls = s.jsls := by cases r <;> simp [State.hostWake]
@[simp] theorem State.hostWake_loops : (s.hostWake r).loops = s.loops := by cases r <;> simp [State.hostWake]
@[simp] theorem State.hostWake_proc : (s.hostWake r).proc = s.proc := by cases r <;> simp [State.hostWake]
@[simp] theorem State.hostWake_safein : (s.hostWake r).safein = s.safein := by cases r <;> simp [State.hostWake]
@[simp] theorem State.hostWake_boot : (s.hostWake r).boot = s.boot := by cases r <;> simp [State.hostWake]
@[simp] theorem State.hostWake_macs : (s.hostWake r).macs = s.macs := by cases r <;> simp [State.hostWake]
@[simp] theorem State.hostWake_comp : (s.hostWake r).comp = s.comp := by cases r <;> simp [State.hostWake]
end hostWake

section sendMsix
variable (s : State) (e : Nat)
@[simp] theorem State.sendMsix_chip : (s.sendMsix e).chip = s.chip := by unfold State.sendMsix; dsimp only; split <;> rfl
@[simp] theorem State.sendMsix_mtn : (s.sendMsix e).mtn = s.mtn := by unfold State.sendMsix; dsimp only; split <;> rfl
@[simp] theorem State.sendMsix_pending : (s.sendMsix e).pending = s.pending := by unfold State.sendMsix; dsimp only; split <;> rfl
@[simp] theorem State.sendMsix_regs : (s.sendMsix e).regs = s.regs := by unfold State.sendMsix; dsimp only; split <;> rfl
@[simp] theorem State.sendMsix_mem : (s.sendMsix e).mem = s.mem := by unfold State.sendMsix; dsimp only; split <;> rfl
@[simp] theorem State.sendMsix_sram : (s.sendMsix e).sram = s.sram := by unfold State.sendMsix; dsimp only; split <;> rfl
@[simp] theorem State.sendMsix_tempo : (s.sendMsix e).tempo = s.tempo := by unfold State.sendMsix; dsimp only; split <;> rfl
@[simp] theorem State.sendMsix_hrs : (s.sendMsix e).hrs = s.hrs := by unfold State.sendMsix; dsimp only; split <;> rfl
@[simp] theorem State.sendMsix_cues : (s.sendMsix e).cues = s.cues := by unfold State.sendMsix; dsimp only; split <;> rfl
@[simp] theorem State.sendMsix_excused : (s.sendMsix e).excused = s.excused := by unfold State.sendMsix; dsimp only; split <;> rfl
@[simp] theorem State.sendMsix_dma : (s.sendMsix e).dma = s.dma := by unfold State.sendMsix; dsimp only; split <;> rfl
@[simp] theorem State.sendMsix_tiles : (s.sendMsix e).tiles = s.tiles := by unfold State.sendMsix; dsimp only; split <;> rfl
@[simp] theorem State.sendMsix_notes : (s.sendMsix e).notes = s.notes := by unfold State.sendMsix; dsimp only; split <;> rfl
@[simp] theorem State.sendMsix_lvl : (s.sendMsix e).lvl = s.lvl := by unfold State.sendMsix; dsimp only; split <;> rfl
@[simp] theorem State.sendMsix_dyn : (s.sendMsix e).dyn = s.dyn := by unfold State.sendMsix; dsimp only; split <;> rfl
@[simp] theorem State.sendMsix_cams : (s.sendMsix e).cams = s.cams := by unfold State.sendMsix; dsimp only; split <;> rfl
@[simp] theorem State.sendMsix_banks : (s.sendMsix e).banks = s.banks := by unfold State.sendMsix; dsimp only; split <;> rfl
@[simp] theorem State.sendMsix_codec : (s.sendMsix e).codec = s.codec := by unfold State.sendMsix; dsimp only; split <;> rfl
@[simp] theorem State.sendMsix_kv : (s.sendMsix e).kv = s.kv := by unfold State.sendMsix; dsimp only; split <;> rfl
@[simp] theorem State.sendMsix_ports : (s.sendMsix e).ports = s.ports := by unfold State.sendMsix; dsimp only; split <;> rfl
@[simp] theorem State.sendMsix_trackers : (s.sendMsix e).trackers = s.trackers := by unfold State.sendMsix; dsimp only; split <;> rfl
@[simp] theorem State.sendMsix_jsls : (s.sendMsix e).jsls = s.jsls := by unfold State.sendMsix; dsimp only; split <;> rfl
@[simp] theorem State.sendMsix_loops : (s.sendMsix e).loops = s.loops := by unfold State.sendMsix; dsimp only; split <;> rfl
@[simp] theorem State.sendMsix_proc : (s.sendMsix e).proc = s.proc := by unfold State.sendMsix; dsimp only; split <;> rfl
@[simp] theorem State.sendMsix_safein : (s.sendMsix e).safein = s.safein := by unfold State.sendMsix; dsimp only; split <;> rfl
@[simp] theorem State.sendMsix_boot : (s.sendMsix e).boot = s.boot := by unfold State.sendMsix; dsimp only; split <;> rfl
@[simp] theorem State.sendMsix_macs : (s.sendMsix e).macs = s.macs := by unfold State.sendMsix; dsimp only; split <;> rfl
@[simp] theorem State.sendMsix_comp : (s.sendMsix e).comp = s.comp := by unfold State.sendMsix; dsimp only; split <;> rfl
end sendMsix

section raise
variable (s : State) (p : PageRef) (i : Nat)
@[simp] theorem State.raise_chip : (s.raise p i).chip = s.chip := by unfold State.raise; dsimp only; split <;> simp [State.irqMessage]
@[simp] theorem State.raise_mtn : (s.raise p i).mtn = s.mtn := by unfold State.raise; dsimp only; split <;> simp [State.irqMessage]
@[simp] theorem State.raise_pending : (s.raise p i).pending = s.pending := by unfold State.raise; dsimp only; split <;> simp [State.irqMessage]
@[simp] theorem State.raise_regs : (s.raise p i).regs = s.regs := by unfold State.raise; dsimp only; split <;> simp [State.irqMessage]
@[simp] theorem State.raise_mem : (s.raise p i).mem = s.mem := by unfold State.raise; dsimp only; split <;> simp [State.irqMessage]
@[simp] theorem State.raise_sram : (s.raise p i).sram = s.sram := by unfold State.raise; dsimp only; split <;> simp [State.irqMessage]
@[simp] theorem State.raise_tempo : (s.raise p i).tempo = s.tempo := by unfold State.raise; dsimp only; split <;> simp [State.irqMessage]
@[simp] theorem State.raise_hrs : (s.raise p i).hrs = s.hrs := by unfold State.raise; dsimp only; split <;> simp [State.irqMessage]
@[simp] theorem State.raise_cues : (s.raise p i).cues = s.cues := by unfold State.raise; dsimp only; split <;> simp [State.irqMessage]
@[simp] theorem State.raise_excused : (s.raise p i).excused = s.excused := by unfold State.raise; dsimp only; split <;> simp [State.irqMessage]
@[simp] theorem State.raise_dma : (s.raise p i).dma = s.dma := by unfold State.raise; dsimp only; split <;> simp [State.irqMessage]
@[simp] theorem State.raise_tiles : (s.raise p i).tiles = s.tiles := by unfold State.raise; dsimp only; split <;> simp [State.irqMessage]
@[simp] theorem State.raise_notes : (s.raise p i).notes = s.notes := by unfold State.raise; dsimp only; split <;> simp [State.irqMessage]
@[simp] theorem State.raise_lvl : (s.raise p i).lvl = s.lvl := by unfold State.raise; dsimp only; split <;> simp [State.irqMessage]
@[simp] theorem State.raise_dyn : (s.raise p i).dyn = s.dyn := by unfold State.raise; dsimp only; split <;> simp [State.irqMessage]
@[simp] theorem State.raise_cams : (s.raise p i).cams = s.cams := by unfold State.raise; dsimp only; split <;> simp [State.irqMessage]
@[simp] theorem State.raise_banks : (s.raise p i).banks = s.banks := by unfold State.raise; dsimp only; split <;> simp [State.irqMessage]
@[simp] theorem State.raise_codec : (s.raise p i).codec = s.codec := by unfold State.raise; dsimp only; split <;> simp [State.irqMessage]
@[simp] theorem State.raise_kv : (s.raise p i).kv = s.kv := by unfold State.raise; dsimp only; split <;> simp [State.irqMessage]
@[simp] theorem State.raise_ports : (s.raise p i).ports = s.ports := by unfold State.raise; dsimp only; split <;> simp [State.irqMessage]
@[simp] theorem State.raise_trackers : (s.raise p i).trackers = s.trackers := by unfold State.raise; dsimp only; split <;> simp [State.irqMessage]
@[simp] theorem State.raise_jsls : (s.raise p i).jsls = s.jsls := by unfold State.raise; dsimp only; split <;> simp [State.irqMessage]
@[simp] theorem State.raise_loops : (s.raise p i).loops = s.loops := by unfold State.raise; dsimp only; split <;> simp [State.irqMessage]
@[simp] theorem State.raise_proc : (s.raise p i).proc = s.proc := by unfold State.raise; dsimp only; split <;> simp [State.irqMessage]
@[simp] theorem State.raise_safein : (s.raise p i).safein = s.safein := by unfold State.raise; dsimp only; split <;> simp [State.irqMessage]
@[simp] theorem State.raise_boot : (s.raise p i).boot = s.boot := by unfold State.raise; dsimp only; split <;> simp [State.irqMessage]
@[simp] theorem State.raise_macs : (s.raise p i).macs = s.macs := by unfold State.raise; dsimp only; split <;> simp [State.irqMessage]
@[simp] theorem State.raise_comp : (s.raise p i).comp = s.comp := by unfold State.raise; dsimp only; split <;> simp [State.irqMessage]
end raise

section countRefusal
variable (s : State) (p : PageRef)
@[simp] theorem State.countRefusal_chip : (s.countRefusal p).chip = s.chip := by simp [State.countRefusal]
@[simp] theorem State.countRefusal_mtn : (s.countRefusal p).mtn = s.mtn := by simp [State.countRefusal]
@[simp] theorem State.countRefusal_pending : (s.countRefusal p).pending = s.pending := by simp [State.countRefusal]
@[simp] theorem State.countRefusal_regs : (s.countRefusal p).regs = s.regs := by simp [State.countRefusal]
@[simp] theorem State.countRefusal_mem : (s.countRefusal p).mem = s.mem := by simp [State.countRefusal]
@[simp] theorem State.countRefusal_sram : (s.countRefusal p).sram = s.sram := by simp [State.countRefusal]
@[simp] theorem State.countRefusal_tempo : (s.countRefusal p).tempo = s.tempo := by simp [State.countRefusal]
@[simp] theorem State.countRefusal_hrs : (s.countRefusal p).hrs = s.hrs := by simp [State.countRefusal]
@[simp] theorem State.countRefusal_cues : (s.countRefusal p).cues = s.cues := by simp [State.countRefusal]
@[simp] theorem State.countRefusal_excused : (s.countRefusal p).excused = s.excused := by simp [State.countRefusal]
@[simp] theorem State.countRefusal_dma : (s.countRefusal p).dma = s.dma := by simp [State.countRefusal]
@[simp] theorem State.countRefusal_tiles : (s.countRefusal p).tiles = s.tiles := by simp [State.countRefusal]
@[simp] theorem State.countRefusal_notes : (s.countRefusal p).notes = s.notes := by simp [State.countRefusal]
@[simp] theorem State.countRefusal_lvl : (s.countRefusal p).lvl = s.lvl := by simp [State.countRefusal]
@[simp] theorem State.countRefusal_dyn : (s.countRefusal p).dyn = s.dyn := by simp [State.countRefusal]
@[simp] theorem State.countRefusal_cams : (s.countRefusal p).cams = s.cams := by simp [State.countRefusal]
@[simp] theorem State.countRefusal_banks : (s.countRefusal p).banks = s.banks := by simp [State.countRefusal]
@[simp] theorem State.countRefusal_codec : (s.countRefusal p).codec = s.codec := by simp [State.countRefusal]
@[simp] theorem State.countRefusal_kv : (s.countRefusal p).kv = s.kv := by simp [State.countRefusal]
@[simp] theorem State.countRefusal_ports : (s.countRefusal p).ports = s.ports := by simp [State.countRefusal]
@[simp] theorem State.countRefusal_trackers : (s.countRefusal p).trackers = s.trackers := by simp [State.countRefusal]
@[simp] theorem State.countRefusal_jsls : (s.countRefusal p).jsls = s.jsls := by simp [State.countRefusal]
@[simp] theorem State.countRefusal_loops : (s.countRefusal p).loops = s.loops := by simp [State.countRefusal]
@[simp] theorem State.countRefusal_proc : (s.countRefusal p).proc = s.proc := by simp [State.countRefusal]
@[simp] theorem State.countRefusal_safein : (s.countRefusal p).safein = s.safein := by simp [State.countRefusal]
@[simp] theorem State.countRefusal_boot : (s.countRefusal p).boot = s.boot := by simp [State.countRefusal]
@[simp] theorem State.countRefusal_macs : (s.countRefusal p).macs = s.macs := by simp [State.countRefusal]
@[simp] theorem State.countRefusal_comp : (s.countRefusal p).comp = s.comp := by simp [State.countRefusal]
end countRefusal

section postAnswer
variable (s : State) (p : PageRef) (a : Ans) (x : PageState) (code : Nat) (seq : BitVec 16) (arg : BitVec 24)
@[simp] theorem State.postAnswer_chip : (s.postAnswer p a x code seq arg).chip = s.chip := by unfold State.postAnswer; dsimp only; (repeat' split) <;> simp
@[simp] theorem State.postAnswer_mtn : (s.postAnswer p a x code seq arg).mtn = s.mtn := by unfold State.postAnswer; dsimp only; (repeat' split) <;> simp
@[simp] theorem State.postAnswer_pending : (s.postAnswer p a x code seq arg).pending = s.pending := by unfold State.postAnswer; dsimp only; (repeat' split) <;> simp
@[simp] theorem State.postAnswer_regs : (s.postAnswer p a x code seq arg).regs = s.regs := by unfold State.postAnswer; dsimp only; (repeat' split) <;> simp
@[simp] theorem State.postAnswer_mem : (s.postAnswer p a x code seq arg).mem = s.mem := by unfold State.postAnswer; dsimp only; (repeat' split) <;> simp
@[simp] theorem State.postAnswer_sram : (s.postAnswer p a x code seq arg).sram = s.sram := by unfold State.postAnswer; dsimp only; (repeat' split) <;> simp
@[simp] theorem State.postAnswer_tempo : (s.postAnswer p a x code seq arg).tempo = s.tempo := by unfold State.postAnswer; dsimp only; (repeat' split) <;> simp
@[simp] theorem State.postAnswer_hrs : (s.postAnswer p a x code seq arg).hrs = s.hrs := by unfold State.postAnswer; dsimp only; (repeat' split) <;> simp
@[simp] theorem State.postAnswer_cues : (s.postAnswer p a x code seq arg).cues = s.cues := by unfold State.postAnswer; dsimp only; (repeat' split) <;> simp
@[simp] theorem State.postAnswer_excused : (s.postAnswer p a x code seq arg).excused = s.excused := by unfold State.postAnswer; dsimp only; (repeat' split) <;> simp
@[simp] theorem State.postAnswer_dma : (s.postAnswer p a x code seq arg).dma = s.dma := by unfold State.postAnswer; dsimp only; (repeat' split) <;> simp
@[simp] theorem State.postAnswer_tiles : (s.postAnswer p a x code seq arg).tiles = s.tiles := by unfold State.postAnswer; dsimp only; (repeat' split) <;> simp
@[simp] theorem State.postAnswer_notes : (s.postAnswer p a x code seq arg).notes = s.notes := by unfold State.postAnswer; dsimp only; (repeat' split) <;> simp
@[simp] theorem State.postAnswer_lvl : (s.postAnswer p a x code seq arg).lvl = s.lvl := by unfold State.postAnswer; dsimp only; (repeat' split) <;> simp
@[simp] theorem State.postAnswer_dyn : (s.postAnswer p a x code seq arg).dyn = s.dyn := by unfold State.postAnswer; dsimp only; (repeat' split) <;> simp
@[simp] theorem State.postAnswer_cams : (s.postAnswer p a x code seq arg).cams = s.cams := by unfold State.postAnswer; dsimp only; (repeat' split) <;> simp
@[simp] theorem State.postAnswer_banks : (s.postAnswer p a x code seq arg).banks = s.banks := by unfold State.postAnswer; dsimp only; (repeat' split) <;> simp
@[simp] theorem State.postAnswer_codec : (s.postAnswer p a x code seq arg).codec = s.codec := by unfold State.postAnswer; dsimp only; (repeat' split) <;> simp
@[simp] theorem State.postAnswer_kv : (s.postAnswer p a x code seq arg).kv = s.kv := by unfold State.postAnswer; dsimp only; (repeat' split) <;> simp
@[simp] theorem State.postAnswer_ports : (s.postAnswer p a x code seq arg).ports = s.ports := by unfold State.postAnswer; dsimp only; (repeat' split) <;> simp
@[simp] theorem State.postAnswer_trackers : (s.postAnswer p a x code seq arg).trackers = s.trackers := by unfold State.postAnswer; dsimp only; (repeat' split) <;> simp
@[simp] theorem State.postAnswer_jsls : (s.postAnswer p a x code seq arg).jsls = s.jsls := by unfold State.postAnswer; dsimp only; (repeat' split) <;> simp
@[simp] theorem State.postAnswer_loops : (s.postAnswer p a x code seq arg).loops = s.loops := by unfold State.postAnswer; dsimp only; (repeat' split) <;> simp
@[simp] theorem State.postAnswer_proc : (s.postAnswer p a x code seq arg).proc = s.proc := by unfold State.postAnswer; dsimp only; (repeat' split) <;> simp
@[simp] theorem State.postAnswer_safein : (s.postAnswer p a x code seq arg).safein = s.safein := by unfold State.postAnswer; dsimp only; (repeat' split) <;> simp
@[simp] theorem State.postAnswer_boot : (s.postAnswer p a x code seq arg).boot = s.boot := by unfold State.postAnswer; dsimp only; (repeat' split) <;> simp
@[simp] theorem State.postAnswer_macs : (s.postAnswer p a x code seq arg).macs = s.macs := by unfold State.postAnswer; dsimp only; (repeat' split) <;> simp
@[simp] theorem State.postAnswer_comp : (s.postAnswer p a x code seq arg).comp = s.comp := by unfold State.postAnswer; dsimp only; (repeat' split) <;> simp
end postAnswer

section postFinal
variable (s : State) (p : PageRef) (res : Nat) (syn : Option (Nat × Nat)) (c : PendCmd)
@[simp] theorem State.postFinal_chip : (s.postFinal p res syn c).chip = s.chip := by unfold State.postFinal; dsimp only; (repeat' split) <;> simp
@[simp] theorem State.postFinal_mtn : (s.postFinal p res syn c).mtn = s.mtn := by unfold State.postFinal; dsimp only; (repeat' split) <;> simp
@[simp] theorem State.postFinal_pending : (s.postFinal p res syn c).pending = s.pending := by unfold State.postFinal; dsimp only; (repeat' split) <;> simp
@[simp] theorem State.postFinal_regs : (s.postFinal p res syn c).regs = s.regs := by unfold State.postFinal; dsimp only; (repeat' split) <;> simp
@[simp] theorem State.postFinal_mem : (s.postFinal p res syn c).mem = s.mem := by unfold State.postFinal; dsimp only; (repeat' split) <;> simp
@[simp] theorem State.postFinal_sram : (s.postFinal p res syn c).sram = s.sram := by unfold State.postFinal; dsimp only; (repeat' split) <;> simp
@[simp] theorem State.postFinal_tempo : (s.postFinal p res syn c).tempo = s.tempo := by unfold State.postFinal; dsimp only; (repeat' split) <;> simp
@[simp] theorem State.postFinal_hrs : (s.postFinal p res syn c).hrs = s.hrs := by unfold State.postFinal; dsimp only; (repeat' split) <;> simp
@[simp] theorem State.postFinal_cues : (s.postFinal p res syn c).cues = s.cues := by unfold State.postFinal; dsimp only; (repeat' split) <;> simp
@[simp] theorem State.postFinal_excused : (s.postFinal p res syn c).excused = s.excused := by unfold State.postFinal; dsimp only; (repeat' split) <;> simp
@[simp] theorem State.postFinal_dma : (s.postFinal p res syn c).dma = s.dma := by unfold State.postFinal; dsimp only; (repeat' split) <;> simp
@[simp] theorem State.postFinal_tiles : (s.postFinal p res syn c).tiles = s.tiles := by unfold State.postFinal; dsimp only; (repeat' split) <;> simp
@[simp] theorem State.postFinal_notes : (s.postFinal p res syn c).notes = s.notes := by unfold State.postFinal; dsimp only; (repeat' split) <;> simp
@[simp] theorem State.postFinal_lvl : (s.postFinal p res syn c).lvl = s.lvl := by unfold State.postFinal; dsimp only; (repeat' split) <;> simp
@[simp] theorem State.postFinal_dyn : (s.postFinal p res syn c).dyn = s.dyn := by unfold State.postFinal; dsimp only; (repeat' split) <;> simp
@[simp] theorem State.postFinal_cams : (s.postFinal p res syn c).cams = s.cams := by unfold State.postFinal; dsimp only; (repeat' split) <;> simp
@[simp] theorem State.postFinal_banks : (s.postFinal p res syn c).banks = s.banks := by unfold State.postFinal; dsimp only; (repeat' split) <;> simp
@[simp] theorem State.postFinal_codec : (s.postFinal p res syn c).codec = s.codec := by unfold State.postFinal; dsimp only; (repeat' split) <;> simp
@[simp] theorem State.postFinal_kv : (s.postFinal p res syn c).kv = s.kv := by unfold State.postFinal; dsimp only; (repeat' split) <;> simp
@[simp] theorem State.postFinal_ports : (s.postFinal p res syn c).ports = s.ports := by unfold State.postFinal; dsimp only; (repeat' split) <;> simp
@[simp] theorem State.postFinal_trackers : (s.postFinal p res syn c).trackers = s.trackers := by unfold State.postFinal; dsimp only; (repeat' split) <;> simp
@[simp] theorem State.postFinal_jsls : (s.postFinal p res syn c).jsls = s.jsls := by unfold State.postFinal; dsimp only; (repeat' split) <;> simp
@[simp] theorem State.postFinal_loops : (s.postFinal p res syn c).loops = s.loops := by unfold State.postFinal; dsimp only; (repeat' split) <;> simp
@[simp] theorem State.postFinal_proc : (s.postFinal p res syn c).proc = s.proc := by unfold State.postFinal; dsimp only; (repeat' split) <;> simp
@[simp] theorem State.postFinal_safein : (s.postFinal p res syn c).safein = s.safein := by unfold State.postFinal; dsimp only; (repeat' split) <;> simp
@[simp] theorem State.postFinal_boot : (s.postFinal p res syn c).boot = s.boot := by unfold State.postFinal; dsimp only; (repeat' split) <;> simp
@[simp] theorem State.postFinal_macs : (s.postFinal p res syn c).macs = s.macs := by unfold State.postFinal; dsimp only; (repeat' split) <;> simp
@[simp] theorem State.postFinal_comp : (s.postFinal p res syn c).comp = s.comp := by unfold State.postFinal; dsimp only; (repeat' split) <;> simp
end postFinal

section finishPending
variable (s : State) (p : PageRef) (res : Nat) (syn : Option (Nat × Nat))
@[simp] theorem State.finishPending_chip : (s.finishPending p res syn).chip = s.chip := by unfold State.finishPending; split <;> simp
@[simp] theorem State.finishPending_mtn : (s.finishPending p res syn).mtn = s.mtn := by unfold State.finishPending; split <;> simp
@[simp] theorem State.finishPending_pending : (s.finishPending p res syn).pending = s.pending := by unfold State.finishPending; split <;> simp
@[simp] theorem State.finishPending_regs : (s.finishPending p res syn).regs = s.regs := by unfold State.finishPending; split <;> simp
@[simp] theorem State.finishPending_mem : (s.finishPending p res syn).mem = s.mem := by unfold State.finishPending; split <;> simp
@[simp] theorem State.finishPending_sram : (s.finishPending p res syn).sram = s.sram := by unfold State.finishPending; split <;> simp
@[simp] theorem State.finishPending_tempo : (s.finishPending p res syn).tempo = s.tempo := by unfold State.finishPending; split <;> simp
@[simp] theorem State.finishPending_hrs : (s.finishPending p res syn).hrs = s.hrs := by unfold State.finishPending; split <;> simp
@[simp] theorem State.finishPending_cues : (s.finishPending p res syn).cues = s.cues := by unfold State.finishPending; split <;> simp
@[simp] theorem State.finishPending_excused : (s.finishPending p res syn).excused = s.excused := by unfold State.finishPending; split <;> simp
@[simp] theorem State.finishPending_dma : (s.finishPending p res syn).dma = s.dma := by unfold State.finishPending; split <;> simp
@[simp] theorem State.finishPending_tiles : (s.finishPending p res syn).tiles = s.tiles := by unfold State.finishPending; split <;> simp
@[simp] theorem State.finishPending_notes : (s.finishPending p res syn).notes = s.notes := by unfold State.finishPending; split <;> simp
@[simp] theorem State.finishPending_lvl : (s.finishPending p res syn).lvl = s.lvl := by unfold State.finishPending; split <;> simp
@[simp] theorem State.finishPending_dyn : (s.finishPending p res syn).dyn = s.dyn := by unfold State.finishPending; split <;> simp
@[simp] theorem State.finishPending_cams : (s.finishPending p res syn).cams = s.cams := by unfold State.finishPending; split <;> simp
@[simp] theorem State.finishPending_banks : (s.finishPending p res syn).banks = s.banks := by unfold State.finishPending; split <;> simp
@[simp] theorem State.finishPending_codec : (s.finishPending p res syn).codec = s.codec := by unfold State.finishPending; split <;> simp
@[simp] theorem State.finishPending_kv : (s.finishPending p res syn).kv = s.kv := by unfold State.finishPending; split <;> simp
@[simp] theorem State.finishPending_ports : (s.finishPending p res syn).ports = s.ports := by unfold State.finishPending; split <;> simp
@[simp] theorem State.finishPending_trackers : (s.finishPending p res syn).trackers = s.trackers := by unfold State.finishPending; split <;> simp
@[simp] theorem State.finishPending_jsls : (s.finishPending p res syn).jsls = s.jsls := by unfold State.finishPending; split <;> simp
@[simp] theorem State.finishPending_loops : (s.finishPending p res syn).loops = s.loops := by unfold State.finishPending; split <;> simp
@[simp] theorem State.finishPending_proc : (s.finishPending p res syn).proc = s.proc := by unfold State.finishPending; split <;> simp
@[simp] theorem State.finishPending_safein : (s.finishPending p res syn).safein = s.safein := by unfold State.finishPending; split <;> simp
@[simp] theorem State.finishPending_boot : (s.finishPending p res syn).boot = s.boot := by unfold State.finishPending; split <;> simp
@[simp] theorem State.finishPending_macs : (s.finishPending p res syn).macs = s.macs := by unfold State.finishPending; split <;> simp
@[simp] theorem State.finishPending_comp : (s.finishPending p res syn).comp = s.comp := by unfold State.finishPending; split <;> simp
end finishPending

/-! ## What a page shows after them -/

section
variable (s : State)

/-- A page changed as a whole keeps every part that the change keeps. -/
theorem State.proj_modPage {α : Type} (π : Page → α) (p q : PageRef) (f : Page → Page) (h : ∀ g, π (f g) = π g) :
    π ((s.modPage p f).page q) = π (s.page q) := by
  by_cases hk : pageKey q = pageKey p
  · have e : ∀ u : State, u.page q = u.page p := fun u => by simp [State.page, hk]
    rw [e, e, State.modPage, State.page_setPage_same, h]
  · rw [State.modPage, State.page_setPage_ne _ _ hk]

@[simp] theorem State.page_modPage_same (p : PageRef) (f : Page → Page) : (s.modPage p f).page p = f (s.page p) := by
  simp [State.modPage]

@[simp] theorem State.page_hostWake (r : Requester) (p : PageRef) : (s.hostWake r).page p = s.page p := by
  cases r <;> simp [State.hostWake, State.wakeBy]
  split <;> rfl

@[simp] theorem State.page_sendMsix (e : Nat) (p : PageRef) : (s.sendMsix e).page p = s.page p := by
  unfold State.sendMsix; dsimp only; split <;> rfl

theorem State.page_raise (p : PageRef) (i : Nat) :
    ∀ q, (s.raise p i).page q = (s.setPage p { s.page p with pend := (s.page p).pend ||| (1#32 <<< i) }).page q := by
  intro q; unfold State.raise; dsimp only; split
  · simp [State.irqMessage]
  · rfl

/-- An event changes nothing of any page but its pending bits. -/
theorem State.proj_raise {α : Type} (π : Page → α) (p q : PageRef) (i : Nat) (h : ∀ g w, π { g with pend := w } = π g) :
    π ((s.raise p i).page q) = π (s.page q) := by
  rw [State.page_raise]
  exact s.proj_modPage π p q (fun g => { g with pend := g.pend ||| (1#32 <<< i) }) fun g => h g _

theorem State.proj_countRefusal {α : Type} (π : Page → α) (p q : PageRef)
    (h : ∀ g w n, π { g with pend := w, refusals := n } = π g) : π ((s.countRefusal p).page q) = π (s.page q) := by
  rw [State.countRefusal, State.proj_raise _ _ _ _ _ fun g w => h g w g.refusals]
  exact s.proj_modPage π p q _ fun g => h g g.pend _

/-- What an answer leaves of every page. -/
theorem State.proj_postAnswer {α : Type} (π : Page → α) (p q : PageRef) (a : Ans) (x : PageState) (code : Nat) (seq : BitVec 16)
    (arg : BitVec 24)
    (h : ∀ g w n r y pe qu, π { g with pend := w, refusals := n, result := r, syndrome := y, pending := pe, quiesces := qu } = π g) :
    π ((s.postAnswer p a x code seq arg).page q) = π (s.page q) := by
  have h1 : ∀ s1 : State, ∀ w, π ((s1.modPage p fun g => { g with result := w }).page q) = π (s1.page q) := fun s1 w =>
    s1.proj_modPage π p q _ fun g => h g g.pend g.refusals w g.syndrome g.pending g.quiesces
  have h2 : ∀ s1 : State, ∀ c d, π ((s1.syndrome p c d).page q) = π (s1.page q) := fun s1 c d =>
    s1.proj_modPage π p q _ fun g => h g g.pend g.refusals g.result _ g.pending g.quiesces
  have h3 : ∀ s1 : State, π ((s1.countRefusal p).page q) = π (s1.page q) := fun s1 =>
    s1.proj_countRefusal π p q fun g w n => h g w n g.result g.syndrome g.pending g.quiesces
  unfold State.postAnswer
  dsimp only
  have h4 : π ((match a.syn with
      | some (c, d) => (s.postResult p a.res x code seq).syndrome p c d
      | none => s.postResult p a.res x code seq).page q) = π (s.page q) := by
    split
    · rw [h2]; exact h1 _ _
    · exact h1 _ _
  split
  · rw [State.proj_modPage (π := π)]
    · exact h4
    · intro g; split
      · exact h g g.pend g.refusals g.result g.syndrome g.pending _
      · exact h g g.pend g.refusals g.result g.syndrome _ g.quiesces
  · split
    · rw [h3]; exact h4
    · exact h4

@[simp] theorem State.pageState_settle (q : PageRef) : s.settle.pageState q = s.pageState q := rfl
@[simp] theorem State.pageState_hostWake (r : Requester) (q : PageRef) : (s.hostWake r).pageState q = s.pageState q := by
  simp [State.pageState]
@[simp] theorem State.pageState_takeCommand (p q : PageRef) : (s.takeCommand p).pageState q = s.pageState q :=
  s.proj_modPage (·.state) p q _ fun _ => rfl
@[simp] theorem State.pageState_raise (p q : PageRef) (i : Nat) : (s.raise p i).pageState q = s.pageState q :=
  s.proj_raise (·.state) p q i fun _ _ => rfl
@[simp] theorem State.pageState_postAnswer (p q : PageRef) (a : Ans) (x : PageState) (code : Nat) (seq : BitVec 16)
    (arg : BitVec 24) : (s.postAnswer p a x code seq arg).pageState q = s.pageState q :=
  s.proj_postAnswer (·.state) p q a x code seq arg fun _ _ _ _ _ _ _ => rfl
@[simp] theorem State.owner_takeCommand (p q : PageRef) : ((s.takeCommand p).page q).owner = (s.page q).owner :=
  s.proj_modPage (·.owner) p q _ fun _ => rfl

@[simp] theorem State.pageState_toState_same (p : PageRef) (x : PageState) : (s.toState p x).pageState p = x := by
  simp [State.toState, State.pageState]

/-- The result field reads the code posted. -/
theorem fld_result (res k code : Nat) (seq : BitVec 16) (hr : res < 16) (hk : k < 16) :
    fld (word (res * 0x10000000 + k * 0x1000000 + (code % 256) * 0x10000 + seq.toNat)) 31 28 = res := by
  have h16 := seq.isLt
  simp only [fld, word, BitVec.toNat_ofNat]
  omega

theorem stateCode_lt (x : PageState) : stateCode x < 16 := by cases x <;> decide

/-- The result a command shows is the one it was answered with. -/
theorem State.resultCode_postAnswer (p : PageRef) (a : Ans) (x : PageState) (code : Nat) (seq : BitVec 16) (arg : BitVec 24)
    (h : a.res < 16) : (s.postAnswer p a x code seq arg).resultCode p = a.res := by
  have h0 : ((s.postResult p a.res x code seq).page p).result =
      word (a.res * 0x10000000 + stateCode x * 0x1000000 + (code % 256) * 0x10000 + seq.toNat) := by
    simp [State.postResult]
  have h1 : ((match a.syn with
      | some (c, d) => (s.postResult p a.res x code seq).syndrome p c d
      | none => s.postResult p a.res x code seq).page p).result =
      word (a.res * 0x10000000 + stateCode x * 0x1000000 + (code % 256) * 0x10000 + seq.toNat) := by
    split
    · simp [State.syndrome, h0]
    · exact h0
  have h2 : ((s.postAnswer p a x code seq arg).page p).result =
      word (a.res * 0x10000000 + stateCode x * 0x1000000 + (code % 256) * 0x10000 + seq.toNat) := by
    rw [← h1]
    unfold State.postAnswer
    dsimp only
    split
    · rw [State.page_modPage_same]; split <;> rfl
    · split
      · exact State.proj_countRefusal _ (·.result) p p fun _ _ _ => rfl
      · rfl
  rw [State.resultCode, h2, fld_result _ _ _ _ h (stateCode_lt x)]

/-- A command of a page's owner that is neither BUSY nor refused for its argument: its body acts on the state that has taken it,
and its answer is posted. -/
theorem State.pageCmd_run {r : Requester} {p : PageRef} (h : s.commands r p = true) (code : Nat) (arg : BitVec 24)
    (body : State → Nat → Ans × State) (hu : isUniversal code = true ∨ zeroArg p code = true → arg = 0) (hc : code ≠ 0x0F) :
    s.pageCmd r p code arg body =
      let u := (s.hostWake r).takeCommand p
      let x := body u (s.page p).owner
      x.2.postAnswer p x.1 (s.pageState p) code (BitVec.ofNat 16 ((s.page p).count + 1)) arg := by
  unfold State.commands at h
  simp only [Bool.and_eq_true, decide_eq_true_eq, Option.isNone_iff_eq_none, List.isEmpty_iff] at h
  obtain ⟨⟨⟨hp, hr⟩, hn⟩, hq⟩ := h
  have hr' : (s.hostWake r).requesterHr r = some (s.page p).owner := by
    rw [← hr]; cases r with
    | host x => cases x <;> simp [State.hostWake, State.requesterHr, State.wakeBy] <;> split <;> rfl
    | core _ => rfl
    | tile _ => rfl
    | dma _ => rfl
  unfold State.pageCmd
  simp only [hr', State.hostWake_chip, hp, State.page_hostWake, hn, hq, mayCommand]
  by_cases ha : arg = 0
  · simp [hc, ha, State.takeCommand]
  · have h1 : isUniversal code = false := by
      rcases hb : isUniversal code with _ | _
      · rfl
      · exact absurd (hu (.inl hb)) ha
    have h2 : zeroArg p code = false := by
      rcases hb : zeroArg p code with _ | _
      · rfl
      · exact absurd (hu (.inr hb)) ha
    simp [hc, h1, h2, State.takeCommand]

/-- A command of a page's owner with an argument it does not take is refused before its body acts. -/
theorem State.pageCmd_argument {r : Requester} {p : PageRef} (h : s.commands r p = true) (code : Nat) (arg : BitVec 24)
    (body : State → Nat → Ans × State) (hu : isUniversal code = true ∨ zeroArg p code = true) (ha : arg ≠ 0) :
    s.pageCmd r p code arg body =
      ((s.hostWake r).takeCommand p).postAnswer p (if isUniversal code = true then ansArg 0xFF 4 else ⟨5, none⟩) (s.pageState p) code
        (BitVec.ofNat 16 ((s.page p).count + 1)) arg := by
  unfold State.commands at h
  simp only [Bool.and_eq_true, decide_eq_true_eq, Option.isNone_iff_eq_none, List.isEmpty_iff] at h
  obtain ⟨⟨⟨hp, hr⟩, hn⟩, hq⟩ := h
  have hr' : (s.hostWake r).requesterHr r = some (s.page p).owner := by
    rw [← hr]; cases r with
    | host x => cases x <;> simp [State.hostWake, State.requesterHr, State.wakeBy] <;> split <;> rfl
    | core _ => rfl
    | tile _ => rfl
    | dma _ => rfl
  unfold State.pageCmd
  simp only [hr', State.hostWake_chip, hp, State.page_hostWake, hn, hq, mayCommand]
  rcases hb : isUniversal code with _ | _
  · have hz : zeroArg p code = true := by simpa [hb] using hu
    have ha' : ¬ arg = 0#24 := ha
    simp only [hz]
    simp [ha', State.takeCommand]
  · have ha' : ¬ arg = 0#24 := ha
    simp [ha', State.takeCommand]

/-- A register write of a page's owner where it is permitted. -/
theorem State.guardWrite_run {r : Requester} {p : PageRef} {off : Nat} (h : s.writes r p off = true)
    (eff : State → Nat → State × Bool) :
    s.guardWrite r p off eff =
      let x := eff (s.hostWake r) (s.page p).owner
      if x.2 then x.1.countWrite p else x.1 := by
  unfold State.writes at h
  simp only [Bool.and_eq_true, decide_eq_true_eq, Bool.or_eq_true, Bool.not_eq_true'] at h
  obtain ⟨⟨⟨hp, hr⟩, hl⟩, hi⟩ := h
  have hr' : (s.hostWake r).requesterHr r = some (s.page p).owner := by
    rw [← hr]; cases r with
    | host x => cases x <;> simp [State.hostWake, State.requesterHr, State.wakeBy] <;> split <;> rfl
    | core _ => rfl
    | tile _ => rfl
    | dma _ => rfl
  have hl' : (s.hostWake r).inState p [.off, .excused, .locked] = false := by simpa [State.inState] using hl
  have hi' : (idleOnly p.ty off && decide ((s.hostWake r).pageState p ≠ .idle)) = false := by
    rcases hi with hi | hi <;> simp [hi]
  unfold State.guardWrite
  simp only [hr', State.hostWake_chip, hp, State.page_hostWake, hl', hi']
  simp

end

end Sys2Proof.Machine
end

