-- ==== Sys2Proof/Laws/Events.lean ====
section
/-!
SUPPORT. What Cue and Score events can change: signals, waits, triggers, releases, late outcomes, the end of an activation,
Part image faults and homeroom faults. Everything of the camera, control, safety, boot and link units stays as it is, and of
the registers only those at a few offsets can change.
-/

namespace Sys2Proof.Machine

/-- Offsets of the registers that Cue and Score events write: of the HOMEROOM page its violation record, of the TILE page its
occupancy, wait and error registers, of the LOCKER page its error registers, of the DMA page HEAD and STATUS, of the CUE page its
counters and notify bits. -/
def eventReg : PageType → Nat → Bool
  | .homeroom, o => [0x098, 0x0A0, 0x0A4, 0x0A8, 0x0AC].contains o
  | .cue, o => decide (o = 0x048) || decide (o = 0x04C) || (decide (0x300 ≤ o) && decide (o < 0x320))
  | .tile, o => [0x048, 0x04C, 0x050, 0x080, 0x084, 0x0C4, 0x0C8].contains o
  | .dma, o => [0x048, 0x04C, 0x050].contains o
  | .locker, o => decide (0x050 ≤ o) && decide (o < 0x070)
  | .pcie, o => [0x048, 0x04C].contains o
  | _, _ => false

/-- A state that differs from another only in what Cue and Score events can change. -/
def EventFrame (s t : State) : Prop :=
  t = { s with pages := t.pages, regs := t.regs, mem := t.mem, sram := t.sram, hrs := t.hrs, cues := t.cues, dma := t.dma,
               tiles := t.tiles, notes := t.notes, dpp := t.dpp, codec := t.codec, kv := t.kv, msix := t.msix, out := t.out } ∧
  ∀ p off, off < 0x10000 → eventReg p.ty off = false → t.reg p off = s.reg p off

theorem EventFrame.refl (s : State) : EventFrame s s := ⟨rfl, fun _ _ _ _ => rfl⟩

theorem EventFrame.trans {s t u : State} (h : EventFrame s t) (k : EventFrame t u) : EventFrame s u := by
  refine ⟨?_, fun p off h1 h2 => (k.2 p off h1 h2).trans (h.2 p off h1 h2)⟩
  have hk := k.1
  have hh := h.1
  rw [hh] at hk
  exact hk

section
variable {s t : State} (h : EventFrame s t)
include h
theorem EventFrame.chip_eq : t.chip = s.chip := by rw [h.1]
theorem EventFrame.mtn_eq : t.mtn = s.mtn := by rw [h.1]
theorem EventFrame.tempo_eq : t.tempo = s.tempo := by rw [h.1]
theorem EventFrame.excused_eq : t.excused = s.excused := by rw [h.1]
theorem EventFrame.lvl_eq : t.lvl = s.lvl := by rw [h.1]
theorem EventFrame.cams_eq : t.cams = s.cams := by rw [h.1]
theorem EventFrame.banks_eq : t.banks = s.banks := by rw [h.1]
theorem EventFrame.ports_eq : t.ports = s.ports := by rw [h.1]
theorem EventFrame.calibs_eq : t.calibs = s.calibs := by rw [h.1]
theorem EventFrame.trackers_eq : t.trackers = s.trackers := by rw [h.1]
theorem EventFrame.jsls_eq : t.jsls = s.jsls := by rw [h.1]
theorem EventFrame.loops_eq : t.loops = s.loops := by rw [h.1]
theorem EventFrame.proc_eq : t.proc = s.proc := by rw [h.1]
theorem EventFrame.hm_eq : t.hm = s.hm := by rw [h.1]
theorem EventFrame.safein_eq : t.safein = s.safein := by rw [h.1]
theorem EventFrame.boot_eq : t.boot = s.boot := by rw [h.1]
theorem EventFrame.dyn_eq : t.dyn = s.dyn := by rw [h.1]
theorem EventFrame.macs_eq : t.macs = s.macs := by rw [h.1]
theorem EventFrame.comp_eq : t.comp = s.comp := by rw [h.1]
theorem EventFrame.freeCtr_eq : t.freeCtr = s.freeCtr := by rw [h.1]
end

/-- Two states with the same registers, and the same in everything an event leaves alone. -/
theorem EventFrame.of_regs {s t : State}
    (h : t = { s with
      pages := t.pages, mem := t.mem, sram := t.sram, hrs := t.hrs, cues := t.cues, dma := t.dma, tiles := t.tiles,
      notes := t.notes, dpp := t.dpp, codec := t.codec, kv := t.kv, msix := t.msix, out := t.out }) :
    EventFrame s t := by
  refine ⟨?_, fun p off _ _ => ?_⟩
  · rw [h]
  · rw [h]; rfl

/-- A write of one of the event registers. -/
theorem EventFrame.setReg (s : State) (p : PageRef) {o : Nat} (v : Word) (h : eventReg p.ty o = true) (ho : o < 0x10000) :
    EventFrame s (s.setReg p o v) := by
  refine ⟨rfl, fun q off h1 h2 => State.reg_setReg_ne s v fun h3 => ?_⟩
  obtain ⟨rfl, rfl⟩ := regKey_inj h1 ho h3
  simp [h] at h2

/-- Folds keep the frame. -/
theorem EventFrame.foldl {α : Type} (f : State → α → State) (h : ∀ s a, EventFrame s (f s a)) :
    ∀ (l : List α) (s : State), EventFrame s (l.foldl f s)
  | [], s => EventFrame.refl s
  | a :: l, s => (h s a).trans (EventFrame.foldl f h l (f s a))

theorem EventFrame.ite {s t u : State} {c : Prop} [Decidable c] (h : EventFrame s t) (k : EventFrame s u) :
    EventFrame s (if c then t else u) := by split <;> assumption

section
variable (s : State)

theorem frame_setRegN (p : PageRef) {o : Nat} (n : Nat) (h : eventReg p.ty o = true) (ho : o < 0x10000 := by decide) : EventFrame s (s.setRegN p o n) := .setReg s p _ h ho
theorem frame_setRegF (p : PageRef) {o : Nat} (hi lo n : Nat) (h : eventReg p.ty o = true) (ho : o < 0x10000 := by decide) : EventFrame s (s.setRegF p o hi lo n) :=
  .setReg s p _ h ho
theorem frame_bumpF (p : PageRef) {o : Nat} (hi lo n : Nat) (h : eventReg p.ty o = true) (ho : o < 0x10000 := by decide) : EventFrame s (s.bumpF p o hi lo n) :=
  .setReg s p _ h ho
theorem frame_setReg64 (p : PageRef) {o : Nat} (n : Nat) (h : eventReg p.ty o = true) (h' : eventReg p.ty (o + 4) = true)
    (ho : o < 0x10000 := by decide) (ho' : o + 4 < 0x10000 := by decide) :
    EventFrame s (s.setReg64 p o n) := (frame_setRegN s p _ h ho).trans (frame_setRegN _ p _ h' ho')
theorem frame_modPage (p : PageRef) (f : Page → Page) : EventFrame s (s.modPage p f) := .of_regs (by rfl)
theorem frame_toState (p : PageRef) (x : PageState) : EventFrame s (s.toState p x) := .of_regs (by rfl)
theorem frame_syndrome (p : PageRef) (a b : Nat) : EventFrame s (s.syndrome p a b) := .of_regs (by rfl)
theorem frame_modHr (h : Nat) (f : Hr → Hr) : EventFrame s (s.modHr h f) := .of_regs (by rfl)
theorem frame_modTile (t : Nat) (f : Tile → Tile) : EventFrame s (s.modTile t f) := .of_regs (by rfl)
theorem frame_setTile (t : Nat) (v : Tile) : EventFrame s (s.setTile t v) := .of_regs (by rfl)
theorem frame_setChan (c : Nat) (v : DmaChan) : EventFrame s (s.setChan c v) := .of_regs (by rfl)
theorem frame_note (a b c d e : Nat) : EventFrame s (s.note a b c d e) := .of_regs (by rfl)
theorem frame_writeBytes (a : Nat) (bs : List Byte) (b : Bool) : EventFrame s (s.writeBytes a bs b) := .of_regs (by rfl)

theorem frame_sendMsix (e : Nat) : EventFrame s (s.sendMsix e) := by
  unfold State.sendMsix; dsimp only; split <;> exact .of_regs (by rfl)

theorem frame_raise (p : PageRef) (i : Nat) : EventFrame s (s.raise p i) := by
  unfold State.raise; dsimp only; split
  · exact EventFrame.trans (.of_regs (by rfl)) (frame_sendMsix _ _)
  · exact .of_regs (by rfl)

theorem frame_countRefusal (p : PageRef) : EventFrame s (s.countRefusal p) := (frame_modPage s p _).trans (frame_raise _ _ _)

theorem frame_postFinal (p : PageRef) (r : Nat) (y : Option (Nat × Nat)) (c : PendCmd) : EventFrame s (s.postFinal p r y c) := by
  have h : EventFrame s (s.postResult p r c.stateAt c.code c.seq) := .of_regs (by rfl)
  unfold State.postFinal; dsimp only
  have h2 : EventFrame s (match y with
      | some (a, b) => (s.postResult p r c.stateAt c.code c.seq).syndrome p a b
      | none => s.postResult p r c.stateAt c.code c.seq) := by
    split
    · exact h.trans (frame_syndrome _ _ _ _)
    · exact h
  split
  · exact h2.trans (frame_countRefusal _ _)
  · exact h2

theorem frame_finishPending (p : PageRef) (r : Nat) (y : Option (Nat × Nat)) : EventFrame s (s.finishPending p r y) := by
  unfold State.finishPending; split
  · exact .refl s
  · exact (frame_modPage s p _).trans (frame_postFinal _ _ _ _ _)

theorem frame_finishQuiesce (p : PageRef) (r : Nat) (y : Option (Nat × Nat)) : EventFrame s (s.finishQuiesce p r y) :=
  (frame_modPage s p _).trans (EventFrame.foldl _ (fun s c => frame_postFinal s p r y c) _ _)

theorem frame_finishAll (p : PageRef) (r : Nat) (y : Option (Nat × Nat)) : EventFrame s (s.finishAll p r y) :=
  (frame_finishPending s p r y).trans (frame_finishQuiesce _ p r y)

theorem frame_setCueCount (h cue n : Nat) : EventFrame s (s.setCueCount h cue n) := by
  unfold State.setCueCount; split <;> exact .of_regs (by rfl)

theorem frame_setPart (h i : Nat) (p : Part) : EventFrame s (s.setPart h i p) := by
  unfold State.setPart; dsimp only; split <;> exact frame_modHr _ _ _

theorem frame_setAct (h i : Nat) (a : Option Activation) : EventFrame s (s.setAct h i a) := by
  unfold State.setAct; split
  · exact frame_setPart _ _ _ _
  · exact .refl s

theorem frame_modAct (h i : Nat) (f : Activation → Activation) : EventFrame s (s.modAct h i f) := by
  unfold State.modAct; split
  · exact frame_setPart _ _ _ _
  · exact .refl s

theorem frame_violation (h a b c d e f : Nat) : EventFrame s (s.violation h a b c d e f) := by
  unfold State.violation
  exact ((((((frame_setRegN s _ _ (by rfl)).trans (frame_setRegN _ _ _ (by rfl))).trans (frame_setRegN _ _ _ (by rfl))).trans
    (frame_setRegN _ _ _ (by rfl))).trans (frame_bumpF _ _ _ _ _ (by rfl))).trans (frame_raise _ _ _)).trans (frame_modHr _ _ _)

theorem frame_unmapped (k : Nat) (w : Bool) : EventFrame s (s.unmapped k w) :=
  ((frame_bumpF s _ _ _ _ (by rfl)).trans (frame_setRegN _ _ _ (by rfl))).trans (frame_raise _ _ _)

theorem frame_setErr (a e : Nat) : EventFrame s (s.setErr a e) := .of_regs (by rfl)
theorem frame_countUe (u : Nat) : EventFrame s (s.countUe u) := .of_regs (by rfl)

theorem frame_tileUe (t off cls : Nat) : EventFrame s (s.tileUe t off cls) :=
  ((((frame_setRegN s _ _ (by rfl)).trans (frame_bumpF _ _ _ _ _ (by rfl))).trans (frame_raise _ _ _)).trans (frame_note _ _ _ _ _ _)).trans
    (frame_countUe _ _)

theorem eventReg_locker (k : Nat) {o : Nat} (h : 0x050 ≤ o ∧ o < 0x070) : eventReg (lockerP k).ty o = true := by
  simp only [lockerP, eventReg, Bool.and_eq_true, decide_eq_true_eq]; exact h

theorem frame_memRecord (a src kind : Nat) : EventFrame s (s.memRecord a src kind) := by
  unfold State.memRecord
  cases hb : memUnit s.chip.grade a with
  | none => exact frame_note _ _ _ _ _ _
  | some b =>
    refine EventFrame.trans (EventFrame.trans (frame_note s 6 src 0 0xFFFF (kind * 0x100000000 + a)) ?_)
      (EventFrame.ite (.refl _) (frame_countUe _ _))
    refine EventFrame.ite (.refl _) (EventFrame.ite ?_ ?_)
    · exact (EventFrame.setReg _ _ _ (eventReg_locker _ (by omega)) (by omega)).trans (frame_raise _ _ _)
    · exact (((EventFrame.setReg _ _ _ (eventReg_locker _ (by omega)) (by omega)).trans
        (frame_setReg64 _ _ _ (eventReg_locker _ (by omega)) (eventReg_locker _ (by omega)))).trans
        (frame_setRegN _ _ _ (eventReg_locker _ (by omega)))).trans (frame_raise _ _ _)

theorem frame_meetError (src cls : Nat) (e : Nat × Nat) : EventFrame s (s.meetError src cls e) := by
  unfold State.meetError
  split
  · exact EventFrame.ite ((frame_setErr _ _ _).trans (frame_bumpF _ _ _ _ _ (by rfl))) (frame_tileUe _ _ _ _)
  · exact .refl s
  · exact EventFrame.ite ((frame_setErr _ _ _).trans (frame_memRecord _ _ _ _)) (frame_memRecord _ _ _ _)

theorem frame_meetErrors (a n src cls : Nat) : EventFrame s (s.meetErrors a n src cls) :=
  (EventFrame.foldl _ (fun s e => frame_meetError s src cls e) _ _).trans (EventFrame.foldl _ (fun s e => frame_meetError s src cls e) _ _)

theorem frame_meetGrant (h o n : Nat) : EventFrame s (s.meetGrant h o n) :=
  EventFrame.foldl _ (fun s e => by
    cases s.grantOpen h e.1 with
    | none => exact .refl s
    | some a => exact frame_meetErrors _ _ _ _ _) _ _

theorem frame_storeBytes (a : Nat) (bs : List Byte) (b : Bool) (src cls : Nat) : EventFrame s (s.storeBytes a bs b src cls) :=
  ((EventFrame.ite (.refl s) (frame_meetErrors _ _ _ _ _)).trans (EventFrame.ite (.refl _) (frame_meetErrors _ _ _ _ _))).trans
    (frame_writeBytes _ _ _ _)

theorem frame_putGrant (h o : Nat) (bs : List Byte) (b : Bool) : EventFrame s (s.putGrant h o bs b) :=
  EventFrame.foldl _ (fun s e => by
    cases s.grantOpen h e.1 with
    | none => exact .refl s
    | some a => exact EventFrame.ite (frame_violation _ _ _ _ _ _ _ _) (frame_storeBytes _ _ _ _ _ _)) _ _

theorem frame_stopAct (h i : Nat) : EventFrame s (s.stopAct h i) := EventFrame.ite (frame_setAct _ _ _ _) (frame_modAct _ _ _ _)

theorem frame_stopAllActs (h : Nat) : EventFrame s (s.stopAllActs h) := EventFrame.foldl _ (fun s (e : Nat × Nat) => frame_stopAct s e.1 e.2) _ _

theorem frame_dropWaiters (t : Nat) : EventFrame s (s.dropWaiters t) := .of_regs (by rfl)

theorem frame_dmaEndRegs (c x : Nat) : EventFrame s (s.dmaEndRegs c x) := by
  unfold State.dmaEndRegs; split
  · exact .refl s
  · exact ((frame_setRegN _ _ _ (by rfl)).trans (frame_setRegN _ _ _ (by rfl))).trans (frame_setChan _ _ _)

theorem frame_dmaStop (c : Nat) : EventFrame s (s.dmaStop c) :=
  EventFrame.ite ((((frame_dmaEndRegs s c 1).trans (frame_toState _ _ _)).trans (frame_finishAll _ _ _ _)).trans (frame_setChan _ _ _)) (.refl s)

theorem frame_qDrop (p : PageRef) (h : Nat) : EventFrame s (s.qDrop p h) := EventFrame.ite (frame_setCueCount _ _ _ _) (.refl s)

theorem frame_haltSeq (q : Nat) : EventFrame s (s.haltSeq q) := by
  unfold State.haltSeq
  dsimp only
  repeat' split
  all_goals first
    | exact .refl s
    | exact frame_putGrant _ _ _ _ _
    | exact (frame_putGrant _ _ _ _ _).trans (.of_regs (by rfl))

theorem frame_setKv (k : Kv) : EventFrame s { s with kv := k } := .of_regs (by rfl)

theorem frame_haltSeqs : EventFrame s s.haltSeqs := EventFrame.foldl _ (fun s q => frame_haltSeq s q) _ _

theorem frame_kvHalt : EventFrame s s.kvHalt := by
  unfold State.kvHalt
  refine EventFrame.ite (.refl s) ?_
  have h := (EventFrame.ite (c := bit (s.reg kvP 0x060) 31 = true) (frame_setCueCount s s.kvClient (s.regF kvP 0x060 15 0) 0) (.refl s)).trans
    (frame_haltSeqs _)
  exact h.trans ((frame_setKv _ _).trans ((frame_toState _ _ _).trans (frame_finishAll _ _ _ _)))

theorem frame_dropJobs (h : Nat) : EventFrame s (s.dropJobs h) := by
  unfold State.dropJobs
  dsimp only
  have h3 := ((frame_qDrop s dppP h).trans (frame_qDrop _ codecP h))
  split
  · exact (h3.trans (.of_regs (by rfl))).trans (frame_kvHalt _)
  · exact h3.trans (.of_regs (by rfl))

theorem frame_homeroomFault (h c d : Nat) : EventFrame s (s.homeroomFault h c d) :=
  EventFrame.ite (.refl s) <|
    ((((((frame_toState s _ _).trans (frame_finishAll _ _ _ _)).trans (frame_syndrome _ _ _ _)).trans (frame_raise _ _ _)).trans
      ((frame_modHr _ _ _).trans (frame_stopAllActs _ _))).trans
      (EventFrame.foldl _ (fun s c => EventFrame.ite (frame_dmaStop s c) (.refl s)) _ _)).trans
      ((frame_dropJobs _ _).trans (frame_note _ _ _ _ _ _))

theorem frame_violationFault (h : Nat) : EventFrame s (s.violationFault h) := EventFrame.ite (frame_homeroomFault _ _ _ _) (.refl s)

theorem frame_violateBy (h a b c d e f : Nat) : EventFrame s (s.violateBy h a b c d e f) :=
  (frame_violation s h a b c d e f).trans (frame_violationFault _ _)

theorem frame_writeGrant (h o : Nat) (bs : List Byte) (b : Bool) : EventFrame s (s.writeGrant h o bs b) :=
  EventFrame.ite (frame_putGrant s h o bs b) ((frame_putGrant s h o bs b).trans (frame_violationFault _ _))

theorem frame_lateRecord (h i o c : Nat) : EventFrame s (s.lateRecord h i o c) := by
  unfold State.lateRecord; split
  · exact (((frame_meetGrant _ _ _ _).trans (frame_writeGrant _ _ _ _ _)).trans (frame_writeGrant _ _ _ _ _)).trans (frame_sendMsix _ _)
  · exact .refl s

theorem frame_lateNote (h i : Nat) (p : Part) : EventFrame s (s.lateNote h i p) := .of_regs (by rfl)

/-- What follows on a Part that is still there keeps the frame. -/
theorem EventFrame.part {s t : State} (h : EventFrame s t) {k i : Nat} {f : Part → State} (hf : ∀ q, EventFrame t (f q)) :
    EventFrame s (match t.part? k i with
      | some q => f q
      | none => t) := by
  cases t.part? k i with
  | none => exact h
  | some q => exact h.trans (hf q)

theorem frame_takeLate (h i c : Nat) : EventFrame s (s.takeLate h i c) := by
  unfold State.takeLate
  cases hp : s.part? h i with
  | none => exact .refl s
  | some p =>
    have h2 : EventFrame s (if (p.safety || p.late = 2 || p.late = 3) = true then (s.lateRecord h i p.late c).lateNote h i p
        else s.lateRecord h i p.late c) :=
      EventFrame.ite ((frame_lateRecord _ _ _ _ _).trans (frame_lateNote _ _ _ _)) (frame_lateRecord _ _ _ _ _)
    dsimp only
    generalize (if (p.safety || p.late = 2 || p.late = 3) = true then (s.lateRecord h i p.late c).lateNote h i p
      else s.lateRecord h i p.late c) = s2 at h2 ⊢
    split
    · exact EventFrame.ite h2 (h2.part fun q => frame_setPart _ _ _ _)
    · exact (h2.trans (frame_stopAct _ _ _)).part fun q => frame_setPart _ _ _ _
    · exact h2.trans (frame_stopAct _ _ _)

theorem frame_releasePart (h i a : Nat) : EventFrame s (s.releasePart h i a) := by
  unfold State.releasePart
  cases s.part? h i with
  | none => exact .refl s
  | some p =>
    exact EventFrame.ite (.refl s) <| EventFrame.ite ((frame_setPart _ _ _ _).trans (frame_setPart _ _ _ _)) <|
      EventFrame.ite ((frame_setPart _ _ _ _).trans (frame_takeLate _ _ _ _)) <|
        (((frame_setPart _ _ _ _).trans (EventFrame.foldl _ (fun s t => frame_modTile s t _) _ _)).trans (frame_modHr _ _ _)).trans
          (frame_setAct _ _ _ _)

theorem frame_tryTrigger (h i : Nat) (b : Bool) : EventFrame s (s.tryTrigger h i b) := by
  unfold State.tryTrigger
  cases s.part? h i with
  | none => exact .refl s
  | some p =>
    exact EventFrame.ite (.refl s) (EventFrame.ite (frame_setPart _ _ _ _)
      (((frame_setCueCount _ _ _ _).trans (frame_releasePart _ _ _ _)).part fun q => EventFrame.ite (frame_setPart _ _ _ _) (.refl _)))

theorem frame_tryTriggers (h cue : Nat) : EventFrame s (s.tryTriggers h cue) :=
  EventFrame.foldl _ (fun s e => by
    split
    · exact EventFrame.ite (frame_tryTrigger _ _ _ _) (.refl s)
    · exact .refl s) _ _

theorem frame_vacateTile (t : Nat) : EventFrame s (s.vacateTile t) := by
  have h : ∀ (u : Tile) (b : Nat), EventFrame s (((s.setTile t u).setRegF (tileP t) 0x048 31 31 0).setReg64 (tileP t) 0x04C b) :=
    fun u b => ((frame_setTile s t u).trans (frame_setRegF _ (tileP t) _ _ _ (by rfl))).trans (frame_setReg64 _ (tileP t) _ (by rfl) (by rfl))
  unfold State.vacateTile
  dsimp only
  split
  · exact EventFrame.ite ((h _ _).trans (frame_setAct _ _ _ _)) (h _ _)
  · exact h _ _

theorem frame_holdTile (t : Nat) : EventFrame s (s.holdTile t) :=
  EventFrame.ite ((frame_toState _ _ _).trans (frame_finishAll _ _ _ _)) (.refl s)

theorem frame_settleTile (t : Nat) : EventFrame s (s.settleTile t) :=
  EventFrame.ite (frame_toState _ _ _) (EventFrame.ite (frame_toState _ _ _) (.refl s))

theorem frame_leaveTile (t : Nat) : EventFrame s (s.leaveTile t) :=
  (EventFrame.ite ((frame_vacateTile s t).trans (frame_holdTile _ _)) (frame_vacateTile s t)).trans (frame_settleTile _ _)

theorem frame_partFault (t c : Nat) : EventFrame s (s.partFault t c) := by
  unfold State.partFault; split
  · exact .refl s
  · dsimp only
    have h1 : EventFrame s (if s.inState (tileP t) [.running, .hold] = true then
        ((s.toState (tileP t) .fault).raise (tileP t) 3).finishAll (tileP t) 3 none else s) := by
      split
      · exact ((frame_toState _ _ _).trans (frame_raise _ _ _)).trans (frame_finishAll _ _ _ _)
      · exact .refl s
    exact (((((h1.trans (frame_syndrome _ _ _ _)).trans (frame_setRegN _ _ _ (by rfl))).trans (frame_dropWaiters _ _)).trans
      (frame_modAct _ _ _ _)).trans (frame_leaveTile _ _)).trans (frame_homeroomFault _ _ _ _)

theorem frame_nextInstr (t : Nat) : EventFrame s (s.nextInstr t) := by
  unfold State.nextInstr; split
  · exact frame_modTile _ _ _
  · exact .refl s

theorem frame_waitOver (t : Nat) (f : Tile → Tile) : EventFrame s ((s.modTile t f).nextInstr t) :=
  (frame_modTile s t f).trans (frame_nextInstr _ t)

theorem frame_tileWaitEnd (t cue slot : Nat) (st : WaitStatus) : EventFrame s (s.tileWaitEnd t cue slot st) := by
  have h0 : EventFrame s (if st = .ok then s else s.setRegN (tileP t) 0x080 (statusCode st * 0x20000000 + cue)) :=
    EventFrame.ite (.refl s) (frame_setRegN _ _ _ (by rfl))
  unfold State.tileWaitEnd
  generalize (if st = .ok then s else s.setRegN (tileP t) 0x080 (statusCode st * 0x20000000 + cue)) = s0 at h0
  cases (s.tile t).wait with
  | cue stBit sreg any =>
    refine h0.trans ?_
    cases st with
    | ok => exact EventFrame.ite (frame_waitOver _ _ _) (EventFrame.ite (frame_waitOver _ _ _) (frame_waitOver _ _ _))
    | cancelled => exact frame_leaveTile _ _
    | denied => exact frame_partFault _ _ _
    | timeout => exact EventFrame.ite ((frame_waitOver _ _ _).trans (frame_raise _ _ _)) (frame_partFault _ _ _)
    | full => exact EventFrame.ite ((frame_waitOver _ _ _).trans (frame_raise _ _ _)) (frame_partFault _ _ _)
  | none => exact .refl s
  | tag _ _ _ => exact .refl s
  | sectionNet => exact .refl s
  | barrier _ => exact .refl s
  | phase _ => exact .refl s

theorem frame_endWaiter (w : Waiter) (st : WaitStatus) : EventFrame s (s.endWaiter w st) := by
  unfold State.endWaiter; dsimp only
  have h1 : EventFrame s (s.removeWaiter w) := .of_regs (by rfl)
  split
  · exact h1.trans (frame_tileWaitEnd _ _ _ _ _)
  · exact h1.trans (.of_regs (by rfl))

theorem frame_serve (h cue : Nat) : ∀ (k : Nat) (s : State), EventFrame s (s.serve h cue k)
  | 0, s => .refl s
  | k + 1, s => by
    unfold State.serve; split
    · exact .refl s
    · split
      · exact ((frame_setCueCount _ _ _ _).trans (frame_endWaiter _ _ _)).trans (frame_serve h cue k _)
      · exact .refl s

theorem eventReg_notify (p : PageRef) (hp : p.ty = .cue) (i : Nat) (h : i < 256) : eventReg p.ty (0x300 + 4 * (i / 32)) = true := by
  rw [hp]
  simp only [eventReg, Bool.or_eq_true, Bool.and_eq_true, decide_eq_true_eq]
  omega

theorem frame_notify (cue : Nat) : EventFrame s (s.notify cue) :=
  (EventFrame.setReg s _ _ (eventReg_notify _ rfl _ (by omega)) (by omega)).trans (frame_raise _ _ _)

theorem frame_cueEvent (cue k : Nat) : EventFrame s (s.cueEvent cue k) := frame_setRegN _ _ _ (by rfl)

theorem frame_barrierRelease (cue : Nat) : EventFrame s (s.barrierRelease cue) := by
  unfold State.barrierRelease; dsimp only
  have h1 : EventFrame s ((s.cueList 0 cue).foldl (fun s w => s.endWaiter w .ok) (s.setCueCount 0 cue 0)) :=
    (frame_setCueCount _ _ _ _).trans (EventFrame.foldl _ (fun s w => frame_endWaiter s w .ok) _ _)
  split
  · exact h1.trans (frame_notify _ _)
  · exact h1

theorem frame_arrive (cue v : Nat) : EventFrame s (s.arrive cue v) := by
  unfold State.arrive; dsimp only; split
  · exact frame_setCueCount _ _ _ _
  · split
    · exact (frame_barrierRelease _ _).trans (frame_setCueCount _ _ _ _)
    · exact frame_setCueCount _ _ _ _

theorem frame_afterCount (cue b : Nat) : EventFrame s (s.afterCount cue b) := by
  unfold State.afterCount; dsimp only
  refine EventFrame.trans ?_ (EventFrame.foldl _ (fun s h => frame_tryTriggers s h cue) _ _)
  have h1 : EventFrame s (s.serveAll (s.page (cueP (cue / 256))).owner cue) := frame_serve _ _ _ _
  split
  · exact h1.trans (frame_notify _ _)
  · exact h1

theorem frame_signalCue (cue v : Nat) : EventFrame s (s.signalCue cue v) := by
  unfold State.signalCue; split
  · exact .refl s
  · split
    · exact frame_arrive _ _ _
    · dsimp only
      refine EventFrame.trans ?_ (frame_afterCount _ _ _)
      split
      · exact frame_setCueCount _ _ _ _
      · exact (((frame_setCueCount _ _ _ _).trans (frame_bumpF _ _ _ _ _ (by rfl))).trans (frame_cueEvent _ _ _)).trans (frame_raise _ _ _)

/-- A hardware event changes only what Cue and Score events change. -/
theorem frame_hwSignal (cue x : Nat) : EventFrame s (s.hwSignal cue x) :=
  EventFrame.ite (.refl s) <| EventFrame.trans (.of_regs (by rfl)) <| EventFrame.foldl _ (fun s h =>
    EventFrame.ite (((EventFrame.ite (frame_raise _ _ _) (frame_setCueCount _ _ _ _)).trans (frame_serve _ _ _ _)).trans
      (frame_tryTriggers _ _ _)) (.refl s)) _ _

theorem frame_signalFor (h cue : Nat) : EventFrame s (s.signalFor h cue) := by
  unfold State.signalFor; split
  · exact .refl s
  · split
    · exact frame_signalCue _ _ _
    · exact frame_violateBy _ _ _ _ _ _ _ _

theorem frame_cancelWaiters (f : Waiter → Bool) : EventFrame s (s.cancelWaiters f) := by
  unfold State.cancelWaiters
  exact EventFrame.foldl (fun (s : State) (w : Waiter) => (s.cueEvent w.cue 3).endWaiter w .cancelled)
    (fun s w => (frame_cueEvent s w.cue 3).trans (frame_endWaiter (s.cueEvent w.cue 3) w .cancelled)) (s.cues.waiters.filter f) s

end

end Sys2Proof.Machine
end

