-- ==== Sys2Proof/Laws/Memory.lean ====
section
/-!
SUPPORT. SRAM: what a byte reads after a write, and that every operation over memory keeps its canonical form.
-/

namespace Sys2Proof.Machine

/-! ## Ranges of unspecified contents -/

theorem staleKey_cons (e : Nat × Nat × Nat) (l : List (Nat × Nat × Nat)) (b : Nat) :
    staleKey (e :: l) b = if e.1 ≤ b ∧ b < e.2.1 then e.2.2 else staleKey l b := by
  by_cases h : e.1 ≤ b ∧ b < e.2.1
  · simp [staleKey, h]
  · have hb : (decide (e.1 ≤ b) && decide (b < e.2.1)) = false := by simpa using h
    simp [staleKey, hb, h]

/-- The ranges without a run of bytes: none of the run is in them, and every other address is as before. -/
theorem staleKey_cutStale (l : List (Nat × Nat × Nat)) (a n b : Nat) :
    staleKey (cutStale l a n) b = if a ≤ b ∧ b < a + n then 0 else staleKey l b := by
  induction l with
  | nil => simp [cutStale, staleKey]
  | cons e l ih =>
    obtain ⟨lo, past, k⟩ := e
    have hcut : cutStale ((lo, past, k) :: l) a n =
        ([(lo, min past a, k), (max lo (a + n), past, k)].filter fun e => decide (e.1 < e.2.1)) ++ cutStale l a n := by
      rw [cutStale, List.flatMap_cons, List.filter_append]; rfl
    rw [hcut, staleKey_cons]
    by_cases h1 : lo < min past a <;> by_cases h2 : max lo (a + n) < past <;>
      simp only [List.filter_cons, List.filter_nil, h1, h2, decide_true, decide_false, if_true, if_false, List.cons_append,
        List.nil_append, staleKey_cons, ih, Bool.false_eq_true] <;>
      repeat' split
    all_goals first | rfl | omega

/-! ## Bytes after a write -/

/-- A byte after a run of bytes is written: the new one inside the run, the old one outside it. -/
theorem readByte_writeBytes (s : State) (a : Nat) (bs : List Byte) (p : Bool) (b : Nat) :
    (s.writeBytes a bs p).readByte b = if a ≤ b ∧ b < a + bs.length then bs.getD (b - a) memReset else s.readByte b := by
  simp only [State.readByte, State.writeBytes, staleKey_cutStale, tabGet_tabSetList]
  split <;> simp

theorem readByte_writeBytes_outside {s : State} {a : Nat} {bs : List Byte} {p : Bool} {b : Nat} (h : b < a ∨ a + bs.length ≤ b) :
    (s.writeBytes a bs p).readByte b = s.readByte b := by
  rw [readByte_writeBytes, if_neg (by omega)]

/-! ## The canonical form -/

theorem reset_memory_wf : Memory.wf State.reset.mem := rfl

theorem writeBytes_wf {s : State} (a : Nat) (bs : List Byte) (p : Bool) (h : Memory.wf s.mem) : Memory.wf (s.writeBytes a bs p).mem :=
  tabWf_tabSetList memReset bs s.mem a h

theorem writeWord_wf {s : State} (a : Nat) (v : Word) (h : Memory.wf s.mem) : Memory.wf (s.writeWord a v).mem :=
  writeBytes_wf a _ false h

theorem clearMemoryOf_wf {s : State} (k : Nat) (h : Memory.wf s.mem) : Memory.wf (s.clearMemoryOf k).mem := tabWf_filter _ _ _ h

theorem clearSram_wf {s : State} (a n : Nat) (h : Memory.wf s.mem) : Memory.wf (s.clearSram a n).mem := tabWf_filter _ _ _ h

theorem clearScratchpad_wf {s : State} (t : Nat) (h : Memory.wf s.mem) : Memory.wf (s.clearScratchpad t).mem := tabWf_filter _ _ _ h

/-! ## Runs of cells -/

section
variable {α : Type} [DecidableEq α]

/-- Two canonical tables, the second from a key above all of the first. -/
theorem tabWfFrom_append (d : Nat → α) (xs ys : List (Nat × α)) {lo mid : Nat} (hx : tabWfFrom d lo xs = true)
    (hm : ∀ e ∈ xs, e.1 < mid) (hl : lo ≤ mid) (hy : tabWfFrom d mid ys = true) : tabWfFrom d lo (xs ++ ys) = true := by
  induction xs generalizing lo with
  | nil => exact tabWfFrom_mono d _ hl hy
  | cons e xs ih =>
    obtain ⟨k, v⟩ := e
    simp only [tabWfFrom, Bool.and_eq_true, decide_eq_true_eq, List.cons_append] at hx ⊢
    exact ⟨hx.1, ih hx.2 (fun e he => hm e (List.mem_cons_of_mem _ he)) (hm (k, v) (List.mem_cons_self ..))⟩

/-- The entries of a canonical table from a key on. -/
theorem tabWfFrom_filter_from (d : Nat → α) (m : List (Nat × α)) {lo : Nat} (mid : Nat) (h : tabWfFrom d lo m = true) :
    tabWfFrom d mid (m.filter fun e => decide (mid ≤ e.1)) = true := by
  induction m generalizing lo with
  | nil => rfl
  | cons e m ih =>
    obtain ⟨k, v⟩ := e
    simp only [tabWfFrom, Bool.and_eq_true, decide_eq_true_eq] at h
    rw [List.filter_cons]
    split
    · rename_i hk
      simp only [decide_eq_true_eq] at hk
      simp only [tabWfFrom, Bool.and_eq_true, decide_eq_true_eq]
      exact ⟨⟨hk, h.1.2⟩, tabWfFrom_filter d _ _ _ h.2⟩
    · exact ih h.2

end

/-- The cells of a run are canonical and lie in it. -/
theorem runCells_wf (d : Byte) (bs : List Byte) (a : Nat) :
    tabWfFrom (fun _ => d) a (runCells d a bs) = true ∧ ∀ e ∈ runCells d a bs, e.1 < a + bs.length := by
  induction bs generalizing a with
  | nil => exact ⟨rfl, fun _ h => nomatch h⟩
  | cons b bs ih =>
    obtain ⟨h1, h2⟩ := ih (a + 1)
    simp only [runCells, List.length_cons]
    split
    · exact ⟨tabWfFrom_mono _ _ (by omega) h1, fun e he => by have := h2 e he; omega⟩
    · rename_i hb
      refine ⟨by simp [tabWfFrom, hb, h1], fun e he => ?_⟩
      rcases List.mem_cons.1 he with rfl | he
      · simp only; omega
      · have := h2 e he; omega

/-- A run of bytes replaced keeps the canonical form. -/
theorem writeRun_wf (d : Byte) (m : List Host.Cell) (a : Nat) (bs : List Byte) (h : tabWf (fun _ => d) m = true) :
    tabWf (fun _ => d) (writeRun d m a bs) = true := by
  have low : ∀ e ∈ m.filter (fun e => decide (e.1 < a)), e.1 < a := fun e he => by simpa using (List.mem_filter.1 he).2
  obtain ⟨h1, h2⟩ := runCells_wf d bs a
  exact tabWfFrom_append _ _ _
    (tabWfFrom_append _ _ _ (tabWfFrom_filter _ _ _ _ h) low (Nat.zero_le _) h1)
    (fun e he => (List.mem_append.1 he).elim (fun h => by have := low e h; omega) (h2 e)) (Nat.zero_le _)
    (tabWfFrom_filter_from _ _ _ h)

theorem loadSram_wf {s : State} (a : Nat) (bs : List Byte) (h : Memory.wf s.mem) : Memory.wf (s.loadSram a bs).mem :=
  writeRun_wf memReset s.mem a bs h

theorem forgetRange_wf {s : State} (a n k : Nat) (h : Memory.wf s.mem) : Memory.wf (s.forgetRange a n k).mem := tabWf_filter _ _ _ h

/-! ## Writes of a grant -/

@[simp] theorem State.violation_mem (s : State) (h kind access level src addr page : Nat) :
    (s.violation h kind access level src addr page).mem = s.mem := by simp [State.violation]

/-- Folds of an operation that keeps the form keep it. -/
theorem wf_foldl {α : Type} (f : State → α → State) (hf : ∀ s a, Memory.wf s.mem → Memory.wf (f s a).mem) :
    ∀ (l : List α) (s : State), Memory.wf s.mem → Memory.wf (l.foldl f s).mem
  | [], _, h => h
  | a :: l, s, h => wf_foldl f hf l (f s a) (hf s a h)

@[simp] theorem State.countUe_mem (s : State) (u : Nat) : (s.countUe u).mem = s.mem := rfl

theorem tileUe_parts_mem (s : State) (t w a : Nat) :
    (((((s.setRegN (tileP t) 0x0C4 w).bumpF (tileP t) 0x0C8 15 8 1).raise (tileP t) 9).note 6 t t 0xFFFF a).countUe t).mem = s.mem := by
  rw [State.countUe_mem, State.note_mem, State.raise_mem]; rfl

@[simp] theorem State.tileUe_mem (s : State) (t off cls : Nat) : (s.tileUe t off cls).mem = s.mem := tileUe_parts_mem s t _ _

@[simp] theorem State.memRecord_mem (s : State) (a src kind : Nat) : (s.memRecord a src kind).mem = s.mem := by
  unfold State.memRecord
  cases memUnit s.chip.grade a with
  | none => rfl
  | some b => dsimp only; (repeat' split) <;> simp

@[simp] theorem State.meetError_mem (s : State) (src cls : Nat) (e : Nat × Nat) : (s.meetError src cls e).mem = s.mem := by
  unfold State.meetError; (repeat' split) <;> simp

/-- Meeting errors leaves every byte. -/
@[simp] theorem State.meetErrors_mem (s : State) (a n src cls : Nat) : (s.meetErrors a n src cls).mem = s.mem := by
  have fold : ∀ (l : List (Nat × Nat)) (s : State), (l.foldl (fun s e => s.meetError src cls e) s).mem = s.mem := by
    intro l
    induction l with
    | nil => intro s; rfl
    | cons e l ih => intro s; rw [List.foldl_cons, ih, State.meetError_mem]
  simp only [State.meetErrors, fold]

theorem storeBytes_wf {s : State} (a : Nat) (bs : List Byte) (b : Bool) (src cls : Nat) (h : Memory.wf s.mem) :
    Memory.wf (s.storeBytes a bs b src cls).mem := by
  refine writeBytes_wf _ _ _ ?_
  (repeat' split) <;> simpa using h

theorem putGrant_wf {s : State} (k off : Nat) (bs : List Byte) (b : Bool) (h : Memory.wf s.mem) : Memory.wf (s.putGrant k off bs b).mem :=
  wf_foldl _ (fun s e h => by
    split
    · split
      · rw [State.violation_mem]; exact h
      · exact storeBytes_wf _ _ _ _ _ h
    · exact h) _ _ h

/-! ## A homeroom's fault -/

/-- Folds of an operation that leaves memory leave it. -/
theorem mem_foldl {α : Type} (f : State → α → State) (hf : ∀ s a, (f s a).mem = s.mem) :
    ∀ (l : List α) (s : State), (l.foldl f s).mem = s.mem
  | [], _ => rfl
  | a :: l, s => (mem_foldl f hf l (f s a)).trans (hf s a)

@[simp] theorem State.finishAll_mem (s : State) (p : PageRef) (r : Nat) (y : Option (Nat × Nat)) : (s.finishAll p r y).mem = s.mem := by
  unfold State.finishAll State.finishQuiesce
  rw [mem_foldl _ fun s c => State.postFinal_mem s p r y c]
  simp

@[simp] theorem State.setCueCount_mem (s : State) (h cue n : Nat) : (s.setCueCount h cue n).mem = s.mem := by
  unfold State.setCueCount; split <;> rfl

@[simp] theorem State.setPart_mem (s : State) (h i : Nat) (p : Part) : (s.setPart h i p).mem = s.mem := by
  unfold State.setPart; dsimp only; split <;> rfl

@[simp] theorem State.stopAct_mem (s : State) (h i : Nat) : (s.stopAct h i).mem = s.mem := by
  unfold State.stopAct State.setAct State.modAct
  (repeat' split) <;> simp

@[simp] theorem State.stopAllActs_mem (s : State) (h : Nat) : (s.stopAllActs h).mem = s.mem := 
  mem_foldl _ (fun s (e : Nat × Nat) => State.stopAct_mem s e.1 e.2) _ s

@[simp] theorem State.dmaEndRegs_mem (s : State) (c x : Nat) : (s.dmaEndRegs c x).mem = s.mem := by
  unfold State.dmaEndRegs; split
  · rfl
  · simp

@[simp] theorem State.dmaStop_mem (s : State) (c : Nat) : (s.dmaStop c).mem = s.mem := by
  unfold State.dmaStop; split <;> simp

@[simp] theorem State.qDrop_mem (s : State) (p : PageRef) (h : Nat) : (s.qDrop p h).mem = s.mem := by
  unfold State.qDrop; split <;> simp

theorem haltSeq_wf {s : State} (q : Nat) (h : Memory.wf s.mem) : Memory.wf (s.haltSeq q).mem := by
  unfold State.haltSeq
  dsimp only
  split
  · exact putGrant_wf _ _ _ _ h
  · split
    · exact putGrant_wf _ _ _ _ h
    · exact h

theorem haltSeqs_wf {s : State} (h : Memory.wf s.mem) : Memory.wf s.haltSeqs.mem := wf_foldl _ (fun _ q h => haltSeq_wf q h) _ s h

theorem setKv_idle_wf {s : State} (k : Kv) (h : Memory.wf s.mem) :
    Memory.wf ((({ s with kv := k } : State).toState kvP .idle).finishAll kvP 3 none).mem := by
  rw [State.finishAll_mem, State.toState_mem]
  exact h

theorem setCueCount_wf {s : State} (k cue n : Nat) (h : Memory.wf s.mem) : Memory.wf (s.setCueCount k cue n).mem := by
  rw [State.setCueCount_mem]; exact h

/-- The halt of the KV page keeps what its parts keep. -/
theorem kvHalt_keeps (P : State → Prop) (hc : ∀ s k cue n, P s → P (s.setCueCount k cue n)) (hs : ∀ s, P s → P s.haltSeqs)
    (hk : ∀ s k, P s → P ((({ s with kv := k } : State).toState kvP .idle).finishAll kvP 3 none)) {s : State} (h : P s) : P s.kvHalt := by
  unfold State.kvHalt
  split
  · exact h
  · refine hk _ _ (hs _ ?_)
    split
    · exact hc _ _ _ _ h
    · exact h

theorem kvHalt_wf {s : State} (h : Memory.wf s.mem) : Memory.wf s.kvHalt.mem :=
  kvHalt_keeps (fun s => Memory.wf s.mem) (fun _ _ _ _ h => setCueCount_wf _ _ _ h) (fun _ h => haltSeqs_wf h)
    (fun _ _ h => setKv_idle_wf _ h) h

theorem dropJobs_wf {s : State} (k : Nat) (h : Memory.wf s.mem) : Memory.wf (s.dropJobs k).mem := by
  have h1 : Memory.wf ((s.qDrop dppP k).qDrop codecP k).mem := by rw [State.qDrop_mem, State.qDrop_mem]; exact h
  unfold State.dropJobs
  dsimp only
  split
  · exact kvHalt_wf h1
  · exact h1

theorem homeroomFault_wf {s : State} (k code detail : Nat) (h : Memory.wf s.mem) : Memory.wf (s.homeroomFault k code detail).mem := by
  unfold State.homeroomFault
  dsimp only
  split
  · exact h
  · refine dropJobs_wf k ?_
    rw [mem_foldl _ fun s c => by split <;> simp, State.stopAllActs_mem, State.modHr_mem, State.raise_mem, State.syndrome_mem,
      State.finishAll_mem]
    exact h

theorem violationFault_wf {s : State} (k : Nat) (h : Memory.wf s.mem) : Memory.wf (s.violationFault k).mem := by
  unfold State.violationFault
  dsimp only
  split
  · exact homeroomFault_wf _ _ _ h
  · exact h

theorem writeGrant_wf {s : State} (k off : Nat) (bs : List Byte) (b : Bool) (h : Memory.wf s.mem) :
    Memory.wf (s.writeGrant k off bs b).mem := by
  have h1 : Memory.wf (s.putGrant k off bs b).mem := putGrant_wf k off bs b h
  unfold State.writeGrant
  dsimp only
  split
  · exact h1
  · exact violationFault_wf k h1

end Sys2Proof.Machine
end

