-- ==== Sys2Proof/Laws/Units.lean ====
section
/-!
SUPPORT. What each update of one unit leaves alone.
-/

namespace Sys2Proof.Machine

section setTag
variable (s : State) (t slot v : Nat)
@[simp] theorem State.setTag_chip : (s.setTag t slot v).chip = s.chip := rfl
@[simp] theorem State.setTag_mtn : (s.setTag t slot v).mtn = s.mtn := rfl
@[simp] theorem State.setTag_pending : (s.setTag t slot v).pending = s.pending := rfl
@[simp] theorem State.setTag_freeCtr : (s.setTag t slot v).freeCtr = s.freeCtr := rfl
@[simp] theorem State.setTag_pages : (s.setTag t slot v).pages = s.pages := rfl
@[simp] theorem State.setTag_regs : (s.setTag t slot v).regs = s.regs := rfl
@[simp] theorem State.setTag_mem : (s.setTag t slot v).mem = s.mem := rfl
@[simp] theorem State.setTag_tempo : (s.setTag t slot v).tempo = s.tempo := rfl
@[simp] theorem State.setTag_hrs : (s.setTag t slot v).hrs = s.hrs := rfl
@[simp] theorem State.setTag_cues : (s.setTag t slot v).cues = s.cues := rfl
@[simp] theorem State.setTag_excused : (s.setTag t slot v).excused = s.excused := rfl
@[simp] theorem State.setTag_dma : (s.setTag t slot v).dma = s.dma := rfl
@[simp] theorem State.setTag_tiles : (s.setTag t slot v).tiles = s.tiles := rfl
@[simp] theorem State.setTag_notes : (s.setTag t slot v).notes = s.notes := rfl
@[simp] theorem State.setTag_out : (s.setTag t slot v).out = s.out := rfl
@[simp] theorem State.setTag_msix : (s.setTag t slot v).msix = s.msix := rfl
@[simp] theorem State.setTag_lvl : (s.setTag t slot v).lvl = s.lvl := rfl
@[simp] theorem State.setTag_cams : (s.setTag t slot v).cams = s.cams := rfl
@[simp] theorem State.setTag_dpp : (s.setTag t slot v).dpp = s.dpp := rfl
@[simp] theorem State.setTag_banks : (s.setTag t slot v).banks = s.banks := rfl
@[simp] theorem State.setTag_codec : (s.setTag t slot v).codec = s.codec := rfl
@[simp] theorem State.setTag_kv : (s.setTag t slot v).kv = s.kv := rfl
@[simp] theorem State.setTag_ports : (s.setTag t slot v).ports = s.ports := rfl
@[simp] theorem State.setTag_calibs : (s.setTag t slot v).calibs = s.calibs := rfl
@[simp] theorem State.setTag_trackers : (s.setTag t slot v).trackers = s.trackers := rfl
@[simp] theorem State.setTag_jsls : (s.setTag t slot v).jsls = s.jsls := rfl
@[simp] theorem State.setTag_loops : (s.setTag t slot v).loops = s.loops := rfl
@[simp] theorem State.setTag_proc : (s.setTag t slot v).proc = s.proc := rfl
@[simp] theorem State.setTag_hm : (s.setTag t slot v).hm = s.hm := rfl
@[simp] theorem State.setTag_safein : (s.setTag t slot v).safein = s.safein := rfl
@[simp] theorem State.setTag_boot : (s.setTag t slot v).boot = s.boot := rfl
@[simp] theorem State.setTag_dyn : (s.setTag t slot v).dyn = s.dyn := rfl
@[simp] theorem State.setTag_macs : (s.setTag t slot v).macs = s.macs := rfl
@[simp] theorem State.setTag_comp : (s.setTag t slot v).comp = s.comp := rfl
end setTag

section setPoison
variable (s : State) (a : Nat) (b : Bool)
@[simp] theorem State.setPoison_chip : (s.setPoison a b).chip = s.chip := rfl
@[simp] theorem State.setPoison_mtn : (s.setPoison a b).mtn = s.mtn := rfl
@[simp] theorem State.setPoison_pending : (s.setPoison a b).pending = s.pending := rfl
@[simp] theorem State.setPoison_freeCtr : (s.setPoison a b).freeCtr = s.freeCtr := rfl
@[simp] theorem State.setPoison_pages : (s.setPoison a b).pages = s.pages := rfl
@[simp] theorem State.setPoison_regs : (s.setPoison a b).regs = s.regs := rfl
@[simp] theorem State.setPoison_mem : (s.setPoison a b).mem = s.mem := rfl
@[simp] theorem State.setPoison_tempo : (s.setPoison a b).tempo = s.tempo := rfl
@[simp] theorem State.setPoison_hrs : (s.setPoison a b).hrs = s.hrs := rfl
@[simp] theorem State.setPoison_cues : (s.setPoison a b).cues = s.cues := rfl
@[simp] theorem State.setPoison_excused : (s.setPoison a b).excused = s.excused := rfl
@[simp] theorem State.setPoison_dma : (s.setPoison a b).dma = s.dma := rfl
@[simp] theorem State.setPoison_tiles : (s.setPoison a b).tiles = s.tiles := rfl
@[simp] theorem State.setPoison_notes : (s.setPoison a b).notes = s.notes := rfl
@[simp] theorem State.setPoison_out : (s.setPoison a b).out = s.out := rfl
@[simp] theorem State.setPoison_msix : (s.setPoison a b).msix = s.msix := rfl
@[simp] theorem State.setPoison_lvl : (s.setPoison a b).lvl = s.lvl := rfl
@[simp] theorem State.setPoison_cams : (s.setPoison a b).cams = s.cams := rfl
@[simp] theorem State.setPoison_dpp : (s.setPoison a b).dpp = s.dpp := rfl
@[simp] theorem State.setPoison_banks : (s.setPoison a b).banks = s.banks := rfl
@[simp] theorem State.setPoison_codec : (s.setPoison a b).codec = s.codec := rfl
@[simp] theorem State.setPoison_kv : (s.setPoison a b).kv = s.kv := rfl
@[simp] theorem State.setPoison_ports : (s.setPoison a b).ports = s.ports := rfl
@[simp] theorem State.setPoison_calibs : (s.setPoison a b).calibs = s.calibs := rfl
@[simp] theorem State.setPoison_trackers : (s.setPoison a b).trackers = s.trackers := rfl
@[simp] theorem State.setPoison_jsls : (s.setPoison a b).jsls = s.jsls := rfl
@[simp] theorem State.setPoison_loops : (s.setPoison a b).loops = s.loops := rfl
@[simp] theorem State.setPoison_proc : (s.setPoison a b).proc = s.proc := rfl
@[simp] theorem State.setPoison_hm : (s.setPoison a b).hm = s.hm := rfl
@[simp] theorem State.setPoison_safein : (s.setPoison a b).safein = s.safein := rfl
@[simp] theorem State.setPoison_boot : (s.setPoison a b).boot = s.boot := rfl
@[simp] theorem State.setPoison_dyn : (s.setPoison a b).dyn = s.dyn := rfl
@[simp] theorem State.setPoison_macs : (s.setPoison a b).macs = s.macs := rfl
@[simp] theorem State.setPoison_comp : (s.setPoison a b).comp = s.comp := rfl
end setPoison

section forgetRange
variable (s : State) (a n key : Nat)
@[simp] theorem State.forgetRange_chip : (s.forgetRange a n key).chip = s.chip := rfl
@[simp] theorem State.forgetRange_mtn : (s.forgetRange a n key).mtn = s.mtn := rfl
@[simp] theorem State.forgetRange_pending : (s.forgetRange a n key).pending = s.pending := rfl
@[simp] theorem State.forgetRange_freeCtr : (s.forgetRange a n key).freeCtr = s.freeCtr := rfl
@[simp] theorem State.forgetRange_pages : (s.forgetRange a n key).pages = s.pages := rfl
@[simp] theorem State.forgetRange_regs : (s.forgetRange a n key).regs = s.regs := rfl
@[simp] theorem State.forgetRange_tempo : (s.forgetRange a n key).tempo = s.tempo := rfl
@[simp] theorem State.forgetRange_hrs : (s.forgetRange a n key).hrs = s.hrs := rfl
@[simp] theorem State.forgetRange_cues : (s.forgetRange a n key).cues = s.cues := rfl
@[simp] theorem State.forgetRange_excused : (s.forgetRange a n key).excused = s.excused := rfl
@[simp] theorem State.forgetRange_dma : (s.forgetRange a n key).dma = s.dma := rfl
@[simp] theorem State.forgetRange_tiles : (s.forgetRange a n key).tiles = s.tiles := rfl
@[simp] theorem State.forgetRange_notes : (s.forgetRange a n key).notes = s.notes := rfl
@[simp] theorem State.forgetRange_out : (s.forgetRange a n key).out = s.out := rfl
@[simp] theorem State.forgetRange_msix : (s.forgetRange a n key).msix = s.msix := rfl
@[simp] theorem State.forgetRange_lvl : (s.forgetRange a n key).lvl = s.lvl := rfl
@[simp] theorem State.forgetRange_cams : (s.forgetRange a n key).cams = s.cams := rfl
@[simp] theorem State.forgetRange_dpp : (s.forgetRange a n key).dpp = s.dpp := rfl
@[simp] theorem State.forgetRange_banks : (s.forgetRange a n key).banks = s.banks := rfl
@[simp] theorem State.forgetRange_codec : (s.forgetRange a n key).codec = s.codec := rfl
@[simp] theorem State.forgetRange_kv : (s.forgetRange a n key).kv = s.kv := rfl
@[simp] theorem State.forgetRange_ports : (s.forgetRange a n key).ports = s.ports := rfl
@[simp] theorem State.forgetRange_calibs : (s.forgetRange a n key).calibs = s.calibs := rfl
@[simp] theorem State.forgetRange_trackers : (s.forgetRange a n key).trackers = s.trackers := rfl
@[simp] theorem State.forgetRange_jsls : (s.forgetRange a n key).jsls = s.jsls := rfl
@[simp] theorem State.forgetRange_loops : (s.forgetRange a n key).loops = s.loops := rfl
@[simp] theorem State.forgetRange_proc : (s.forgetRange a n key).proc = s.proc := rfl
@[simp] theorem State.forgetRange_hm : (s.forgetRange a n key).hm = s.hm := rfl
@[simp] theorem State.forgetRange_safein : (s.forgetRange a n key).safein = s.safein := rfl
@[simp] theorem State.forgetRange_boot : (s.forgetRange a n key).boot = s.boot := rfl
@[simp] theorem State.forgetRange_dyn : (s.forgetRange a n key).dyn = s.dyn := rfl
@[simp] theorem State.forgetRange_macs : (s.forgetRange a n key).macs = s.macs := rfl
@[simp] theorem State.forgetRange_comp : (s.forgetRange a n key).comp = s.comp := rfl
end forgetRange

section clearSram
variable (s : State) (a n : Nat)
@[simp] theorem State.clearSram_chip : (s.clearSram a n).chip = s.chip := rfl
@[simp] theorem State.clearSram_mtn : (s.clearSram a n).mtn = s.mtn := rfl
@[simp] theorem State.clearSram_pending : (s.clearSram a n).pending = s.pending := rfl
@[simp] theorem State.clearSram_freeCtr : (s.clearSram a n).freeCtr = s.freeCtr := rfl
@[simp] theorem State.clearSram_pages : (s.clearSram a n).pages = s.pages := rfl
@[simp] theorem State.clearSram_regs : (s.clearSram a n).regs = s.regs := rfl
@[simp] theorem State.clearSram_tempo : (s.clearSram a n).tempo = s.tempo := rfl
@[simp] theorem State.clearSram_hrs : (s.clearSram a n).hrs = s.hrs := rfl
@[simp] theorem State.clearSram_cues : (s.clearSram a n).cues = s.cues := rfl
@[simp] theorem State.clearSram_excused : (s.clearSram a n).excused = s.excused := rfl
@[simp] theorem State.clearSram_dma : (s.clearSram a n).dma = s.dma := rfl
@[simp] theorem State.clearSram_tiles : (s.clearSram a n).tiles = s.tiles := rfl
@[simp] theorem State.clearSram_notes : (s.clearSram a n).notes = s.notes := rfl
@[simp] theorem State.clearSram_out : (s.clearSram a n).out = s.out := rfl
@[simp] theorem State.clearSram_msix : (s.clearSram a n).msix = s.msix := rfl
@[simp] theorem State.clearSram_lvl : (s.clearSram a n).lvl = s.lvl := rfl
@[simp] theorem State.clearSram_cams : (s.clearSram a n).cams = s.cams := rfl
@[simp] theorem State.clearSram_dpp : (s.clearSram a n).dpp = s.dpp := rfl
@[simp] theorem State.clearSram_banks : (s.clearSram a n).banks = s.banks := rfl
@[simp] theorem State.clearSram_codec : (s.clearSram a n).codec = s.codec := rfl
@[simp] theorem State.clearSram_kv : (s.clearSram a n).kv = s.kv := rfl
@[simp] theorem State.clearSram_ports : (s.clearSram a n).ports = s.ports := rfl
@[simp] theorem State.clearSram_calibs : (s.clearSram a n).calibs = s.calibs := rfl
@[simp] theorem State.clearSram_trackers : (s.clearSram a n).trackers = s.trackers := rfl
@[simp] theorem State.clearSram_jsls : (s.clearSram a n).jsls = s.jsls := rfl
@[simp] theorem State.clearSram_loops : (s.clearSram a n).loops = s.loops := rfl
@[simp] theorem State.clearSram_proc : (s.clearSram a n).proc = s.proc := rfl
@[simp] theorem State.clearSram_hm : (s.clearSram a n).hm = s.hm := rfl
@[simp] theorem State.clearSram_safein : (s.clearSram a n).safein = s.safein := rfl
@[simp] theorem State.clearSram_boot : (s.clearSram a n).boot = s.boot := rfl
@[simp] theorem State.clearSram_dyn : (s.clearSram a n).dyn = s.dyn := rfl
@[simp] theorem State.clearSram_macs : (s.clearSram a n).macs = s.macs := rfl
@[simp] theorem State.clearSram_comp : (s.clearSram a n).comp = s.comp := rfl
end clearSram

section noteAt
variable (s : State) (t cls src unit axes info : Nat)
@[simp] theorem State.noteAt_chip : (s.noteAt t cls src unit axes info).chip = s.chip := rfl
@[simp] theorem State.noteAt_mtn : (s.noteAt t cls src unit axes info).mtn = s.mtn := rfl
@[simp] theorem State.noteAt_pending : (s.noteAt t cls src unit axes info).pending = s.pending := rfl
@[simp] theorem State.noteAt_freeCtr : (s.noteAt t cls src unit axes info).freeCtr = s.freeCtr := rfl
@[simp] theorem State.noteAt_pages : (s.noteAt t cls src unit axes info).pages = s.pages := rfl
@[simp] theorem State.noteAt_regs : (s.noteAt t cls src unit axes info).regs = s.regs := rfl
@[simp] theorem State.noteAt_mem : (s.noteAt t cls src unit axes info).mem = s.mem := rfl
@[simp] theorem State.noteAt_sram : (s.noteAt t cls src unit axes info).sram = s.sram := rfl
@[simp] theorem State.noteAt_tempo : (s.noteAt t cls src unit axes info).tempo = s.tempo := rfl
@[simp] theorem State.noteAt_hrs : (s.noteAt t cls src unit axes info).hrs = s.hrs := rfl
@[simp] theorem State.noteAt_cues : (s.noteAt t cls src unit axes info).cues = s.cues := rfl
@[simp] theorem State.noteAt_excused : (s.noteAt t cls src unit axes info).excused = s.excused := rfl
@[simp] theorem State.noteAt_dma : (s.noteAt t cls src unit axes info).dma = s.dma := rfl
@[simp] theorem State.noteAt_tiles : (s.noteAt t cls src unit axes info).tiles = s.tiles := rfl
@[simp] theorem State.noteAt_out : (s.noteAt t cls src unit axes info).out = s.out := rfl
@[simp] theorem State.noteAt_msix : (s.noteAt t cls src unit axes info).msix = s.msix := rfl
@[simp] theorem State.noteAt_lvl : (s.noteAt t cls src unit axes info).lvl = s.lvl := rfl
@[simp] theorem State.noteAt_cams : (s.noteAt t cls src unit axes info).cams = s.cams := rfl
@[simp] theorem State.noteAt_dpp : (s.noteAt t cls src unit axes info).dpp = s.dpp := rfl
@[simp] theorem State.noteAt_banks : (s.noteAt t cls src unit axes info).banks = s.banks := rfl
@[simp] theorem State.noteAt_codec : (s.noteAt t cls src unit axes info).codec = s.codec := rfl
@[simp] theorem State.noteAt_kv : (s.noteAt t cls src unit axes info).kv = s.kv := rfl
@[simp] theorem State.noteAt_ports : (s.noteAt t cls src unit axes info).ports = s.ports := rfl
@[simp] theorem State.noteAt_calibs : (s.noteAt t cls src unit axes info).calibs = s.calibs := rfl
@[simp] theorem State.noteAt_trackers : (s.noteAt t cls src unit axes info).trackers = s.trackers := rfl
@[simp] theorem State.noteAt_jsls : (s.noteAt t cls src unit axes info).jsls = s.jsls := rfl
@[simp] theorem State.noteAt_loops : (s.noteAt t cls src unit axes info).loops = s.loops := rfl
@[simp] theorem State.noteAt_proc : (s.noteAt t cls src unit axes info).proc = s.proc := rfl
@[simp] theorem State.noteAt_hm : (s.noteAt t cls src unit axes info).hm = s.hm := rfl
@[simp] theorem State.noteAt_safein : (s.noteAt t cls src unit axes info).safein = s.safein := rfl
@[simp] theorem State.noteAt_boot : (s.noteAt t cls src unit axes info).boot = s.boot := rfl
@[simp] theorem State.noteAt_dyn : (s.noteAt t cls src unit axes info).dyn = s.dyn := rfl
@[simp] theorem State.noteAt_macs : (s.noteAt t cls src unit axes info).macs = s.macs := rfl
@[simp] theorem State.noteAt_comp : (s.noteAt t cls src unit axes info).comp = s.comp := rfl
end noteAt

section noteData
variable (s : State) (cls src unit axes info : Nat) (data : List Nat)
@[simp] theorem State.noteData_chip : (s.noteData cls src unit axes info data).chip = s.chip := rfl
@[simp] theorem State.noteData_mtn : (s.noteData cls src unit axes info data).mtn = s.mtn := rfl
@[simp] theorem State.noteData_pending : (s.noteData cls src unit axes info data).pending = s.pending := rfl
@[simp] theorem State.noteData_freeCtr : (s.noteData cls src unit axes info data).freeCtr = s.freeCtr := rfl
@[simp] theorem State.noteData_pages : (s.noteData cls src unit axes info data).pages = s.pages := rfl
@[simp] theorem State.noteData_regs : (s.noteData cls src unit axes info data).regs = s.regs := rfl
@[simp] theorem State.noteData_mem : (s.noteData cls src unit axes info data).mem = s.mem := rfl
@[simp] theorem State.noteData_sram : (s.noteData cls src unit axes info data).sram = s.sram := rfl
@[simp] theorem State.noteData_tempo : (s.noteData cls src unit axes info data).tempo = s.tempo := rfl
@[simp] theorem State.noteData_hrs : (s.noteData cls src unit axes info data).hrs = s.hrs := rfl
@[simp] theorem State.noteData_cues : (s.noteData cls src unit axes info data).cues = s.cues := rfl
@[simp] theorem State.noteData_excused : (s.noteData cls src unit axes info data).excused = s.excused := rfl
@[simp] theorem State.noteData_dma : (s.noteData cls src unit axes info data).dma = s.dma := rfl
@[simp] theorem State.noteData_tiles : (s.noteData cls src unit axes info data).tiles = s.tiles := rfl
@[simp] theorem State.noteData_out : (s.noteData cls src unit axes info data).out = s.out := rfl
@[simp] theorem State.noteData_msix : (s.noteData cls src unit axes info data).msix = s.msix := rfl
@[simp] theorem State.noteData_lvl : (s.noteData cls src unit axes info data).lvl = s.lvl := rfl
@[simp] theorem State.noteData_cams : (s.noteData cls src unit axes info data).cams = s.cams := rfl
@[simp] theorem State.noteData_dpp : (s.noteData cls src unit axes info data).dpp = s.dpp := rfl
@[simp] theorem State.noteData_banks : (s.noteData cls src unit axes info data).banks = s.banks := rfl
@[simp] theorem State.noteData_codec : (s.noteData cls src unit axes info data).codec = s.codec := rfl
@[simp] theorem State.noteData_kv : (s.noteData cls src unit axes info data).kv = s.kv := rfl
@[simp] theorem State.noteData_ports : (s.noteData cls src unit axes info data).ports = s.ports := rfl
@[simp] theorem State.noteData_calibs : (s.noteData cls src unit axes info data).calibs = s.calibs := rfl
@[simp] theorem State.noteData_trackers : (s.noteData cls src unit axes info data).trackers = s.trackers := rfl
@[simp] theorem State.noteData_jsls : (s.noteData cls src unit axes info data).jsls = s.jsls := rfl
@[simp] theorem State.noteData_loops : (s.noteData cls src unit axes info data).loops = s.loops := rfl
@[simp] theorem State.noteData_proc : (s.noteData cls src unit axes info data).proc = s.proc := rfl
@[simp] theorem State.noteData_hm : (s.noteData cls src unit axes info data).hm = s.hm := rfl
@[simp] theorem State.noteData_safein : (s.noteData cls src unit axes info data).safein = s.safein := rfl
@[simp] theorem State.noteData_boot : (s.noteData cls src unit axes info data).boot = s.boot := rfl
@[simp] theorem State.noteData_dyn : (s.noteData cls src unit axes info data).dyn = s.dyn := rfl
@[simp] theorem State.noteData_macs : (s.noteData cls src unit axes info data).macs = s.macs := rfl
@[simp] theorem State.noteData_comp : (s.noteData cls src unit axes info data).comp = s.comp := rfl
end noteData

section modTile
variable (s : State) (t : Nat) (f : Tile → Tile)
@[simp] theorem State.modTile_freeCtr : (s.modTile t f).freeCtr = s.freeCtr := rfl
@[simp] theorem State.modTile_pages : (s.modTile t f).pages = s.pages := rfl
@[simp] theorem State.modTile_out : (s.modTile t f).out = s.out := rfl
@[simp] theorem State.modTile_msix : (s.modTile t f).msix = s.msix := rfl
@[simp] theorem State.modTile_dpp : (s.modTile t f).dpp = s.dpp := rfl
@[simp] theorem State.modTile_calibs : (s.modTile t f).calibs = s.calibs := rfl
@[simp] theorem State.modTile_hm : (s.modTile t f).hm = s.hm := rfl
end modTile

section modHr
variable (s : State) (h : Nat) (f : Hr → Hr)
@[simp] theorem State.modHr_freeCtr : (s.modHr h f).freeCtr = s.freeCtr := rfl
@[simp] theorem State.modHr_pages : (s.modHr h f).pages = s.pages := rfl
@[simp] theorem State.modHr_out : (s.modHr h f).out = s.out := rfl
@[simp] theorem State.modHr_msix : (s.modHr h f).msix = s.msix := rfl
@[simp] theorem State.modHr_dpp : (s.modHr h f).dpp = s.dpp := rfl
@[simp] theorem State.modHr_calibs : (s.modHr h f).calibs = s.calibs := rfl
@[simp] theorem State.modHr_hm : (s.modHr h f).hm = s.hm := rfl
end modHr

section modTrk
variable (s : State) (n : Nat) (f : Tracker → Tracker)
@[simp] theorem State.modTrk_chip : (s.modTrk n f).chip = s.chip := rfl
@[simp] theorem State.modTrk_mtn : (s.modTrk n f).mtn = s.mtn := rfl
@[simp] theorem State.modTrk_pending : (s.modTrk n f).pending = s.pending := rfl
@[simp] theorem State.modTrk_freeCtr : (s.modTrk n f).freeCtr = s.freeCtr := rfl
@[simp] theorem State.modTrk_pages : (s.modTrk n f).pages = s.pages := rfl
@[simp] theorem State.modTrk_regs : (s.modTrk n f).regs = s.regs := rfl
@[simp] theorem State.modTrk_mem : (s.modTrk n f).mem = s.mem := rfl
@[simp] theorem State.modTrk_sram : (s.modTrk n f).sram = s.sram := rfl
@[simp] theorem State.modTrk_tempo : (s.modTrk n f).tempo = s.tempo := rfl
@[simp] theorem State.modTrk_hrs : (s.modTrk n f).hrs = s.hrs := rfl
@[simp] theorem State.modTrk_cues : (s.modTrk n f).cues = s.cues := rfl
@[simp] theorem State.modTrk_excused : (s.modTrk n f).excused = s.excused := rfl
@[simp] theorem State.modTrk_dma : (s.modTrk n f).dma = s.dma := rfl
@[simp] theorem State.modTrk_tiles : (s.modTrk n f).tiles = s.tiles := rfl
@[simp] theorem State.modTrk_notes : (s.modTrk n f).notes = s.notes := rfl
@[simp] theorem State.modTrk_out : (s.modTrk n f).out = s.out := rfl
@[simp] theorem State.modTrk_msix : (s.modTrk n f).msix = s.msix := rfl
@[simp] theorem State.modTrk_lvl : (s.modTrk n f).lvl = s.lvl := rfl
@[simp] theorem State.modTrk_cams : (s.modTrk n f).cams = s.cams := rfl
@[simp] theorem State.modTrk_dpp : (s.modTrk n f).dpp = s.dpp := rfl
@[simp] theorem State.modTrk_banks : (s.modTrk n f).banks = s.banks := rfl
@[simp] theorem State.modTrk_codec : (s.modTrk n f).codec = s.codec := rfl
@[simp] theorem State.modTrk_kv : (s.modTrk n f).kv = s.kv := rfl
@[simp] theorem State.modTrk_ports : (s.modTrk n f).ports = s.ports := rfl
@[simp] theorem State.modTrk_calibs : (s.modTrk n f).calibs = s.calibs := rfl
@[simp] theorem State.modTrk_jsls : (s.modTrk n f).jsls = s.jsls := rfl
@[simp] theorem State.modTrk_loops : (s.modTrk n f).loops = s.loops := rfl
@[simp] theorem State.modTrk_proc : (s.modTrk n f).proc = s.proc := rfl
@[simp] theorem State.modTrk_hm : (s.modTrk n f).hm = s.hm := rfl
@[simp] theorem State.modTrk_safein : (s.modTrk n f).safein = s.safein := rfl
@[simp] theorem State.modTrk_boot : (s.modTrk n f).boot = s.boot := rfl
@[simp] theorem State.modTrk_dyn : (s.modTrk n f).dyn = s.dyn := rfl
@[simp] theorem State.modTrk_macs : (s.modTrk n f).macs = s.macs := rfl
@[simp] theorem State.modTrk_comp : (s.modTrk n f).comp = s.comp := rfl
end modTrk

section modCam
variable (s : State) (n : Nat) (f : Cam → Cam)
@[simp] theorem State.modCam_chip : (s.modCam n f).chip = s.chip := rfl
@[simp] theorem State.modCam_mtn : (s.modCam n f).mtn = s.mtn := rfl
@[simp] theorem State.modCam_pending : (s.modCam n f).pending = s.pending := rfl
@[simp] theorem State.modCam_freeCtr : (s.modCam n f).freeCtr = s.freeCtr := rfl
@[simp] theorem State.modCam_pages : (s.modCam n f).pages = s.pages := rfl
@[simp] theorem State.modCam_regs : (s.modCam n f).regs = s.regs := rfl
@[simp] theorem State.modCam_mem : (s.modCam n f).mem = s.mem := rfl
@[simp] theorem State.modCam_sram : (s.modCam n f).sram = s.sram := rfl
@[simp] theorem State.modCam_tempo : (s.modCam n f).tempo = s.tempo := rfl
@[simp] theorem State.modCam_hrs : (s.modCam n f).hrs = s.hrs := rfl
@[simp] theorem State.modCam_cues : (s.modCam n f).cues = s.cues := rfl
@[simp] theorem State.modCam_excused : (s.modCam n f).excused = s.excused := rfl
@[simp] theorem State.modCam_dma : (s.modCam n f).dma = s.dma := rfl
@[simp] theorem State.modCam_tiles : (s.modCam n f).tiles = s.tiles := rfl
@[simp] theorem State.modCam_notes : (s.modCam n f).notes = s.notes := rfl
@[simp] theorem State.modCam_out : (s.modCam n f).out = s.out := rfl
@[simp] theorem State.modCam_msix : (s.modCam n f).msix = s.msix := rfl
@[simp] theorem State.modCam_lvl : (s.modCam n f).lvl = s.lvl := rfl
@[simp] theorem State.modCam_dpp : (s.modCam n f).dpp = s.dpp := rfl
@[simp] theorem State.modCam_banks : (s.modCam n f).banks = s.banks := rfl
@[simp] theorem State.modCam_codec : (s.modCam n f).codec = s.codec := rfl
@[simp] theorem State.modCam_kv : (s.modCam n f).kv = s.kv := rfl
@[simp] theorem State.modCam_ports : (s.modCam n f).ports = s.ports := rfl
@[simp] theorem State.modCam_calibs : (s.modCam n f).calibs = s.calibs := rfl
@[simp] theorem State.modCam_trackers : (s.modCam n f).trackers = s.trackers := rfl
@[simp] theorem State.modCam_jsls : (s.modCam n f).jsls = s.jsls := rfl
@[simp] theorem State.modCam_loops : (s.modCam n f).loops = s.loops := rfl
@[simp] theorem State.modCam_proc : (s.modCam n f).proc = s.proc := rfl
@[simp] theorem State.modCam_hm : (s.modCam n f).hm = s.hm := rfl
@[simp] theorem State.modCam_safein : (s.modCam n f).safein = s.safein := rfl
@[simp] theorem State.modCam_boot : (s.modCam n f).boot = s.boot := rfl
@[simp] theorem State.modCam_dyn : (s.modCam n f).dyn = s.dyn := rfl
@[simp] theorem State.modCam_macs : (s.modCam n f).macs = s.macs := rfl
@[simp] theorem State.modCam_comp : (s.modCam n f).comp = s.comp := rfl
end modCam

section modFrame
variable (s : State) (n : Nat) (f : CamFrame → CamFrame)
@[simp] theorem State.modFrame_chip : (s.modFrame n f).chip = s.chip := rfl
@[simp] theorem State.modFrame_mtn : (s.modFrame n f).mtn = s.mtn := rfl
@[simp] theorem State.modFrame_pending : (s.modFrame n f).pending = s.pending := rfl
@[simp] theorem State.modFrame_freeCtr : (s.modFrame n f).freeCtr = s.freeCtr := rfl
@[simp] theorem State.modFrame_pages : (s.modFrame n f).pages = s.pages := rfl
@[simp] theorem State.modFrame_regs : (s.modFrame n f).regs = s.regs := rfl
@[simp] theorem State.modFrame_mem : (s.modFrame n f).mem = s.mem := rfl
@[simp] theorem State.modFrame_sram : (s.modFrame n f).sram = s.sram := rfl
@[simp] theorem State.modFrame_tempo : (s.modFrame n f).tempo = s.tempo := rfl
@[simp] theorem State.modFrame_hrs : (s.modFrame n f).hrs = s.hrs := rfl
@[simp] theorem State.modFrame_cues : (s.modFrame n f).cues = s.cues := rfl
@[simp] theorem State.modFrame_excused : (s.modFrame n f).excused = s.excused := rfl
@[simp] theorem State.modFrame_dma : (s.modFrame n f).dma = s.dma := rfl
@[simp] theorem State.modFrame_tiles : (s.modFrame n f).tiles = s.tiles := rfl
@[simp] theorem State.modFrame_notes : (s.modFrame n f).notes = s.notes := rfl
@[simp] theorem State.modFrame_out : (s.modFrame n f).out = s.out := rfl
@[simp] theorem State.modFrame_msix : (s.modFrame n f).msix = s.msix := rfl
@[simp] theorem State.modFrame_lvl : (s.modFrame n f).lvl = s.lvl := rfl
@[simp] theorem State.modFrame_dpp : (s.modFrame n f).dpp = s.dpp := rfl
@[simp] theorem State.modFrame_banks : (s.modFrame n f).banks = s.banks := rfl
@[simp] theorem State.modFrame_codec : (s.modFrame n f).codec = s.codec := rfl
@[simp] theorem State.modFrame_kv : (s.modFrame n f).kv = s.kv := rfl
@[simp] theorem State.modFrame_ports : (s.modFrame n f).ports = s.ports := rfl
@[simp] theorem State.modFrame_calibs : (s.modFrame n f).calibs = s.calibs := rfl
@[simp] theorem State.modFrame_trackers : (s.modFrame n f).trackers = s.trackers := rfl
@[simp] theorem State.modFrame_jsls : (s.modFrame n f).jsls = s.jsls := rfl
@[simp] theorem State.modFrame_loops : (s.modFrame n f).loops = s.loops := rfl
@[simp] theorem State.modFrame_proc : (s.modFrame n f).proc = s.proc := rfl
@[simp] theorem State.modFrame_hm : (s.modFrame n f).hm = s.hm := rfl
@[simp] theorem State.modFrame_safein : (s.modFrame n f).safein = s.safein := rfl
@[simp] theorem State.modFrame_boot : (s.modFrame n f).boot = s.boot := rfl
@[simp] theorem State.modFrame_dyn : (s.modFrame n f).dyn = s.dyn := rfl
@[simp] theorem State.modFrame_macs : (s.modFrame n f).macs = s.macs := rfl
@[simp] theorem State.modFrame_comp : (s.modFrame n f).comp = s.comp := rfl
end modFrame

section modPfe
variable (s : State) (n : Nat) (f : CamFrame → CamFrame)
@[simp] theorem State.modPfe_chip : (s.modPfe n f).chip = s.chip := rfl
@[simp] theorem State.modPfe_mtn : (s.modPfe n f).mtn = s.mtn := rfl
@[simp] theorem State.modPfe_pending : (s.modPfe n f).pending = s.pending := rfl
@[simp] theorem State.modPfe_freeCtr : (s.modPfe n f).freeCtr = s.freeCtr := rfl
@[simp] theorem State.modPfe_pages : (s.modPfe n f).pages = s.pages := rfl
@[simp] theorem State.modPfe_regs : (s.modPfe n f).regs = s.regs := rfl
@[simp] theorem State.modPfe_mem : (s.modPfe n f).mem = s.mem := rfl
@[simp] theorem State.modPfe_sram : (s.modPfe n f).sram = s.sram := rfl
@[simp] theorem State.modPfe_tempo : (s.modPfe n f).tempo = s.tempo := rfl
@[simp] theorem State.modPfe_hrs : (s.modPfe n f).hrs = s.hrs := rfl
@[simp] theorem State.modPfe_cues : (s.modPfe n f).cues = s.cues := rfl
@[simp] theorem State.modPfe_excused : (s.modPfe n f).excused = s.excused := rfl
@[simp] theorem State.modPfe_dma : (s.modPfe n f).dma = s.dma := rfl
@[simp] theorem State.modPfe_tiles : (s.modPfe n f).tiles = s.tiles := rfl
@[simp] theorem State.modPfe_notes : (s.modPfe n f).notes = s.notes := rfl
@[simp] theorem State.modPfe_out : (s.modPfe n f).out = s.out := rfl
@[simp] theorem State.modPfe_msix : (s.modPfe n f).msix = s.msix := rfl
@[simp] theorem State.modPfe_lvl : (s.modPfe n f).lvl = s.lvl := rfl
@[simp] theorem State.modPfe_dpp : (s.modPfe n f).dpp = s.dpp := rfl
@[simp] theorem State.modPfe_banks : (s.modPfe n f).banks = s.banks := rfl
@[simp] theorem State.modPfe_codec : (s.modPfe n f).codec = s.codec := rfl
@[simp] theorem State.modPfe_kv : (s.modPfe n f).kv = s.kv := rfl
@[simp] theorem State.modPfe_ports : (s.modPfe n f).ports = s.ports := rfl
@[simp] theorem State.modPfe_calibs : (s.modPfe n f).calibs = s.calibs := rfl
@[simp] theorem State.modPfe_trackers : (s.modPfe n f).trackers = s.trackers := rfl
@[simp] theorem State.modPfe_jsls : (s.modPfe n f).jsls = s.jsls := rfl
@[simp] theorem State.modPfe_loops : (s.modPfe n f).loops = s.loops := rfl
@[simp] theorem State.modPfe_proc : (s.modPfe n f).proc = s.proc := rfl
@[simp] theorem State.modPfe_hm : (s.modPfe n f).hm = s.hm := rfl
@[simp] theorem State.modPfe_safein : (s.modPfe n f).safein = s.safein := rfl
@[simp] theorem State.modPfe_boot : (s.modPfe n f).boot = s.boot := rfl
@[simp] theorem State.modPfe_dyn : (s.modPfe n f).dyn = s.dyn := rfl
@[simp] theorem State.modPfe_macs : (s.modPfe n f).macs = s.macs := rfl
@[simp] theorem State.modPfe_comp : (s.modPfe n f).comp = s.comp := rfl
end modPfe

section modPort
variable (s : State) (n : Nat) (f : Port → Port)
@[simp] theorem State.modPort_chip : (s.modPort n f).chip = s.chip := rfl
@[simp] theorem State.modPort_mtn : (s.modPort n f).mtn = s.mtn := rfl
@[simp] theorem State.modPort_pending : (s.modPort n f).pending = s.pending := rfl
@[simp] theorem State.modPort_freeCtr : (s.modPort n f).freeCtr = s.freeCtr := rfl
@[simp] theorem State.modPort_pages : (s.modPort n f).pages = s.pages := rfl
@[simp] theorem State.modPort_regs : (s.modPort n f).regs = s.regs := rfl
@[simp] theorem State.modPort_mem : (s.modPort n f).mem = s.mem := rfl
@[simp] theorem State.modPort_sram : (s.modPort n f).sram = s.sram := rfl
@[simp] theorem State.modPort_tempo : (s.modPort n f).tempo = s.tempo := rfl
@[simp] theorem State.modPort_hrs : (s.modPort n f).hrs = s.hrs := rfl
@[simp] theorem State.modPort_cues : (s.modPort n f).cues = s.cues := rfl
@[simp] theorem State.modPort_excused : (s.modPort n f).excused = s.excused := rfl
@[simp] theorem State.modPort_dma : (s.modPort n f).dma = s.dma := rfl
@[simp] theorem State.modPort_tiles : (s.modPort n f).tiles = s.tiles := rfl
@[simp] theorem State.modPort_notes : (s.modPort n f).notes = s.notes := rfl
@[simp] theorem State.modPort_out : (s.modPort n f).out = s.out := rfl
@[simp] theorem State.modPort_msix : (s.modPort n f).msix = s.msix := rfl
@[simp] theorem State.modPort_lvl : (s.modPort n f).lvl = s.lvl := rfl
@[simp] theorem State.modPort_cams : (s.modPort n f).cams = s.cams := rfl
@[simp] theorem State.modPort_dpp : (s.modPort n f).dpp = s.dpp := rfl
@[simp] theorem State.modPort_banks : (s.modPort n f).banks = s.banks := rfl
@[simp] theorem State.modPort_codec : (s.modPort n f).codec = s.codec := rfl
@[simp] theorem State.modPort_kv : (s.modPort n f).kv = s.kv := rfl
@[simp] theorem State.modPort_calibs : (s.modPort n f).calibs = s.calibs := rfl
@[simp] theorem State.modPort_trackers : (s.modPort n f).trackers = s.trackers := rfl
@[simp] theorem State.modPort_jsls : (s.modPort n f).jsls = s.jsls := rfl
@[simp] theorem State.modPort_loops : (s.modPort n f).loops = s.loops := rfl
@[simp] theorem State.modPort_proc : (s.modPort n f).proc = s.proc := rfl
@[simp] theorem State.modPort_hm : (s.modPort n f).hm = s.hm := rfl
@[simp] theorem State.modPort_safein : (s.modPort n f).safein = s.safein := rfl
@[simp] theorem State.modPort_boot : (s.modPort n f).boot = s.boot := rfl
@[simp] theorem State.modPort_dyn : (s.modPort n f).dyn = s.dyn := rfl
@[simp] theorem State.modPort_macs : (s.modPort n f).macs = s.macs := rfl
@[simp] theorem State.modPort_comp : (s.modPort n f).comp = s.comp := rfl
end modPort

section modAxis
variable (s : State) (n : Nat) (f : LoopAxis → LoopAxis)
@[simp] theorem State.modAxis_chip : (s.modAxis n f).chip = s.chip := rfl
@[simp] theorem State.modAxis_mtn : (s.modAxis n f).mtn = s.mtn := rfl
@[simp] theorem State.modAxis_pending : (s.modAxis n f).pending = s.pending := rfl
@[simp] theorem State.modAxis_freeCtr : (s.modAxis n f).freeCtr = s.freeCtr := rfl
@[simp] theorem State.modAxis_pages : (s.modAxis n f).pages = s.pages := rfl
@[simp] theorem State.modAxis_regs : (s.modAxis n f).regs = s.regs := rfl
@[simp] theorem State.modAxis_mem : (s.modAxis n f).mem = s.mem := rfl
@[simp] theorem State.modAxis_sram : (s.modAxis n f).sram = s.sram := rfl
@[simp] theorem State.modAxis_tempo : (s.modAxis n f).tempo = s.tempo := rfl
@[simp] theorem State.modAxis_hrs : (s.modAxis n f).hrs = s.hrs := rfl
@[simp] theorem State.modAxis_cues : (s.modAxis n f).cues = s.cues := rfl
@[simp] theorem State.modAxis_excused : (s.modAxis n f).excused = s.excused := rfl
@[simp] theorem State.modAxis_dma : (s.modAxis n f).dma = s.dma := rfl
@[simp] theorem State.modAxis_tiles : (s.modAxis n f).tiles = s.tiles := rfl
@[simp] theorem State.modAxis_notes : (s.modAxis n f).notes = s.notes := rfl
@[simp] theorem State.modAxis_out : (s.modAxis n f).out = s.out := rfl
@[simp] theorem State.modAxis_msix : (s.modAxis n f).msix = s.msix := rfl
@[simp] theorem State.modAxis_lvl : (s.modAxis n f).lvl = s.lvl := rfl
@[simp] theorem State.modAxis_cams : (s.modAxis n f).cams = s.cams := rfl
@[simp] theorem State.modAxis_dpp : (s.modAxis n f).dpp = s.dpp := rfl
@[simp] theorem State.modAxis_banks : (s.modAxis n f).banks = s.banks := rfl
@[simp] theorem State.modAxis_codec : (s.modAxis n f).codec = s.codec := rfl
@[simp] theorem State.modAxis_kv : (s.modAxis n f).kv = s.kv := rfl
@[simp] theorem State.modAxis_ports : (s.modAxis n f).ports = s.ports := rfl
@[simp] theorem State.modAxis_calibs : (s.modAxis n f).calibs = s.calibs := rfl
@[simp] theorem State.modAxis_trackers : (s.modAxis n f).trackers = s.trackers := rfl
@[simp] theorem State.modAxis_jsls : (s.modAxis n f).jsls = s.jsls := rfl
@[simp] theorem State.modAxis_proc : (s.modAxis n f).proc = s.proc := rfl
@[simp] theorem State.modAxis_hm : (s.modAxis n f).hm = s.hm := rfl
@[simp] theorem State.modAxis_safein : (s.modAxis n f).safein = s.safein := rfl
@[simp] theorem State.modAxis_boot : (s.modAxis n f).boot = s.boot := rfl
@[simp] theorem State.modAxis_dyn : (s.modAxis n f).dyn = s.dyn := rfl
@[simp] theorem State.modAxis_macs : (s.modAxis n f).macs = s.macs := rfl
@[simp] theorem State.modAxis_comp : (s.modAxis n f).comp = s.comp := rfl
end modAxis

section modJsl
variable (s : State) (p : Nat) (f : JslPort → JslPort)
@[simp] theorem State.modJsl_chip : (s.modJsl p f).chip = s.chip := rfl
@[simp] theorem State.modJsl_mtn : (s.modJsl p f).mtn = s.mtn := rfl
@[simp] theorem State.modJsl_pending : (s.modJsl p f).pending = s.pending := rfl
@[simp] theorem State.modJsl_freeCtr : (s.modJsl p f).freeCtr = s.freeCtr := rfl
@[simp] theorem State.modJsl_pages : (s.modJsl p f).pages = s.pages := rfl
@[simp] theorem State.modJsl_regs : (s.modJsl p f).regs = s.regs := rfl
@[simp] theorem State.modJsl_mem : (s.modJsl p f).mem = s.mem := rfl
@[simp] theorem State.modJsl_sram : (s.modJsl p f).sram = s.sram := rfl
@[simp] theorem State.modJsl_tempo : (s.modJsl p f).tempo = s.tempo := rfl
@[simp] theorem State.modJsl_hrs : (s.modJsl p f).hrs = s.hrs := rfl
@[simp] theorem State.modJsl_cues : (s.modJsl p f).cues = s.cues := rfl
@[simp] theorem State.modJsl_excused : (s.modJsl p f).excused = s.excused := rfl
@[simp] theorem State.modJsl_dma : (s.modJsl p f).dma = s.dma := rfl
@[simp] theorem State.modJsl_tiles : (s.modJsl p f).tiles = s.tiles := rfl
@[simp] theorem State.modJsl_notes : (s.modJsl p f).notes = s.notes := rfl
@[simp] theorem State.modJsl_out : (s.modJsl p f).out = s.out := rfl
@[simp] theorem State.modJsl_msix : (s.modJsl p f).msix = s.msix := rfl
@[simp] theorem State.modJsl_lvl : (s.modJsl p f).lvl = s.lvl := rfl
@[simp] theorem State.modJsl_cams : (s.modJsl p f).cams = s.cams := rfl
@[simp] theorem State.modJsl_dpp : (s.modJsl p f).dpp = s.dpp := rfl
@[simp] theorem State.modJsl_banks : (s.modJsl p f).banks = s.banks := rfl
@[simp] theorem State.modJsl_codec : (s.modJsl p f).codec = s.codec := rfl
@[simp] theorem State.modJsl_kv : (s.modJsl p f).kv = s.kv := rfl
@[simp] theorem State.modJsl_ports : (s.modJsl p f).ports = s.ports := rfl
@[simp] theorem State.modJsl_calibs : (s.modJsl p f).calibs = s.calibs := rfl
@[simp] theorem State.modJsl_trackers : (s.modJsl p f).trackers = s.trackers := rfl
@[simp] theorem State.modJsl_loops : (s.modJsl p f).loops = s.loops := rfl
@[simp] theorem State.modJsl_proc : (s.modJsl p f).proc = s.proc := rfl
@[simp] theorem State.modJsl_hm : (s.modJsl p f).hm = s.hm := rfl
@[simp] theorem State.modJsl_safein : (s.modJsl p f).safein = s.safein := rfl
@[simp] theorem State.modJsl_boot : (s.modJsl p f).boot = s.boot := rfl
@[simp] theorem State.modJsl_dyn : (s.modJsl p f).dyn = s.dyn := rfl
@[simp] theorem State.modJsl_macs : (s.modJsl p f).macs = s.macs := rfl
@[simp] theorem State.modJsl_comp : (s.modJsl p f).comp = s.comp := rfl
end modJsl

section setMon
variable (s : State) (a : Nat) (m : Option AxisMon)
@[simp] theorem State.setMon_chip : (s.setMon a m).chip = s.chip := rfl
@[simp] theorem State.setMon_mtn : (s.setMon a m).mtn = s.mtn := rfl
@[simp] theorem State.setMon_pending : (s.setMon a m).pending = s.pending := rfl
@[simp] theorem State.setMon_freeCtr : (s.setMon a m).freeCtr = s.freeCtr := rfl
@[simp] theorem State.setMon_pages : (s.setMon a m).pages = s.pages := rfl
@[simp] theorem State.setMon_regs : (s.setMon a m).regs = s.regs := rfl
@[simp] theorem State.setMon_mem : (s.setMon a m).mem = s.mem := rfl
@[simp] theorem State.setMon_sram : (s.setMon a m).sram = s.sram := rfl
@[simp] theorem State.setMon_tempo : (s.setMon a m).tempo = s.tempo := rfl
@[simp] theorem State.setMon_hrs : (s.setMon a m).hrs = s.hrs := rfl
@[simp] theorem State.setMon_cues : (s.setMon a m).cues = s.cues := rfl
@[simp] theorem State.setMon_excused : (s.setMon a m).excused = s.excused := rfl
@[simp] theorem State.setMon_dma : (s.setMon a m).dma = s.dma := rfl
@[simp] theorem State.setMon_tiles : (s.setMon a m).tiles = s.tiles := rfl
@[simp] theorem State.setMon_notes : (s.setMon a m).notes = s.notes := rfl
@[simp] theorem State.setMon_out : (s.setMon a m).out = s.out := rfl
@[simp] theorem State.setMon_msix : (s.setMon a m).msix = s.msix := rfl
@[simp] theorem State.setMon_lvl : (s.setMon a m).lvl = s.lvl := rfl
@[simp] theorem State.setMon_cams : (s.setMon a m).cams = s.cams := rfl
@[simp] theorem State.setMon_dpp : (s.setMon a m).dpp = s.dpp := rfl
@[simp] theorem State.setMon_banks : (s.setMon a m).banks = s.banks := rfl
@[simp] theorem State.setMon_codec : (s.setMon a m).codec = s.codec := rfl
@[simp] theorem State.setMon_kv : (s.setMon a m).kv = s.kv := rfl
@[simp] theorem State.setMon_ports : (s.setMon a m).ports = s.ports := rfl
@[simp] theorem State.setMon_calibs : (s.setMon a m).calibs = s.calibs := rfl
@[simp] theorem State.setMon_trackers : (s.setMon a m).trackers = s.trackers := rfl
@[simp] theorem State.setMon_jsls : (s.setMon a m).jsls = s.jsls := rfl
@[simp] theorem State.setMon_loops : (s.setMon a m).loops = s.loops := rfl
@[simp] theorem State.setMon_hm : (s.setMon a m).hm = s.hm := rfl
@[simp] theorem State.setMon_safein : (s.setMon a m).safein = s.safein := rfl
@[simp] theorem State.setMon_boot : (s.setMon a m).boot = s.boot := rfl
@[simp] theorem State.setMon_dyn : (s.setMon a m).dyn = s.dyn := rfl
@[simp] theorem State.setMon_macs : (s.setMon a m).macs = s.macs := rfl
@[simp] theorem State.setMon_comp : (s.setMon a m).comp = s.comp := rfl
end setMon

section setRuleRun
variable (s : State) (i : Nat) (x : RuleRun)
@[simp] theorem State.setRuleRun_chip : (s.setRuleRun i x).chip = s.chip := rfl
@[simp] theorem State.setRuleRun_mtn : (s.setRuleRun i x).mtn = s.mtn := rfl
@[simp] theorem State.setRuleRun_pending : (s.setRuleRun i x).pending = s.pending := rfl
@[simp] theorem State.setRuleRun_freeCtr : (s.setRuleRun i x).freeCtr = s.freeCtr := rfl
@[simp] theorem State.setRuleRun_pages : (s.setRuleRun i x).pages = s.pages := rfl
@[simp] theorem State.setRuleRun_regs : (s.setRuleRun i x).regs = s.regs := rfl
@[simp] theorem State.setRuleRun_mem : (s.setRuleRun i x).mem = s.mem := rfl
@[simp] theorem State.setRuleRun_sram : (s.setRuleRun i x).sram = s.sram := rfl
@[simp] theorem State.setRuleRun_tempo : (s.setRuleRun i x).tempo = s.tempo := rfl
@[simp] theorem State.setRuleRun_hrs : (s.setRuleRun i x).hrs = s.hrs := rfl
@[simp] theorem State.setRuleRun_cues : (s.setRuleRun i x).cues = s.cues := rfl
@[simp] theorem State.setRuleRun_excused : (s.setRuleRun i x).excused = s.excused := rfl
@[simp] theorem State.setRuleRun_dma : (s.setRuleRun i x).dma = s.dma := rfl
@[simp] theorem State.setRuleRun_tiles : (s.setRuleRun i x).tiles = s.tiles := rfl
@[simp] theorem State.setRuleRun_notes : (s.setRuleRun i x).notes = s.notes := rfl
@[simp] theorem State.setRuleRun_out : (s.setRuleRun i x).out = s.out := rfl
@[simp] theorem State.setRuleRun_msix : (s.setRuleRun i x).msix = s.msix := rfl
@[simp] theorem State.setRuleRun_lvl : (s.setRuleRun i x).lvl = s.lvl := rfl
@[simp] theorem State.setRuleRun_cams : (s.setRuleRun i x).cams = s.cams := rfl
@[simp] theorem State.setRuleRun_dpp : (s.setRuleRun i x).dpp = s.dpp := rfl
@[simp] theorem State.setRuleRun_banks : (s.setRuleRun i x).banks = s.banks := rfl
@[simp] theorem State.setRuleRun_codec : (s.setRuleRun i x).codec = s.codec := rfl
@[simp] theorem State.setRuleRun_kv : (s.setRuleRun i x).kv = s.kv := rfl
@[simp] theorem State.setRuleRun_ports : (s.setRuleRun i x).ports = s.ports := rfl
@[simp] theorem State.setRuleRun_calibs : (s.setRuleRun i x).calibs = s.calibs := rfl
@[simp] theorem State.setRuleRun_trackers : (s.setRuleRun i x).trackers = s.trackers := rfl
@[simp] theorem State.setRuleRun_jsls : (s.setRuleRun i x).jsls = s.jsls := rfl
@[simp] theorem State.setRuleRun_loops : (s.setRuleRun i x).loops = s.loops := rfl
@[simp] theorem State.setRuleRun_hm : (s.setRuleRun i x).hm = s.hm := rfl
@[simp] theorem State.setRuleRun_safein : (s.setRuleRun i x).safein = s.safein := rfl
@[simp] theorem State.setRuleRun_boot : (s.setRuleRun i x).boot = s.boot := rfl
@[simp] theorem State.setRuleRun_dyn : (s.setRuleRun i x).dyn = s.dyn := rfl
@[simp] theorem State.setRuleRun_macs : (s.setRuleRun i x).macs = s.macs := rfl
@[simp] theorem State.setRuleRun_comp : (s.setRuleRun i x).comp = s.comp := rfl
end setRuleRun

/-! ## What an update of one unit writes -/

section units
variable (s : State) (n m : Nat)
@[simp] theorem State.hr_modHr_same (f : Hr → Hr) : (s.modHr n f).hr n = f (s.hr n) := by
  simp [State.modHr]
theorem State.hr_modHr_ne (f : Hr → Hr) (h : m ≠ n) : (s.modHr n f).hr m = s.hr m := tabGet_tabSet_ne _ _ _ _ h
@[simp] theorem State.tile_modTile_same (f : Tile → Tile) : (s.modTile n f).tile n = f (s.tile n) := by
  simp [State.modTile]
theorem State.tile_modTile_ne (f : Tile → Tile) (h : m ≠ n) : (s.modTile n f).tile m = s.tile m := tabGet_tabSet_ne _ _ _ _ h
@[simp] theorem State.trk_modTrk_same (f : Tracker → Tracker) : (s.modTrk n f).trk n = f (s.trk n) := by
  simp [State.modTrk]
theorem State.trk_setTrk_ne (x : Tracker) (h : m ≠ n) : (s.setTrk n x).trk m = s.trk m := tabGet_tabSet_ne _ _ _ _ h
theorem State.trk_modTrk_ne (f : Tracker → Tracker) (h : m ≠ n) : (s.modTrk n f).trk m = s.trk m := tabGet_tabSet_ne _ _ _ _ h
@[simp] theorem State.cam_modCam_same (f : Cam → Cam) : (s.modCam n f).cam n = f (s.cam n) := by
  simp [State.modCam]
theorem State.cam_setCam_ne (x : Cam) (h : m ≠ n) : (s.setCam n x).cam m = s.cam m := tabGet_tabSet_ne _ _ _ _ h
theorem State.cam_modCam_ne (f : Cam → Cam) (h : m ≠ n) : (s.modCam n f).cam m = s.cam m := tabGet_tabSet_ne _ _ _ _ h
@[simp] theorem State.port_modPort_same (f : Port → Port) : (s.modPort n f).port n = f (s.port n) := by
  simp [State.modPort]
theorem State.port_setPort_ne (x : Port) (h : m ≠ n) : (s.setPort n x).port m = s.port m := tabGet_tabSet_ne _ _ _ _ h
theorem State.port_modPort_ne (f : Port → Port) (h : m ≠ n) : (s.modPort n f).port m = s.port m := tabGet_tabSet_ne _ _ _ _ h
@[simp] theorem State.axis_modAxis_same (f : LoopAxis → LoopAxis) : (s.modAxis n f).axis n = f (s.axis n) := by
  simp [State.modAxis]
theorem State.axis_setAxis_ne (x : LoopAxis) (h : m ≠ n) : (s.setAxis n x).axis m = s.axis m := tabGet_tabSet_ne _ _ _ _ h
theorem State.axis_modAxis_ne (f : LoopAxis → LoopAxis) (h : m ≠ n) : (s.modAxis n f).axis m = s.axis m := tabGet_tabSet_ne _ _ _ _ h
@[simp] theorem State.jslPort_modJsl_same (f : JslPort → JslPort) : (s.modJsl n f).jslPort n = f (s.jslPort n) := by
  simp [State.modJsl]
theorem State.jslPort_setJsl_ne (x : JslPort) (h : m ≠ n) : (s.setJsl n x).jslPort m = s.jslPort m := tabGet_tabSet_ne _ _ _ _ h
theorem State.jslPort_modJsl_ne (f : JslPort → JslPort) (h : m ≠ n) : (s.modJsl n f).jslPort m = s.jslPort m := tabGet_tabSet_ne _ _ _ _ h
end units

end Sys2Proof.Machine
end

