-- ==== Sys2Proof/Tests/Slice0.lean ====
section
/-!
SUPPORT. Tests: what the checks of WellFormed refuse, values the spec writes out, and for every statement with hypotheses a state
and operands that meet them.
-/

namespace Sys2Proof.Tests

open Sys2Proof Sys2Proof.Machine

section

set_option Elab.async false

/-! ## WellFormed refuses -/

theorem test_wf_no_such_page : (Instr.nop (.core 0) ⟨.tile, 32⟩ 0).wellFormed = false := by decide
theorem test_wf_page : (Instr.nop (.core 0) ⟨.tile, 31⟩ 0).wellFormed = true := by decide
theorem test_wf_write_of_no_bytes : (Instr.registerWrite (.core 0) 0x100040 0 5).wellFormed = false := by decide
theorem test_wf_write_too_long : (Instr.registerWrite (.core 0) 0x100040 4097 5).wellFormed = false := by decide
theorem test_wf_defined_code : (Instr.unknownCommand (.core 0) tempoP 0x10 0).wellFormed = false := by decide
theorem test_wf_part_index : (Instr.budgetExpiry 1 1024 0).wellFormed = false := by decide
theorem test_wf_replaced_part : (Instr.deadlineExpiry 1 2000).wellFormed = true := by decide
theorem test_wf_no_host_data : (Instr.hostSramAccess none 0 true []).wellFormed = false := by decide
theorem test_wf_codes : (Instr.adcSample 0 (List.replicate 23 0) 0).wellFormed = false := by decide
theorem test_wf_long_safety_frame : (Instr.cansCommand 1 (List.replicate 65 0)).wellFormed = false := by decide
theorem test_wf_long_body_pdu : (Instr.bodyPdu 1 (List.replicate 65 0)).wellFormed = false := by decide
theorem test_wf_can_length : (Instr.canFrameReceive 0 ⟨1, false, false, false, 2, false, false, [1]⟩ 0).wellFormed = false := by decide
theorem test_wf_can_identifier : (Instr.canFrameReceive 0 ⟨2048, false, false, false, 0, false, false, []⟩ 0).wellFormed = false := by decide
theorem test_wf_remote_fd : (Instr.canFrameReceive 0 ⟨1, false, true, true, 0, false, false, []⟩ 0).wellFormed = false := by decide

/-! ## Values the spec writes out -/

/-- The next state of a command, which always has one. -/
def after (c : Instr) (s : State) : State :=
  match exec c s with
  | .next t => t
  | _ => s

/-- The word a requester reads. -/
def readWord (a : Word) (s : State) : Nat := leNat (after (.latchingRead (.core 0) ⟨a, 4⟩) s).out.readData

def booted : State := { State.reset with lvl := { State.reset.lvl with published := true } }

/-- Worked example 3.1: the first words of the Roll Book and of the grade descriptor of an S2X-E-B0. -/
theorem test_roll_book : readWord 0 booted = 0x4B424C52 ∧ readWord 0x40 booted = 0x02037140 := by decide +kernel

/-- Worked example 3.2: PAGE_ID and PAGE_CAPS of LOOP instance 9. -/
theorem test_loop_page : readWord 0x409000 .reset = 0x00100901 ∧ readWord 0x409004 .reset = 0xF0070000 := by decide +kernel

/-- PAGE_CAPS of the CUE, TILE, SECTION and CODEC pages (chapters 4, 6 and 9). -/
theorem test_page_caps : readWord 0x200004 .reset = 0x20030000 ∧ readWord 0x300004 .reset = 0x300A0000 ∧
    readWord 0x320004 .reset = 0x00050000 ∧ readWord 0x370004 .reset = 0x10050000 := by decide +kernel

/-- Worked example 5.1: ENABLE of DMA channel 6 in IDLE, with the first sequence number. -/
theorem test_enable : ((after (.enable (.core 0) (dmaP 6) 0)
    ((State.reset.toState (dmaP 6) .idle).setRegN (dmaP 6) 0x040 0x04000000)).page (dmaP 6)).result = 0x21020001 := by decide +kernel

/-- The check value of CRC-32 for "123456789" (IEEE 802.3). -/
theorem test_crc32 : crc32 [0x31, 0x32, 0x33, 0x34, 0x35, 0x36, 0x37, 0x38, 0x39] = 0xCBF43926 := by decide +kernel

/-- FIPS 180-4: the hash of "abc". -/
theorem test_sha256 : beNat ((sha256 [0x61, 0x62, 0x63]).take 8) = 0xBA7816BF8F01CFEA := by decide +kernel

/-- The functions of R197 at 1, as FP32: e, its square root by halves, tanh 1 (mathematical constants). -/
theorem test_fn_table :
    (fnValue .exp false 1 0).map (fF32.encode false) = some 0x402DF854 ∧
    (fnValue .exp false 1 (-1)).map (fF32.encode false) = some 0x3FD3094C ∧
    (fnValue .tanh false 1 0).map (fF32.encode false) = some 0x3F42F7D6 ∧
    (fnValue .rsqrt false 1 1).map (fF32.encode false) = some 0x3F3504F3 := by decide +kernel

/-- A step on an empty queue idles; a step takes the front command and leaves the rest. -/
theorem test_step_idles : step State.reset = .next State.reset := rfl

/-- STOP of a LOOP page before it runs: DONE and IDLE (Table 3-3). -/
theorem test_stop_in_armed :
    (after (.stop (.core 0) (loopP 3) 0) (State.reset.toState (loopP 3) .armed)).pageState (loopP 3) = .idle := by decide +kernel

/-! ## States that meet the hypotheses of the statements -/

theorem okOf {α β : Type} [DecidableEq β] (x : Except α β) (c : β) (h : (x.toOption == some c) = true) : x = .ok c := by
  cases x <;> simp_all [Except.toOption]
theorem erOf {α β : Type} [DecidableEq α] (x : Except α β) (e : α) (h : (match x with
  | .error d => decide (d = e)
  | .ok _ => false) = true) : x = .error e := by
  cases x <;> simp_all
def core0 : Requester := .core 0
def b0 : State := .reset
def bTempo : State := (b0.toState tempoP .running).modTempo fun t => { t with ticks := true }
def bCmd (code : Nat) (st : PageState) : PendCmd := ⟨code, 1, st, 0⟩
def bPend (p : PageRef) (code : Nat) (s : State) : State := s.modPage p fun g => { g with pending := some (bCmd code g.state) }
def bChange : TempoChange := ⟨50000, 10, 64, 0, false⟩
def bChecked : State := bTempo.modTempo fun t => { t with change := some bChange }
def bBadChange : State := (bPend tempoP 0x10 bTempo).modTempo fun t => { t with change := some ⟨50000, 10, 1, 0, false⟩ }
def bResume : State := (((b0.toState tempoP .armed).setActive 50000 20 4 1000000 0).modTempo fun t => { t with resumeAfter := some 5000000 })
def bPulse : State := (bTempo.modTempo fun t => { t with nextK := 21 }).setReg64 tempoP 0x068 1000
def bJsl : State := bPulse.modJsl 3 fun x => { x with ready := [(2, [1, 2, 3, 4, 5], 777)] }
def bStopping : State := bPulse.modTempo fun t => { t with stopping := true }
def bBeat : State := bTempo.modTempo fun t => { t with nextK := 20 }
def bHold : State := b0.setRegN tempoP 0x080 2
def bFsync : State := (bTempo.modTempo fun t => { t with fsyncBar := [(11, 5000)], fsync := [(11, 9000)] }).setReg tempoP 0x12C 1
def bPart : Part := { parsePart [] with level := 1, every := 1, budget := 100, deadline := 1000, tiles := 1, group := [0] }
def bApply : State := (bPend tempoP 0x10 bTempo).modTempo fun t => { t with change := some ⟨25000, 20, 32, 0, true⟩, nextK := 1280 }
def bWithScore : State := bTempo.modHr 3 fun r => { r with pendingScore := some ⟨5, 0, 4, 0, [bPart]⟩, replaced := some [[0]] }
theorem wit_StepRunsTheFrontCommand :
    (∃ (c : Instr) (rest : List Instr) (s : State), s.pending = c :: rest) ∧
    (∃ (s : State), s.pending = []) :=
  ⟨⟨.pulseBoundary, [], { b0 with pending := [.pulseBoundary] }, by decide +kernel⟩,
   ⟨b0, by decide +kernel⟩⟩

theorem wit_TempoCommandsTakeEffect :
    (∃ (r : Requester) (arg : BitVec 24) (s : State), s.commands r tempoP = true ∧ s.ticking = true ∧ tempoInRange (s.regN tempoP 0x040) (s.regF tempoP 0x044 7 0) (s.regF tempoP 0x048 8 0) = true ∧ ((s.regN tempoP 0x040 = s.tPulse ∨ s.anyTorque = false))) ∧
    (∃ (r : Requester) (arg : BitVec 24) (s : State), s.commands r tempoP = true ∧ s.pageState tempoP = .idle ∧ 0 ≤ sext 64 (s.reg64 tempoP 0x084)) ∧
    (∃ (r : Requester) (arg : BitVec 24) (s : State), s.commands r tempoP = true ∧ s.pageState tempoP = .idle ∧ sext 64 (s.reg64 tempoP 0x084) < 0) ∧
    (∃ (c : TempoChange) (s : State), s.tempo.change = some c ∧ c.checked = false ∧ s.changeFails c = none) ∧
    (∃ (c : TempoChange) (d : PendCmd) (code : Nat) (detail : Nat) (s : State), s.tempo.change = some c ∧ c.checked = false ∧ s.changeFails c = some (code, detail) ∧ (s.page tempoP).pending = some d) :=
  ⟨⟨core0, 0, bTempo, by decide +kernel⟩,
   ⟨core0, 0, b0.setRegN tempoP 0x084 5, by decide +kernel⟩,
   ⟨core0, 0, (b0.setRegN tempoP 0x084 5).setRegN tempoP 0x088 0x80000000, by decide +kernel⟩,
   ⟨bChange, bChecked, by decide +kernel⟩,
   ⟨⟨50000, 10, 1, 0, false⟩, bCmd 0x10 .running, 6, 0, (bBadChange.setReg tempoP 0x100 0xFFFFFF00), by decide +kernel⟩⟩

theorem wit_TempoSlewSaturates :
    (∃ (r : Requester) (v : Word) (s : State), s.writes r tempoP 0x07C = true) :=
  ⟨core0, 0x7FFFFFFF, b0, by decide +kernel⟩

theorem wit_EpochStartsTicks :
    (∃ (s : State), s.pageState tempoP = .armed ∧ s.tempo.resumeAfter = none) ∧
    (∃ (w : Nat) (j : Nat) (s : State), s.pageState tempoP = .armed ∧ s.tempo.resumeAfter = some w ∧ 0 < s.tBar ∧ s.epoch ≤ w + 100000 ∧ j = (w + 100000 - s.epoch + s.tBar - 1) / s.tBar) :=
  ⟨⟨b0.toState tempoP .armed, by decide +kernel⟩,
   ⟨5000000, 2, bResume, by decide +kernel⟩⟩

theorem wit_PulsesFall :
    (∃ (s : State), s.tickFalls = true ∧ (s.onBeat && !s.tempo.beatDone) = false ∧ s.tempo.stopping = false) ∧
    (∃ (k : Fin 8) (a : Fin 4) (bs : List Byte) (stamp : Nat) (s : State), s.tickFalls = true ∧ (s.onBeat && !s.tempo.beatDone) = false ∧ (s.jslPort k.val).ready = [(a.val, bs, stamp)]) ∧
    (∃ (s : State), s.tickFalls = true ∧ (s.onBeat && !s.tempo.beatDone) = false ∧ s.tempo.stopping = true ∧ ((∀ n, n < 16 → s.inState (loopP n) activeStates = false))) :=
  ⟨⟨bPulse, by decide +kernel⟩,
   ⟨3, 2, [1, 2, 3, 4, 5], 777, bJsl, by decide +kernel⟩,
   ⟨bStopping, by decide +kernel⟩⟩

theorem wit_BeatsAndBarsFall :
    (∃ (c : Instr) (s : State), s.tickFalls = true ∧ s.tempo.beatDone = false ∧ ((c = .beatBoundary ∧ s.onBeat = true ∧ s.onBar = false) ∨ (c = .barBoundary ∧ s.onBar = true)) ∧ s.cueFaulted 1 = false) ∧
    (∃ (c : Instr) (s : State), s.tickFalls = true ∧ s.tempo.beatDone = false ∧ ((c = .beatBoundary ∧ s.onBeat = true ∧ s.onBar = false) ∨ (c = .barBoundary ∧ s.onBar = true)) ∧ s.cueFaulted 1 = false) ∧
    (∃ (c : TempoChange) (s : State), s.tickFalls = true ∧ s.tempo.beatDone = false ∧ s.onBar = true ∧ s.tempo.change = some c ∧ c.checked = true ∧ c.acceptedAt + 3 * s.tBeat ≤ now (advanceTo (s.epoch + s.tempo.nextK * s.tPulse) s) ∧ ((c.pulse = s.tPulse ∨ s.anyTorque = false))) ∧
    (∃ (h : Fin 8) (s : State), s.tickFalls = true ∧ s.tempo.beatDone = false ∧ s.onBar = true) :=
  ⟨⟨.beatBoundary, bBeat, by decide +kernel⟩,
   ⟨.barBoundary, bTempo, by decide +kernel⟩,
   ⟨⟨25000, 20, 32, 0, true⟩, bApply, by decide +kernel⟩,
   ⟨3, bWithScore, by decide +kernel⟩⟩

theorem wit_ClockFaultsAreTaken :
    (∃ (s : State), s.ticking = true ∧ s.proctorOn = true) ∧
    (∃ (s : State), s.regF tempoP 0x080 1 0 = 2) :=
  ⟨⟨bTempo.setRegF procP 0x040 10 8 1, by decide +kernel⟩,
   ⟨bHold, by decide +kernel⟩⟩

theorem wit_FsyncFollowsItsPlan :
    (∃ (n : Fin 12) (e : Nat × Nat) (s : State), (s.tempo.fsyncBar.find? fun x => decide (x.1 = n.val)) = some e ∧ s.ticking = true ∧ bit (s.reg tempoP (0x100 + 4 * n.val)) 0 = true) ∧
    (∃ (n : Fin 12) (e : Nat × Nat) (s : State), s.tempo.fsync = [(n.val, e.2)]) ∧
    (∃ (n : Fin 12) (e : Nat × Nat) (s : State), (s.tempo.fsync.find? fun x => decide (x.1 = n.val)) = some e) :=
  ⟨⟨11, (11, 5000), bFsync, by decide +kernel⟩,
   ⟨11, (11, 9000), bFsync, by decide +kernel⟩,
   ⟨11, (11, 9000), bFsync, by decide +kernel⟩⟩

def bAct : Activation := { release := 0, deadline := 1000, skipping := false, stopping := false, onTiles := false, saved := none, ended := [], number := 0, faultAt := none }
def bScoreOf (p : Part) : Score := ⟨0, 0x10, 4, 0, [p]⟩
def bWith (p : Part) : State := ((b0.toState tempoP .running).toState (hrP 0) .running).modHr 0 fun r => { r with score := some (bScoreOf p) }
def bTrigger : Part := { bPart with trigEn := true, trigCue := 256, trigCount := 1, held := true, lastRelease := some 7 }
def bMet : State := (bWith bTrigger).setCueCount 0 256 2
def bActive : Part := { bPart with act := some bAct }
def bSkip : Part := { bPart with act := some { bAct with skipping := true } }
def bOwn (p : PageRef) (h : Nat) (s : State) : State := s.modPage p fun g => { g with owner := h }
def crcPut (o : Nat) (bs : List Byte) : List Byte := bs.take o ++ leBytes 4 (crc32 (bs.take o ++ leBytes 4 0 ++ bs.drop (o + 4))).toNat ++ bs.drop (o + 4)
def wordsOf (ws : List Nat) : List Byte := ws.flatMap (leBytes 4)
def bImage : List Byte := crcPut 0x7C (wordsOf [0x54524150, 0x10001, 128, 3, 0, 0, 0, 0, 0, 256] ++ List.replicate 88 0)
def bDesc : List Byte := wordsOf [0x101, 100, 1000, 0, 1, 0, 0, 0, 0, 0x2000400, 0, 7] ++ List.replicate 16 0
def bHead : List Byte :=
  let h := wordsOf [0x524F4353, 0x10001, 0x4000004, 0, 0] ++ List.replicate 40 0
  h ++ leBytes 4 (crc32 (h.take 16 ++ bDesc)).toNat
def put (a : Nat) (bs : List Byte) (s : State) : State := s.storeBytes a bs false engineSrc 0
def bScore : State := put 0x2000400 bImage (put 0x2000000 (bHead ++ bDesc) (b0.toState (hrP 0) .idle))
def bAdmitting (s : State) : State := bPend (hrP 0) 0x10 (s.modHr 0 fun q => { q with admitting := some 0 })
def bAdmitted : Score := match bScore.admitScore 0 0 with
  | .ok c => c
  | _ => ⟨0, 0, 0, 0, []⟩
def bNoScore : State := bAdmitting (b0.toState (hrP 0) .idle)
def bTile1 : State := bOwn (tileP 0) 1 ((b0.setReg (hrP 0) 0x040 0xFFFFFFFE).setReg (hrP 1) 0x040 1)
def bErr : State := b0.modPage (loopP 2) fun g => { g with refusals := 3, syndrome := 0x10002 }
def bLatched : State := { b0 with tempo := { b0.tempo with latched := [(latchCode core0, regKey tempoP 0x064, 77)] } }
def bPage (p : PageRef) (st : PageState) : State := (b0.toState p st).modPage p fun g => { g with cfgCrc := (b0.toState p st).liveCrc p }
def bIrq : State := b0.modPage procP fun g => { g with pend := 7 }
def bPstage : State := bPend (pstageP 2) 0x10 (b0.toState (pstageP 2) .idle)
def bQuiesce : State := (b0.toState (hrP 1) .running).modPage (hrP 1) fun g => { g with quiesces := [bCmd 3 .running] }
def bSmall : State := { b0 with chip := { b0.chip with grade := .s1 } }
theorem wit_TimedEventsOfActivations :
    (∃ (h : Fin 8) (i : Nat) (u : Nat) (p : Part) (s : State), s.part? h.val i = some p ∧ p.held = true ∧ p.lastRelease = some u ∧ ((p.trigEn = false ∨ p.withdrawn = true ∨ s.releasing h.val = false ∨ s.cueCount h.val p.trigCue < p.trigCount))) ∧
    (∃ (h : Fin 8) (i : Nat) (u : Nat) (p : Part) (s : State), i < oldBase ∧ s.part? h.val i = some p ∧ p.held = true ∧ p.lastRelease = some u ∧ p.trigEn = true ∧ p.withdrawn = false ∧ s.releasing h.val = true ∧ p.trigCount ≤ s.cueCount h.val p.trigCue ∧ p.skipNext = false ∧ p.unfit = false ∧ p.throttled = false ∧ s.groupLost p = false ∧ ((s.proc.react ≠ 2 ∨ p.tiles = 0)) ∧ u + (s.period p + 1) / 2 < 2 ^ 64) ∧
    (∃ (d : Instr) (h : Fin 8) (i : Nat) (cause : Nat) (tm : Nat) (x : Dword) (p : Part) (c : Score) (a : Activation) (s : State), s.liveAct h.val i = some a ∧ s.part? h.val i = some p ∧ s.scoreOf h.val i = some c ∧ s.lateRoom h.val c ∧ p.late ≠ 1 ∧ ((d = .deadlineExpiry h i ∧ tm = a.deadline ∧ cause = 1) ∨ (d = .budgetExpiry h i x ∧ tm = x.toNat ∧ cause = 2))) ∧
    (∃ (d : Instr) (h : Fin 8) (i : Nat) (cause : Nat) (tm : Nat) (x : Dword) (p : Part) (c : Score) (a : Activation) (s : State), s.liveAct h.val i = some a ∧ s.part? h.val i = some p ∧ s.scoreOf h.val i = some c ∧ s.lateRoom h.val c ∧ p.late ≠ 1 ∧ ((d = .deadlineExpiry h i ∧ tm = a.deadline ∧ cause = 1) ∨ (d = .budgetExpiry h i x ∧ tm = x.toNat ∧ cause = 2))) ∧
    (∃ (d : Instr) (h : Fin 8) (i : Nat) (cause : Nat) (tm : Nat) (x : Dword) (p : Part) (c : Score) (a : Activation) (s : State), s.liveAct h.val i = some a ∧ s.part? h.val i = some p ∧ s.scoreOf h.val i = some c ∧ s.lateRoom h.val c ∧ p.late = 1 ∧ ((d = .deadlineExpiry h i ∧ tm = a.deadline ∧ cause = 1) ∨ (d = .budgetExpiry h i x ∧ tm = x.toNat ∧ cause = 2))) ∧
    (∃ (h : Fin 8) (i : Nat) (p : Part) (c : Score) (a : Activation) (s : State), s.part? h.val i = some p ∧ s.scoreOf h.val i = some c ∧ s.lateRoom h.val c ∧ p.act = some a ∧ a.skipping = true ∧ a.stopping = false) ∧
    (∃ (h : Fin 8) (i : Nat) (p : Part) (c : Score) (s : State), s.part? h.val i = some p ∧ s.scoreOf h.val i = some c ∧ s.lateRoom h.val c ∧ p.trigEn = true ∧ s.releasing h.val = true ∧ p.withdrawn = false) :=
  ⟨⟨0, 0, 7, bTrigger, bWith bTrigger, by decide +kernel⟩,
   ⟨0, 0, 7, bTrigger, bMet, by decide +kernel⟩,
   ⟨.deadlineExpiry 0 0, 0, 0, 1, 1000, 0, bActive, bScoreOf bActive, bAct, bWith bActive, by decide +kernel⟩,
   ⟨.budgetExpiry 0 0 50, 0, 0, 2, 50, 50, { bActive with late := 3, safety := true }, bScoreOf { bActive with late := 3, safety := true }, bAct, bWith { bActive with late := 3, safety := true }, by decide +kernel⟩,
   ⟨.deadlineExpiry 0 0, 0, 0, 1, 1000, 0, { bActive with late := 1 }, bScoreOf { bActive with late := 1 }, bAct, bWith { bActive with late := 1 }, by decide +kernel⟩,
   ⟨0, 0, bSkip, bScoreOf bSkip, { bAct with skipping := true }, bWith bSkip, by decide +kernel⟩,
   ⟨0, 0, bTrigger, bScoreOf bTrigger, bWith bTrigger, by decide +kernel⟩⟩

theorem wit_ScoresAreAdmitted :
    (∃ (r : Requester) (h : Fin 8) (arg : BitVec 24) (s : State), s.commands r (hrP h.val) = true ∧ s.inState (hrP h.val) [.idle, .armed, .running, .hold] = true) ∧
    (∃ (r : Requester) (h : Fin 8) (arg : BitVec 24) (s : State), s.commands r (hrP h.val) = true ∧ s.inState (hrP h.val) [.off, .fault, .excused, .locked] = true) ∧
    (∃ (h : Fin 8) (off : Nat) (c : PendCmd) (sc : Score) (s : State), (s.hr h.val).admitting = some off ∧ (s.page (hrP h.val)).pending = some c ∧ s.sram.errs = [] ∧ s.sram.condemned = [] ∧ s.admitScore h.val off = .ok sc) ∧
    (∃ (h : Fin 8) (off : Nat) (why : Nat) (i : Nat) (c : PendCmd) (s : State), (s.hr h.val).admitting = some off ∧ (s.page (hrP h.val)).pending = some c ∧ s.sram.errs = [] ∧ s.sram.condemned = [] ∧ s.admitScore h.val off = .error (why, i)) ∧
    (∃ (h : Fin 8) (c : Score) (s : State), s.score h.val = some c ∧ (s.hr h.val).readmit = true) ∧
    (∃ (h : Fin 8) (s : State), s.score h.val = none ∧ (s.hr h.val).readmit = true) :=
  ⟨⟨core0, 0, 0, bScore, by decide +kernel⟩,
   ⟨core0, 0, 0, b0.toState (hrP 0) .fault, by decide +kernel⟩,
   ⟨0, 0, bCmd 0x10 .idle, bAdmitted, bAdmitting bScore, by decide +kernel, by decide +kernel, by decide +kernel, by decide +kernel, okOf _ _ (by decide +kernel)⟩,
   ⟨0, 0, 1, 0, bCmd 0x10 .idle, bNoScore, by decide +kernel, by decide +kernel, by decide +kernel, by decide +kernel, erOf _ _ (by decide +kernel)⟩,
   ⟨0, bScoreOf bActive, (bWith bActive).modHr 0 fun r => { r with readmit := true }, by decide +kernel⟩,
   ⟨1, b0.modHr 1 fun r => { r with readmit := true }, by decide +kernel⟩⟩

theorem wit_PageReadsAnswer :
    (∃ (c : Instr) (r : Requester) (p : PageRef) (off : Nat) (h : Nat) (addr : Word) (d : RegDef) (s : State), (c = .latchingRead r ⟨addr, 4⟩ ∨ c = .rcRegisterRead r ⟨addr, 4⟩) ∧ addr.toNat % 4 = 0 ∧ 0x10000 ≤ addr.toNat ∧ pageAt s.chip.grade addr.toNat = some (p, off) ∧ s.requesterHr r = some h ∧ ((h = (s.page p).owner ∨ h = 0)) ∧ s.inState p [.off, .excused] = false ∧ 0x040 ≤ off ∧ regFind p.ty off = some d ∧ latchCompanion p.ty off = none ∧ copyOp p off = none ∧ ((p.ty = .cue → off < 0xC00)) ∧ ((p.ty = .dynamics → off < 0x060)) ∧ ((∀ e ∈ s.tempo.latched, ¬ (e.1 = latchCode r ∧ e.2.1 = regKey p off)))) ∧
    (∃ (c : Instr) (r : Requester) (p : PageRef) (h : Nat) (addr : Word) (s : State), (c = .latchingRead r ⟨addr, 4⟩ ∨ c = .rcRegisterRead r ⟨addr, 4⟩) ∧ addr.toNat % 4 = 0 ∧ 0x10000 ≤ addr.toNat ∧ pageAt s.chip.grade addr.toNat = some (p, 0x01C) ∧ s.requesterHr r = some h ∧ ((∀ e ∈ s.tempo.latched, ¬ (e.1 = latchCode r ∧ e.2.1 = regKey p 0x01C)))) ∧
    (∃ (r : Requester) (p : PageRef) (off : Nat) (h : Nat) (v : Nat) (addr : Word) (w : Word) (s : State), addr.toNat % 4 = 0 ∧ 0x10000 ≤ addr.toNat ∧ pageAt s.chip.grade addr.toNat = some (p, off) ∧ s.requesterHr r = some h ∧ p.ty ≠ .dynamics ∧ s.tempo.latched = [(latchCode r, regKey p off, w)] ∧ v = w.toNat) ∧
    (∃ (r : Requester) (h : Nat) (s : State), s.requesterHr r = some h ∧ ((h = (s.page tempoP).owner ∨ h = 0)) ∧ s.inState tempoP [.off, .excused] = false ∧ s.tempo.latched = []) :=
  ⟨⟨.latchingRead core0 ⟨0x100058, 4⟩, core0, tempoP, 0x058, 0, 0x100058, ((regFind .tempo 0x058).getD ⟨"", 0, 0, 0, 0, 0, 0, 0⟩), b0, by decide +kernel⟩,
   ⟨.rcRegisterRead core0 ⟨0x40201C, 4⟩, core0, loopP 2, 0, 0x40201C, bErr, by decide +kernel⟩,
   ⟨core0, tempoP, 0x064, 0, 77, 0x100064, 77, bLatched, by decide +kernel⟩,
   ⟨core0, 0, { b0 with mtn := 0x300000005 }, by decide +kernel⟩⟩

theorem wit_OthersReadZero :
    (∃ (r : Requester) (p : PageRef) (off : Nat) (h : Nat) (addr : Word) (s : State), addr.toNat % 4 = 0 ∧ 0x10000 ≤ addr.toNat ∧ pageAt s.chip.grade addr.toNat = some (p, off) ∧ s.requesterHr r = some h ∧ 0x040 ≤ off ∧ h ≠ (s.page p).owner ∧ h ≠ 0 ∧ p.ty ≠ .dynamics ∧ latchCompanion p.ty off = none ∧ ((∀ e ∈ s.tempo.latched, ¬ (e.1 = latchCode r ∧ e.2.1 = regKey p off))) ∧ s.underLimit h) :=
  ⟨.tile 0, tempoP, 0x058, 1, 0x100058, bTile1, by decide +kernel⟩

theorem wit_PlainRegisterWrites :
    (∃ (r : Requester) (p : PageRef) (off : Nat) (v : Dword) (addr : Word) (d : RegDef) (s : State), addr.toNat % 4 = 0 ∧ 0x10000 ≤ addr.toNat ∧ pageAt s.chip.grade addr.toNat = some (p, off) ∧ s.writes r p off = true ∧ p.ty ∈ [PageType.homeroom, .sect, .locker, .camera, .pfe, .kv, .pstage, .jsl, .proctor, .rubric, .hallmon, .image, .identity, .pcie, .compositor] ∧ 0x040 ≤ off ∧ regFind p.ty off = some d ∧ d.rw ≠ 0 ∧ d.w1c = 0 ∧ regAbsent s.chip.grade p off = false ∧ adjustWrite p off (v.setWidth 32) = v.setWidth 32) ∧
    (∃ (r : Requester) (addr : Word) (size : Nat) (h : Nat) (off : Nat) (p : PageRef) (v : Dword) (s : State), s.requesterHr r = some h ∧ pageAt s.chip.grade addr.toNat = some (p, off) ∧ ¬ (size = 4 ∧ addr.toNat % 4 = 0) ∧ ¬ (size = 8 ∧ addr.toNat % 8 = 0)) ∧
    (∃ (r : Requester) (h : Fin 8) (v : Word) (s : State), s.writes r (hrP h.val) 0x04C = true) :=
  ⟨⟨core0, hrP 3, 0x04C, 0x1FFFFFF, 0x10B04C, ((regFind .homeroom 0x04C).getD ⟨"", 0, 0, 0, 0, 0, 0, 0⟩), b0.toState (hrP 3) .idle, by decide +kernel⟩,
   ⟨core0, 0x10B04D, 2, 0, 0x04D, hrP 3, 7, b0, by decide +kernel⟩,
   ⟨core0, 3, 0x1000FFF, b0.toState (hrP 3) .idle, by decide +kernel⟩⟩

theorem wit_InterruptRegisterWrites :
    (∃ (r : Requester) (p : PageRef) (v : Word) (s : State), present s.chip.grade p = true ∧ s.requesterHr r = some (s.page p).owner) ∧
    (∃ (r : Requester) (p : PageRef) (v : Word) (s : State), present s.chip.grade p = true ∧ s.requesterHr r = some (s.page p).owner) :=
  ⟨⟨core0, procP, 6, bIrq, by decide +kernel⟩,
   ⟨core0, procP, 6, bIrq, by decide +kernel⟩⟩

theorem wit_NopAndRefusedArguments :
    (∃ (r : Requester) (p : PageRef) (s : State), s.takes r p 0 = true) ∧
    (∃ (r : Requester) (p : PageRef) (code : BitVec 8) (arg : BitVec 24) (s : State), s.commands r p = true ∧ (Instr.unknownCommand r p code arg).wellFormed = true) ∧
    (∃ (c : Instr) (r : Requester) (p : PageRef) (arg : BitVec 24) (s : State), s.commands r p = true ∧ arg ≠ 0 ∧ (c = .nop r p arg ∨ c = .resetPage r p ⟨arg, true⟩ ∨ c = .resetPage r p ⟨arg, false⟩ ∨ c = .enable r p arg ∨ c = .disable r p arg ∨ c = .quiesce r p arg ∨ c = .stop r p arg)) ∧
    (∃ (c : Instr) (r : Requester) (p : PageRef) (arg : BitVec 24) (k : Fin 8) (n : Fin 16) (s : State), s.commands r p = true ∧ arg ≠ 0 ∧ ((p = imageP ∧ (c = .deviceReset r arg ∨ c = .commitSvn r arg ∨ c = .flashErase r arg ∨ c = .flashWrite r arg ∨ c = .confirm r arg)) ∨ (p = identP ∧ (c = .quote r arg ∨ c = .seatAccept r arg ∨ c = .fleetEnrol r arg)) ∨ (p = dynP ∧ c = .wakeCmd r arg) ∨ (p = pcieP 0 ∧ c = .retrain r 0 arg) ∨ (p = weightP k.val ∧ (c = .buildBegin r k arg ∨ c = .segue r k arg)) ∨ (p = pstageP n.val ∧ c = .testPath r n arg) ∨ (p = jslP k.val ∧ c = .acyc r k arg))) ∧
    (∃ (c : Instr) (r : Requester) (p : PageRef) (arg : BitVec 24) (k : Fin 8) (n : Fin 16) (s : State), s.commands r p = true ∧ arg ≠ 0 ∧ ((p = imageP ∧ (c = .deviceReset r arg ∨ c = .commitSvn r arg ∨ c = .flashErase r arg ∨ c = .flashWrite r arg ∨ c = .confirm r arg)) ∨ (p = identP ∧ (c = .quote r arg ∨ c = .seatAccept r arg ∨ c = .fleetEnrol r arg)) ∨ (p = dynP ∧ c = .wakeCmd r arg) ∨ (p = pcieP 0 ∧ c = .retrain r 0 arg) ∨ (p = weightP k.val ∧ (c = .buildBegin r k arg ∨ c = .segue r k arg)) ∨ (p = pstageP n.val ∧ c = .testPath r n arg) ∨ (p = jslP k.val ∧ c = .acyc r k arg))) :=
  ⟨⟨core0, tempoP, b0, by decide +kernel⟩,
   ⟨core0, tempoP, 0x7F, 5, b0, by decide +kernel⟩,
   ⟨.enable core0 tempoP 0x800000, core0, tempoP, 0x800000, b0, by decide +kernel⟩,
   ⟨.wakeCmd core0 1, core0, dynP, 1, 0, 0, b0, by decide +kernel⟩,
   ⟨.segue core0 7 0x800000, core0, weightP 7, 0x800000, 7, 0, b0, by decide +kernel⟩⟩

theorem wit_UniversalCommandsMovePages :
    (∃ (r : Requester) (p : PageRef) (s : State), s.commands r p = true ∧ p.ty ∈ [PageType.pfe, .angle, .jsl, .eth, .can, .compositor] ∧ s.inState p [.idle, .fault] = true) ∧
    (∃ (r : Requester) (p : PageRef) (s : State), s.commands r p = true ∧ p.ty ∈ [PageType.pfe, .angle, .jsl, .eth, .can, .compositor]) ∧
    (∃ (r : Requester) (p : PageRef) (s : State), s.commands r p = true ∧ p.ty ∈ [PageType.pfe, .jsl, .eth, .can, .compositor] ∧ s.inState p [.armed, .hold] = true) ∧
    (∃ (r : Requester) (p : PageRef) (s : State), s.takes r p 0x0E = true ∧ p.ty ∈ [PageType.codec, .weight, .can]) ∧
    (∃ (r : Requester) (p : PageRef) (s : State), s.takes r p 0x0F = true ∧ p.ty ∈ [PageType.sect, .locker, .adc, .hallmon, .dynamics, .pcie]) ∧
    (∃ (r : Requester) (p : PageRef) (s : State), s.commands r p = true ∧ p.ty ∈ [PageType.dma, .dpp, .codec, .eth, .can] ∧ s.pageState p = .hold) ∧
    (∃ (r : Requester) (p : PageRef) (s : State), s.commands r p = true ∧ p.ty ∈ [PageType.camera, .weight, .jsl, .loop] ∧ s.pageState p = .hold ∧ s.crcMatches p = true) ∧
    (∃ (r : Requester) (c : Fin 8) (s : State), s.commands r (dmaP c.val) = true ∧ s.pageState (dmaP c.val) = .idle ∧ 4 ≤ s.regF (dmaP c.val) 0x040 27 24 ∧ s.regF (dmaP c.val) 0x040 27 24 ≤ 12 ∧ s.inGrant (s.page (dmaP c.val)).owner (64 * s.regF (dmaP c.val) 0x040 23 0) (32 * 2 ^ s.regF (dmaP c.val) 0x040 27 24) = true) ∧
    (∃ (r : Requester) (n : Fin 16) (s : State), s.commands r (pstageP n.val) = true ∧ s.pageState (pstageP n.val) = .idle ∧ s.pstageCfgOk n.val = true ∧ s.pstageTimingOk n.val = true ∧ s.crcMatches (pstageP n.val) = true ∧ s.calib 0 = none ∧ s.calib 1 = none) :=
  ⟨⟨core0, ⟨.can, 3⟩, b0.toState ⟨.can, 3⟩ .fault, by decide +kernel⟩,
   ⟨core0, ⟨.eth, 1⟩, b0.toState ⟨.eth, 1⟩ .idle, by decide +kernel⟩,
   ⟨core0, ⟨.jsl, 7⟩, b0.toState ⟨.jsl, 7⟩ .hold, by decide +kernel⟩,
   ⟨core0, weightP 2, b0.toState (weightP 2) .running, by decide +kernel⟩,
   ⟨core0, ⟨.pcie, 1⟩, b0, by decide +kernel⟩,
   ⟨core0, dmaP 7, b0.toState (dmaP 7) .hold, by decide +kernel⟩,
   ⟨core0, camP 1, bPage (camP 1) .hold, by decide +kernel⟩,
   ⟨core0, 5, (b0.toState (dmaP 5) .idle).setRegN (dmaP 5) 0x040 0x04000000, by decide +kernel⟩,
   ⟨core0, 2, bPage (pstageP 2) .idle, by decide +kernel⟩⟩

theorem wit_EnableChecksTheCrc :
    (∃ (r : Requester) (p : PageRef) (s : State), s.commands r p = true ∧ p.ty ∈ [PageType.camera, .weight, .jsl, .loop] ∧ s.pageState p = .hold ∧ s.crcMatches p = false) :=
  ⟨core0, camP 1, (bPage (camP 1) .hold).modPage (camP 1) fun g => { g with cfgCrc := ~~~g.cfgCrc }, by decide +kernel⟩

theorem wit_AcceptedCommandsComplete :
    (∃ (n : Fin 16) (c : PendCmd) (d : Word) (s : State), (s.page (pstageP n.val)).pending = some c ∧ c.code = 0x10 ∧ d.toNat % 0x800 &&& 0x73F = 0) ∧
    (∃ (n : Fin 16) (c : PendCmd) (d : Word) (s : State), (s.page (pstageP n.val)).pending = some c ∧ c.code = 0x10 ∧ d.toNat % 0x800 &&& 0x73F ≠ 0) ∧
    (∃ (h : Fin 8) (c : PendCmd) (d : Word) (s : State), s.pageState (hrP h.val) = .running ∧ (s.page (hrP h.val)).quiesces = [c] ∧ (s.hr h.val).holdDue = false ∧ s.hrBusy h.val = false) :=
  ⟨⟨2, bCmd 0x10 .idle, 0, bPstage, by decide +kernel⟩,
   ⟨2, bCmd 0x10 .idle, 0x11, bPstage, by decide +kernel⟩,
   ⟨1, bCmd 3 .running, 0, bQuiesce, by decide +kernel⟩⟩

theorem wit_ForeignCommandsAreRefused :
    (∃ (c : Instr) (code : Nat) (r : Requester) (p : PageRef) (h : Nat) (s : State), s.requesterHr r = some h ∧ present s.chip.grade p = true ∧ h ≠ (s.page p).owner ∧ s.underLimit h ∧ ((c = .resetPage r p ⟨0, true⟩ ∧ code = 1) ∨ (c = .resetPage r p ⟨0, false⟩ ∧ code = 1) ∨ (c = .enable r p 0 ∧ code = 2) ∨ (c = .disable r p 0 ∧ code = 3) ∨ (h ≠ 0 ∧ ((c = .nop r p 0 ∧ code = 0) ∨ (c = .quiesce r p 0 ∧ code = 0x0E) ∨ (c = .stop r p 0 ∧ code = 0x0F))))) ∧
    (∃ (c : Instr) (code : Nat) (r : Requester) (p : PageRef) (h : Nat) (s : State), s.requesterHr r = some h ∧ present s.chip.grade p = true ∧ h ≠ (s.page p).owner ∧ s.underLimit h ∧ ((c = .resetPage r p ⟨0, true⟩ ∧ code = 1) ∨ (c = .resetPage r p ⟨0, false⟩ ∧ code = 1) ∨ (c = .enable r p 0 ∧ code = 2) ∨ (c = .disable r p 0 ∧ code = 3) ∨ (h ≠ 0 ∧ ((c = .nop r p 0 ∧ code = 0) ∨ (c = .quiesce r p 0 ∧ code = 0x0E) ∨ (c = .stop r p 0 ∧ code = 0x0F))))) :=
  ⟨⟨.enable (.tile 0) tempoP 0, 2, .tile 0, tempoP, 1, bTile1, by decide +kernel⟩,
   ⟨.disable core0 (loopP 1) 0, 3, core0, loopP 1, 0, bOwn (loopP 1) 1 b0, by decide +kernel⟩⟩

theorem wit_AbsentFsyncPortsReadZero :
    (∃ (r : Requester) (n : Nat) (addr : Word) (s : State), s.chip.grade.cameras ≤ n ∧ n < 12 ∧ addr.toNat = 0x100100 + 4 * n ∧ s.requesterHr r = some (s.page tempoP).owner ∧ ((∀ e ∈ s.tempo.latched, ¬ (e.1 = latchCode r ∧ e.2.1 = regKey tempoP (0x100 + 4 * n))))) ∧
    (∃ (r : Requester) (n : Nat) (addr : Word) (v : Dword) (s : State), s.chip.grade.cameras ≤ n ∧ n < 12 ∧ addr.toNat = 0x100100 + 4 * n ∧ s.requesterHr r = some (s.page tempoP).owner) :=
  ⟨⟨core0, 8, 0x100120, bSmall, by decide +kernel⟩,
   ⟨core0, 8, 0x100120, 7, bSmall, by decide +kernel⟩⟩

theorem wit_RollBookIsOpenAndReadOnly :
    (∃ (r : Requester) (h : Nat) (n : Nat) (addr : Word) (s : State), s.requesterHr r = some h ∧ addr.toNat % 4 = 0 ∧ addr.toNat + 4 * n ≤ 0x10000) ∧
    (∃ (r : Requester) (h : Nat) (addr : Word) (size : Nat) (v : Dword) (s : State), s.requesterHr r = some h ∧ addr.toNat < 0x10000) :=
  ⟨⟨.tile 0, 1, 3, 0x10, bTile1, by decide +kernel⟩,
   ⟨.tile 0, 1, 0x10, 4, 5, bTile1, by decide +kernel⟩⟩

def bHr0 : State := b0.toState (hrP 0) .running
def bStage : State := (bHr0.toState (hrP 2) .idle).setRegN (hrP 0) 0x100 0x30
def bHr2 : State := (((bHr0.toState (hrP 2) .fault).setRegN (hrP 2) 0x050 0x10000).setRegN (hrP 2) 0x040 2).modPage (hrP 0) fun g => { g with pending := some ⟨0x23, 1, .running, 2⟩ }
def bCue (cfg : Nat) (n : Nat) : State := (((b0.toState (cueP 1) .running).setRegN (cueP 1) 0x10C cfg).setCueCount 0 262 n).setRegN (hrP 0) 0x0C8 0x40000
def bWaiter (k : Fin 4) (n : Nat) : Waiter := { cue := 262, hr := 0, who := .core k, n := n, expiry := 5000, slot := 0 }
def bWaiting : State := { bCue 0x8003 2 with cues := { (bCue 0x8003 2).cues with waiters := [bWaiter 1 1] } }
def bTags : State := (b0.toState (tileP 3) .idle).setRegN (tileP 3) 0x0CC 0x41FFC
def bPhase : State := bTags.modTile 3 fun x => { x with wait := .phase 0x24, act := some (0, 0) }
def bDma : State := ((b0.toState (dmaP 2) .running).setRegN (dmaP 2) 0x044 1).setRegN (dmaP 2) 0x040 0x4000008
def bDmaDesc (w : Nat) : State := put 0x2000200 (wordsOf [0x2001000, 0, 0x2002000, 0, w, 1, 0, 0]) bDma
def bDescOf (w : Nat) : DmaJob := parseDesc 0 (wordsOf [0x2001000, 0, 0x2002000, 0, w, 1, 0, 0])
def bJob : DmaJob := { parseDesc 0 (wordsOf [0x0, 1, 0x2002000, 0, 0x10000040, 1, 0, 0]) with hostRows := [(0, some (List.replicate 64 0xA5))] }
def bDmaJob (j : DmaJob) : State := bDma.setChan 2 ⟨some j, false⟩
def bTagJob : DmaJob := parseDesc 0 (wordsOf [0x80, 0, 0x2001000, 0, 0x1000080, 1, 0, 0])
def bBadFlit : List Byte := List.replicate 70 1
def bLocker : State := b0.toState (lockerP 1) .running
def bFlits : State := { bDmaDesc 0x40 with sram := { (bDmaDesc 0x40).sram with flits := [(0x40, false, 0x80000)] } }
theorem wit_ConfigureSetsTheTarget :
    (∃ (r : Requester) (arg : BitVec 24) (k : Nat) (s : State), s.commands r (hrP 0) = true ∧ s.pageState (hrP 0) = .running ∧ k = arg.toNat % 8 ∧ s.configureFails k = none) ∧
    (∃ (r : Requester) (arg : BitVec 24) (k : Nat) (s : State), s.commands r (hrP 0) = true ∧ s.pageState (hrP 0) = .running ∧ k = arg.toNat % 8 ∧ s.configureFails k = none) ∧
    (∃ (r : Requester) (arg : BitVec 24) (c : Nat) (s : State), s.commands r (hrP 0) = true ∧ s.pageState (hrP 0) = .running ∧ s.configureFails (arg.toNat % 8) = some c) :=
  ⟨⟨core0, 2, 2, bStage, by decide +kernel⟩,
   ⟨core0, 0xFFFFFA, 2, bStage, by decide +kernel⟩,
   ⟨core0, 0, 0x20, bHr0, by decide +kernel⟩⟩

theorem wit_PagesAreGrantedAndRevoked :
    (∃ (r : Requester) (arg : BitVec 24) (p : PageRef) (s : State), s.commands r (hrP 0) = true ∧ s.pageState (hrP 0) = .running ∧ s.basePage (arg.toNat / 16 * 0x1000) = some p ∧ s.moveFails p true = none ∧ arg.toNat % 8 ≠ 0 ∧ (s.page (hrP (arg.toNat % 8))).owner = arg.toNat % 8) ∧
    (∃ (r : Requester) (arg : BitVec 24) (p : PageRef) (c : Nat) (s : State), s.commands r (hrP 0) = true ∧ s.pageState (hrP 0) = .running ∧ s.basePage (arg.toNat / 16 * 0x1000) = some p ∧ s.moveFails p true = some c) ∧
    (∃ (r : Requester) (arg : BitVec 24) (p : PageRef) (s : State), s.commands r (hrP 0) = true ∧ s.pageState (hrP 0) = .running ∧ arg.toNat % 16 = 0 ∧ s.basePage (arg.toNat / 16 * 0x1000) = some p ∧ s.moveFails p false = none) :=
  ⟨⟨core0, 0x709A, ⟨.can, 1⟩, bOwn (hrP 2) 2 bHr0, by decide +kernel⟩,
   ⟨core0, 0x100A, tempoP, 0x30, bHr0, by decide +kernel⟩,
   ⟨core0, 0x7090, ⟨.can, 1⟩, bOwn ⟨.can, 1⟩ 2 bHr0, by decide +kernel⟩⟩

theorem wit_ReleasedHomeroomsAreCleared :
    (∃ (r : Requester) (arg : BitVec 24) (s : State), s.commands r (hrP 0) = true ∧ s.pageState (hrP 0) = .running ∧ arg.toNat % 8 ≠ 0 ∧ s.inState (hrP (arg.toNat % 8)) [.idle, .fault] = true) ∧
    (∃ (r : Requester) (arg : BitVec 24) (s : State), s.commands r (hrP 0) = true ∧ s.pageState (hrP 0) = .running ∧ ((arg.toNat % 8 = 0 ∨ s.inState (hrP (arg.toNat % 8)) [.idle, .fault] = false))) ∧
    (∃ (c : PendCmd) (k : Nat) (s : State), (s.page (hrP 0)).pending = some c ∧ c.code = 0x23 ∧ k = c.arg.toNat % 8 ∧ k ≠ 0) ∧
    (∃ (h : Fin 8) (s : State), s.ticking = false) :=
  ⟨⟨core0, 2, bHr0.toState (hrP 2) .fault, by decide +kernel⟩,
   ⟨core0, 0, bHr0, by decide +kernel⟩,
   ⟨⟨0x23, 1, .running, 2⟩, 2, put 0x2100000 [1, 2] bHr2, by decide +kernel⟩,
   ⟨3, b0, by decide +kernel⟩⟩

theorem wit_CountersCount :
    (∃ (r : Requester) (h : Nat) (cue : BitVec 16) (v : Word) (s : State), s.requesterHr r = some h ∧ 256 ≤ cue.toNat ∧ s.mayCue h cue.toNat 1 = true ∧ s.cueFaulted cue.toNat = false ∧ isBarrier (s.cueCfg cue.toNat) = false ∧ cfgNotify (s.cueCfg cue.toNat) = false ∧ s.cues.waiters = [] ∧ s.noTriggers cue.toNat ∧ s.cueCount 0 cue.toNat + v.toNat ≤ 0xFFFFFFFF) ∧
    (∃ (r : Requester) (h : Nat) (cue : BitVec 16) (v : Word) (p : PageRef) (s : State), s.requesterHr r = some h ∧ 256 ≤ cue.toNat ∧ s.mayCue h cue.toNat 1 = true ∧ s.cueFaulted cue.toNat = false ∧ isBarrier (s.cueCfg cue.toNat) = false ∧ cfgNotify (s.cueCfg cue.toNat) = false ∧ s.cues.waiters = [] ∧ s.noTriggers cue.toNat ∧ 0xFFFFFFFF < s.cueCount 0 cue.toNat + v.toNat ∧ p = cueP (cue.toNat / 256)) ∧
    (∃ (r : Requester) (h : Nat) (cue : BitVec 16) (v : Word) (s : State), s.requesterHr r = some h ∧ 256 ≤ cue.toNat ∧ s.mayCue h cue.toNat 5 = true ∧ s.cueFaulted cue.toNat = false ∧ isBarrier (s.cueCfg cue.toNat) = false ∧ cfgNotify (s.cueCfg cue.toNat) = false ∧ s.cues.waiters = [] ∧ s.noTriggers cue.toNat) :=
  ⟨⟨core0, 0, 262, 5, bCue 0 7, by decide +kernel⟩,
   ⟨core0, 0, 262, 0xFFFFFFF9, cueP 1, bCue 0 7, by decide +kernel⟩,
   ⟨core0, 0, 262, 5, bCue 0 7, by decide +kernel⟩⟩

theorem wit_WaitersWaitAndGoOn :
    (∃ (r : Requester) (h : Nat) (cue : BitVec 16) (n : BitVec 16) (to' : BitVec 24) (s : State), s.requesterHr r = some h ∧ ((∀ u, r ≠ .tile u)) ∧ s.mayCue h cue.toNat 2 = true ∧ s.cueFaulted cue.toNat = false ∧ ((256 ≤ cue.toNat → isBarrier (s.cueCfg cue.toNat) = false)) ∧ s.cueList h cue.toNat = [] ∧ n.toNat ≤ s.cueCount h cue.toNat) ∧
    (∃ (r : Requester) (h : Nat) (cue : BitVec 16) (n : BitVec 16) (to' : BitVec 24) (s : State), s.requesterHr r = some h ∧ ((∀ u, r ≠ .tile u)) ∧ s.mayCue h cue.toNat 2 = true ∧ s.cueFaulted cue.toNat = false ∧ ((256 ≤ cue.toNat → isBarrier (s.cueCfg cue.toNat) = false)) ∧ s.cueCount h cue.toNat < n.toNat ∧ s.poolUsed h < s.regF (hrP h) 0x0C8 31 16 ∧ s.cues.waiters.length < 8192) ∧
    (∃ (r : Requester) (h : Nat) (cue : BitVec 16) (n : BitVec 16) (to' : BitVec 24) (s : State), s.requesterHr r = some h ∧ ((∀ u, r ≠ .tile u)) ∧ s.mayCue h cue.toNat 2 = true ∧ s.cueFaulted cue.toNat = false ∧ ((256 ≤ cue.toNat → isBarrier (s.cueCfg cue.toNat) = false)) ∧ s.cueCount h cue.toNat < n.toNat ∧ s.regF (hrP h) 0x0C8 31 16 ≤ s.poolUsed h) ∧
    (∃ (r : Requester) (h : Nat) (cue : BitVec 16) (n : BitVec 16) (to' : BitVec 24) (s : State), s.requesterHr r = some h ∧ ((∀ u, r ≠ .tile u)) ∧ s.mayCue h cue.toNat 2 = false ∧ s.underLimit h) ∧
    (∃ (r : Requester) (h : Nat) (cue : BitVec 16) (to' : BitVec 24) (s : State), s.requesterHr r = some h ∧ 256 ≤ cue.toNat ∧ s.mayCue h cue.toNat 3 = true ∧ s.cueFaulted cue.toNat = false ∧ isBarrier (s.cueCfg cue.toNat) = true ∧ s.cueCount 0 cue.toNat + 1 < cfgArg (s.cueCfg cue.toNat) ∧ s.poolUsed h < s.regF (hrP h) 0x0C8 31 16 ∧ s.cues.waiters.length < 8192) ∧
    (∃ (i : Nat) (r : Requester) (w : Waiter) (p : PageRef) (s : State), s.cues.waiters[i]? = some w ∧ w.who = r ∧ ((∀ u, r ≠ .tile u)) ∧ 256 ≤ w.cue ∧ isBarrier (s.cueCfg w.cue) = true ∧ p = cueP (w.cue / 256)) :=
  ⟨⟨.core 2, 0, 262, 7, 100, bCue 0 7, by decide +kernel⟩,
   ⟨.core 2, 0, 262, 8, 100, bCue 0 7, by decide +kernel⟩,
   ⟨.core 2, 0, 262, 8, 100, (bCue 0 7).setReg (hrP 0) 0x0C8 0, by decide +kernel⟩,
   ⟨.core 2, 0, 262, 8, 100, bOwn (cueP 1) 1 (bCue 0 7), by decide +kernel⟩,
   ⟨.core 2, 0, 262, 100, bCue 0x8003 1, by decide +kernel⟩,
   ⟨0, .core 1, bWaiter 1 1, cueP 1, bWaiting, by decide +kernel⟩⟩

theorem wit_CountsAreTestedAndTaken :
    (∃ (r : Requester) (h : Nat) (cue : BitVec 16) (s : State), s.requesterHr r = some h ∧ s.mayCue h cue.toNat 4 = true ∧ s.cueFaulted cue.toNat = false) ∧
    (∃ (r : Requester) (h : Nat) (cue : BitVec 16) (s : State), s.requesterHr r = some h ∧ s.mayCue h cue.toNat 6 = true ∧ s.cueFaulted cue.toNat = false ∧ ((256 ≤ cue.toNat → isBarrier (s.cueCfg cue.toNat) = false)) ∧ s.cueList h cue.toNat = []) ∧
    (∃ (r : Requester) (h : Nat) (cue : BitVec 16) (s : State), s.requesterHr r = some h ∧ s.mayCue h cue.toNat 6 = true ∧ s.cueFaulted cue.toNat = false ∧ 256 ≤ cue.toNat ∧ isBarrier (s.cueCfg cue.toNat) = true) :=
  ⟨⟨core0, 0, 262, bCue 0 7, by decide +kernel⟩,
   ⟨core0, 0, 262, bCue 0 7, by decide +kernel⟩,
   ⟨core0, 0, 262, bCue 0x8003 1, by decide +kernel⟩⟩

theorem wit_CueBlocksAreConfigured :
    (∃ (r : Requester) (b : BitVec 8) (j : Fin 128) (v : Word) (s : State), s.writes r (cueP b.toNat) (0x100 + 4 * j.val) = true ∧ b ≠ 0 ∧ cfgOk (fld v 15 0) = true ∧ cfgOk (fld v 31 16) = true ∧ s.cues.waiters = []) ∧
    (∃ (r : Requester) (b : BitVec 8) (j : Fin 128) (v : Word) (s : State), s.writes r (cueP b.toNat) (0x100 + 4 * j.val) = true ∧ b ≠ 0 ∧ cfgOk (fld v 15 0) = false) ∧
    (∃ (b : BitVec 8) (idx : BitVec 8) (s : State), s.pageState (cueP b.toNat) = .running ∧ (s.page (cueP b.toNat)).owner = 0 ∧ s.cues.waiters = []) :=
  ⟨⟨core0, 1, 3, 0x80020000, bCue 0 0, by decide +kernel⟩,
   ⟨core0, 1, 3, 0x8001, bCue 0 0, by decide +kernel⟩,
   ⟨1, 6, bCue 0 0, by decide +kernel⟩⟩

theorem wit_TagsErrorsAndMapsAreSet :
    (∃ (r : Requester) (u : Fin 32) (arg : BitVec 24) (s : State), s.commands r (tileP u.val) = true ∧ s.pageState (tileP u.val) = .idle ∧ 0 < s.regF (tileP u.val) 0x0CC 29 16 ∧ s.regF (tileP u.val) 0x0CC 12 0 + s.regF (tileP u.val) 0x0CC 29 16 ≤ 8192) ∧
    (∃ (r : Requester) (u : Fin 32) (arg : BitVec 24) (s : State), s.commands r (tileP u.val) = true ∧ s.pageState (tileP u.val) = .idle ∧ ((s.regF (tileP u.val) 0x0CC 29 16 = 0 ∨ 8192 < s.regF (tileP u.val) 0x0CC 12 0 + s.regF (tileP u.val) 0x0CC 29 16))) ∧
    (∃ (r : Requester) (k : Fin 4) (arg : BitVec 24) (a : Nat) (s : State), s.commands r (lockerP k.val) = true ∧ s.pageState (lockerP k.val) = .running ∧ s.anyTorque = false ∧ s.isExcused (48 + 8 * k.val + arg.toNat / 0x100000 % 8) = false ∧ a = 0x4000000 + k.val * 0x4000000 + arg.toNat / 0x100000 % 8 * 0x800000 + 8 * (arg.toNat % 0x100000)) ∧
    (∃ (r : Requester) (u : Fin 32) (v : Word) (s : State), s.writes r (tileP u.val) 0x0C0 = true ∧ bankMapOk v = true) ∧
    (∃ (r : Requester) (u : Fin 32) (v : Word) (s : State), s.writes r (tileP u.val) 0x0C0 = true ∧ bankMapOk v = false) ∧
    (∃ (u : Fin 32) (m : Word) (s : State), (s.tile u.val).wait = .phase m ∧ (s.tile u.val).act.isSome = true) :=
  ⟨⟨core0, 3, 2, bTags, by decide +kernel⟩,
   ⟨core0, 3, 2, bTags.setRegN (tileP 3) 0x0CC 0x51FFC, by decide +kernel⟩,
   ⟨core0, 1, 0x800005, 0x8000028, bLocker, by decide +kernel⟩,
   ⟨core0, 3, 0x24, bTags, by decide +kernel⟩,
   ⟨core0, 3, 0x0C, bTags, by decide +kernel⟩,
   ⟨3, 0x24, bPhase, by decide +kernel⟩⟩

theorem wit_ScrubbingCorrects :
    (∃ (addr : Word) (a : Nat) (s : State), a = addr.toNat / 8 * 8 ∧ (memUnit s.chip.grade a).isSome = true ∧ s.errAt a = 0 ∧ a % 0x4000000 ≠ 0x3FFFFF8) ∧
    (∃ (addr : Word) (k : Nat) (b : Nat) (s : State), addr.toNat / 8 * 8 = 0x4000000 * k + 0x7FFFFF8 ∧ memUnit s.chip.grade (addr.toNat / 8 * 8) = some b ∧ 48 ≤ b ∧ s.isExcused b = false ∧ s.regF dynP 0x040 2 0 < 3 ∧ s.errAt (addr.toNat / 8 * 8) = 0) ∧
    (∃ (addr : Word) (a : Nat) (b : Nat) (s : State), a = addr.toNat / 8 * 8 ∧ memUnit s.chip.grade a = some b ∧ b < 48 ∧ s.isExcused b = false ∧ s.regF dynP 0x040 2 0 < 3 ∧ s.errAt a ≤ 1 ∧ s.sram.condemned = []) ∧
    (∃ (addr : Word) (a : Nat) (k : Nat) (c : Nat) (s : State), a = addr.toNat / 8 * 8 ∧ c < 8 ∧ memUnit s.chip.grade a = some (48 + 8 * k + c) ∧ s.isExcused (48 + 8 * k + c) = false ∧ s.regF dynP 0x040 2 0 < 3 ∧ s.errAt a ≤ 1 ∧ s.sram.condemned = [] ∧ a % 0x4000000 ≠ 0x3FFFFF8) ∧
    (∃ (addr : Word) (a : Nat) (b : Nat) (s : State), a = addr.toNat / 8 * 8 ∧ memUnit s.chip.grade a = some b ∧ b < 48 ∧ s.isExcused b = false ∧ s.regF dynP 0x040 2 0 < 3 ∧ tabGet 0 s.sram.lastUe b = 0 ∧ s.sram.condemned = []) :=
  ⟨⟨0x2000008, 0x2000008, b0, by decide +kernel⟩,
   ⟨0x7FFFFF8, 0, 55, b0, by decide +kernel⟩,
   ⟨0x2000008, 0x2000008, 32, b0.setErr 0x2000008 1, by decide +kernel⟩,
   ⟨0x8800009, 0x8800008, 1, 1, b0, by decide +kernel⟩,
   ⟨0x2000008, 0x2000008, 32, b0, by decide +kernel⟩⟩

theorem wit_LinksAndCorridorsFail :
    (∃ (k : Fin 4) (flits : List (List Byte)) (n : Nat) (s : State), s.pageState (lockerP k.val) = .running ∧ present s.chip.grade (lockerP k.val) = true ∧ n = ((flits.take 4).takeWhile fun f => !flitOk f).length ∧ 0 < n ∧ n < 4) ∧
    (∃ (k : Fin 4) (a : List Byte) (b : List Byte) (c : List Byte) (d : List Byte) (rest : List (List Byte)) (s : State), s.pageState (lockerP k.val) = .running ∧ present s.chip.grade (lockerP k.val) = true ∧ flitOk a = false ∧ flitOk b = false ∧ flitOk c = false ∧ flitOk d = false) :=
  ⟨⟨1, [bBadFlit, bBadFlit], 2, bLocker, by decide +kernel⟩,
   ⟨1, bBadFlit, [], bBadFlit, bBadFlit, [], bLocker, by decide +kernel⟩⟩

theorem wit_DmaRunsItsRing :
    (∃ (r : Requester) (c : Fin 8) (v : Word) (s : State), s.writes r (dmaP c.val) 0x044 = true) ∧
    (∃ (c : Fin 8) (h : Nat) (at' : Nat) (j : DmaJob) (s : State), s.pageState (dmaP c.val) = .running ∧ (s.chan c.val).job = none ∧ (s.chan c.val).quiescing = false ∧ s.dmaHead c.val ≠ s.dmaTail c.val ∧ h = (s.page (dmaP c.val)).owner ∧ s.shareSpent h = false ∧ at' = 64 * s.regF (dmaP c.val) 0x040 23 0 + 32 * s.dmaHead c.val ∧ j = parseDesc (s.dmaHead c.val) (s.readGrant h at' 32) ∧ descOk j = true ∧ s.grantPoison h at' 32 = false ∧ (s.grantOpen h at').all (s.errFree · 32) = true) ∧
    (∃ (c : Fin 8) (h : Nat) (at' : Nat) (j : DmaJob) (s : State), s.pageState (dmaP c.val) = .running ∧ (s.chan c.val).job = none ∧ (s.chan c.val).quiescing = false ∧ s.dmaHead c.val ≠ s.dmaTail c.val ∧ h = (s.page (dmaP c.val)).owner ∧ s.shareSpent h = false ∧ at' = 64 * s.regF (dmaP c.val) 0x040 23 0 + 32 * s.dmaHead c.val ∧ j = parseDesc (s.dmaHead c.val) (s.readGrant h at' 32) ∧ ((descOk j = false ∨ s.grantPoison h at' 32 = true)) ∧ (s.grantOpen h at').all (s.errFree · 32) = true) ∧
    (∃ (c : Fin 8) (h : Nat) (ns : Nat) (l : List Nat) (j : DmaJob) (bs : List Byte) (s : State), s.pageState (dmaP c.val) = .running ∧ h = (s.page (dmaP c.val)).owner ∧ (s.chan c.val).job = some j ∧ j.rows = 1 ∧ j.rowBytes = 64 ∧ j.pos = 0 ∧ j.srcHost = true ∧ j.dstHost = false ∧ j.dstMode = 0 ∧ j.hostRows = [(0, some bs)] ∧ j.epRows = [] ∧ bs.length = 64 ∧ j.viol = false ∧ j.hostErr = false ∧ j.poisoned = false ∧ j.done = false ∧ j.signalEn = false ∧ s.shareSpent h = false ∧ s.reachesAll h j.dst 64 = true ∧ s.gatedAt j.dst = false ∧ s.sideClashes j.dst = false ∧ s.weightGuarded j.dst 64 = false ∧ j.dst % 64 = 0 ∧ s.errFree j.dst 64 = true ∧ s.sram.flits = []) ∧
    (∃ (c : Fin 8) (h : Nat) (a : Nat) (j : DmaJob) (s : State), s.pageState (dmaP c.val) = .running ∧ h = (s.page (dmaP c.val)).owner ∧ (s.chan c.val).job = some j ∧ j.pos < j.rows * (j.rowBytes / 64) ∧ j.srcHost = false ∧ a = j.src + j.pos / (j.rowBytes / 64) * j.srcStride + 64 * (j.pos % (j.rowBytes / 64)) ∧ s.reachesAll h a 64 = true ∧ s.sideClashes a = false ∧ s.sideWaits false j.srcMode a = true ∧ j.srcMode ≠ 0) :=
  ⟨⟨core0, 2, 0x23, b0.toState (dmaP 2) .idle, by decide +kernel⟩,
   ⟨2, 0, 0x200, bDescOf 0x40, bDmaDesc 0x40, by decide +kernel⟩,
   ⟨2, 0, 0x200, bDescOf 0x41, bDmaDesc 0x41, by decide +kernel⟩,
   ⟨2, 0, 9, [], bJob, List.replicate 64 0xA5, bDmaJob bJob, by decide +kernel⟩,
   ⟨2, 0, 0x80, bTagJob, bDmaJob bTagJob, by decide +kernel⟩⟩

theorem wit_HostAccessesReachSram :
    (∃ (p : Option (BitVec 20)) (h : Nat) (addr : Word) (data : List Byte) (s : State), addr.toNat < 0x10000000 ∧ s.dynState < 3 ∧ s.requesterHr (.host p) = some h ∧ (levelAt s.chip.grade addr.toNat).isCommons = true ∧ 0 < data.length ∧ data.length ≤ 64 - addr.toNat % 64 ∧ s.reachesAll h addr.toNat data.length = true ∧ s.errFree addr.toNat data.length = true ∧ s.sram.flits = []) ∧
    (∃ (p : Option (BitVec 20)) (h : Nat) (addr : Word) (data : List Byte) (s : State), addr.toNat < 0x10000000 ∧ s.dynState < 3 ∧ s.requesterHr (.host p) = some h ∧ (levelAt s.chip.grade addr.toNat).isCommons = true ∧ 0 < data.length ∧ data.length ≤ 64 - addr.toNat % 64 ∧ s.reachesAll h addr.toNat data.length = true ∧ s.errFree addr.toNat data.length = true ∧ s.sram.flits = [(0x40, false, addr.toNat / 64)]) ∧
    (∃ (p : Option (BitVec 20)) (h : Nat) (addr : Word) (data : List Byte) (s : State), addr.toNat < 0x10000000 ∧ s.dynState < 3 ∧ s.requesterHr (.host p) = some h ∧ (levelAt s.chip.grade addr.toNat).isCommons = true ∧ 0 < data.length ∧ data.length ≤ 64 - addr.toNat % 64 ∧ s.reachesAll h addr.toNat data.length = true ∧ s.weightGuarded addr.toNat data.length = false ∧ s.errFree addr.toNat data.length = true ∧ s.sram.flits = []) ∧
    (∃ (p : Option (BitVec 20)) (addr : Word) (write : Bool) (data : List Byte) (s : State), addr.toNat < 0x10000000 ∧ s.dynState = 3 ∧ s.dyn.wake = none) :=
  ⟨⟨none, 0, 0x2000005, [1, 2, 3], bDmaDesc 0x40, by decide +kernel⟩,
   ⟨none, 0, 0x2000005, [1, 2, 3], bFlits, by decide +kernel⟩,
   ⟨none, 0, 0x2000005, [1, 2, 3], b0, by decide +kernel⟩,
   ⟨none, 0x2000005, false, [1, 2, 3], b0.setRegN dynP 0x040 3, by decide +kernel⟩⟩

def bRunPart : Part := { bPart with group := [3], image := 0x2000400, partId := 7, act := some { bAct with onTiles := true, number := 5 } }
def bOnTile (map : Word) : State :=
  (((((b0.toState tempoP .running).toState (hrP 0) .running).toState (tileP 3) .running).setReg (tileP 3) 0x0C0 map).modHr 0 fun r =>
    { r with score := some ⟨0, 0, 4, 0, [bRunPart]⟩ }).modTile 3 fun x =>
      { x with act := some (0, 0), pc := 2, progLen := 8, prog := 0x2003000,
               sregs := [(1, 0x80040), (2, 0x80080), (3, 1), (4, 2), (6, 262)], vregs := [(0, 0x0500000003), (1, 0x0200000004)] }
def bRun : State := put 0x2000438 [4, 0, 0, 0, 0, 2] (put 0x200042C [0, 1] (bOnTile 0x55555555))
def bNarrow : State := bOnTile 0xAAAAAAAA
def bStream : State := put 0x2001000 (wordsOf [0x80300, 0x80301, 5]) (bOnTile 0)
def atPc (w : Nat) (s : State) : State := put 0x2003010 (leBytes 8 w) s
def opW (cls op v : Nat) : Nat := cls * 2 ^ 60 + op * 2 ^ 53 + v * 2 ^ 52
def mxW (op : Nat) (f : MxFields) (s : State) : State := atPc (opW 1 op 0 + f.tag.toNat * 2 ^ 50 + f.sat.toNat * 2 ^ 49 +
  f.accumulate.toNat * 2 ^ 48 + f.agd.toNat * 2 ^ 40 + f.row0.toNat * 2 ^ 32 + f.rows1.toNat * 2 ^ 24 + f.off.toNat * 2 ^ 12 + f.op.toNat) s
def vxW (op v : Nat) (f : VxFields) (s : State) : State := atPc (opW 2 op v + f.fmt.toNat * 2 ^ 48 + f.vd.toNat * 2 ^ 43 + f.va.toNat * 2 ^ 38 +
  f.vb.toNat * 2 ^ 33 + f.vc.toNat * 2 ^ 28 + f.off.toNat * 2 ^ 6 + f.tag.toNat * 2 ^ 4 + f.sr.toNat) s
def mvW (op : Nat) (f : MvFields) (s : State) : State := atPc (opW 3 op 0 + f.dtag.toNat * 2 ^ 50 + f.stag.toNat * 2 ^ 48 +
  f.units1.toNat * 2 ^ 32 + f.sa.toNat * 2 ^ 28 + f.da.toNat * 2 ^ 24 + f.mask.toNat * 2 ^ 16 + f.combine.toNat * 2 ^ 8 + f.fmt.toNat * 2 ^ 4) s
def syW (op v : Nat) (f : SyFields) (s : State) : State := atPc (opW 4 op v + f.cueReg.toNat * 2 ^ 49 + f.st.toNat * 2 ^ 48 +
  f.cue.toNat * 2 ^ 32 + f.n.toNat * 2 ^ 16 + f.sreg.toNat * 2 ^ 12 + f.timeout.toNat) s
def ctW (op v : Nat) (f : CtFields) (s : State) : State := atPc (opW 5 op v + f.cond.toNat * 2 ^ 48 + f.rd.toNat * 2 ^ 44 +
  f.ra.toNat * 2 ^ 40 + f.rb.toNat * 2 ^ 36 + f.imm.toNat) s
def ckW (op : Nat) (f : CkFields) (s : State) : State := atPc (opW 6 op 0 + f.fmt.toNat * 2 ^ 48 + f.rd.toNat * 2 ^ 44 +
  f.ra.toNat * 2 ^ 40 + f.rl.toNat * 2 ^ 36 + f.rlo.toNat * 2 ^ 32 + f.rhi.toNat * 2 ^ 28 + f.imm.toNat) s
def mxF : MxFields := { accumulate := false, sat := false, tag := 0, agd := 0, row0 := 1, rows1 := 1, off := 2, op := 0x30 }
def vxF (fmt : BitVec 4) : VxFields := { fmt := fmt, vd := 2, va := 0, vb := 1, vc := 1, quarter := 1, off := 3, tag := 0, sr := 2, parity := false }
def vxOne : VxFields := { vxF 3 with off := 2, tag := 1 }
def mvF (fmt : BitVec 4) : MvFields := { stag := 0, dtag := 0, units1 := 0, sa := 1, da := 2, mask := 8, combine := 0, fmt := fmt }
def syF (n : BitVec 16) : SyFields := { st := false, cueReg := true, cue := 6, n := n, sreg := 4, timeout := 0 }
def ctF (cond ra rb : BitVec 4) (imm : BitVec 36) : CtFields := { cond := cond, rd := 7, ra := ra, rb := rb, imm := imm }
def ckF (fmt rd : BitVec 4) : CkFields := { fmt := fmt, rd := rd, ra := 1, rl := 3, rlo := 0, rhi := 3, imm := 0 }
def bRunCue (cfg n : Nat) : State := (((bRun.toState (cueP 1) .running).setRegN (cueP 1) 0x10C cfg).setCueCount 0 262 n).setRegN (hrP 0) 0x0C8 0x40000
def bAny : State := (bRunCue 0 7).modTile 3 fun x => { x with sregs := [(1, 262)] }
def bHeldLd : State := ((vxW 1 0 vxOne bNarrow).modTile 3 fun x => { x with wait := .tag false clsNarrow 1, held := some (.vxLd 3 vxOne) }).setTag 3 1 3
def bOut (s : State) : List Byte := ((accRows mxF).flatMap fun r => packElems (((elemOf (s.tile 3).outFmt).map Elem.width).getD 8)
      ((List.range (nDim (s.tile 3).mode)).map fun n => (s.outElem 3 r n).1)).take (0x100000 - 256 * mxF.off.toNat)
theorem wit_MatrixStateIsSet :
    (∃ (u : Fin 32) (f : MxFields) (s : State), s.issues u.val (.mxCfg u f) = true ∧ f.op.toNat % 16 < 6 ∧ (elemOf (f.op.toNat / 16 % 16)).isSome = true) ∧
    (∃ (u : Fin 32) (f : MxFields) (s : State), s.issues u.val (.mxSwap u f) = true) ∧
    (∃ (u : Fin 32) (f : MxFields) (s : State), s.issues u.val (.mxZacc u f) = true) ∧
    (∃ (u : Fin 32) (f : MxFields) (rs : List (Nat × Nat)) (slots : List Nat) (s : State), s.issues u.val (.mxLdw u f) = true ∧ f.tag.toNat ≤ 2 ∧ rs = wideRanges (256 * f.off.toNat) (blockBytes (s.tile u.val).mode) ∧ slots = unitSlots clsWide (unitsOf clsWide rs) ∧ ((f.tag = 0 ∨ ∀ k ∈ slots, s.tag u.val k = 3)) ∧ s.bound u.val clsWide ∧ s.errFree (u.val * 0x100000) 0x100000 = true) :=
  ⟨⟨3, mxF, mxW 1 mxF bRun, by decide +kernel⟩,
   ⟨3, mxF, mxW 3 mxF bRun, by decide +kernel⟩,
   ⟨3, mxF, mxW 6 mxF bRun, by decide +kernel⟩,
   ⟨3, mxF, wideRanges (256 * mxF.off.toNat) (blockBytes 0), unitSlots clsWide (unitsOf clsWide (wideRanges (256 * mxF.off.toNat) (blockBytes 0))), mxW 2 mxF bRun, by decide +kernel⟩⟩

theorem wit_PassesAccumulate :
    (∃ (u : Fin 32) (f : MxFields) (p : Part) (da : Nat) (desc : List Byte) (s : State), s.issues u.val (.mxPass u f []) = true ∧ ((f.tag = 0 ∨ f.tag = 1 ∧ ∀ k, k < 8192 → s.tag u.val k = 3)) ∧ s.partOn u.val = some p ∧ da = p.image + s.readNat (p.image + 0x2C) 4 + 32 * f.agd.toNat ∧ desc = s.readBytes da 32 ∧ s.errFree (p.image + 0x2C) 4 = true ∧ s.rangePoison (p.image + 0x2C) 4 = false ∧ s.errFree da 32 = true ∧ s.rangePoison da 32 = false ∧ agdOk desc = true ∧ s.bound u.val clsWide ∧ s.errFree (u.val * 0x100000) 0x100000 = true ∧ (s.tile u.val).inject = none ∧ ((intMode (s.tile u.val).mode = true ∨ ∀ b, b < 4 → s.blockAgrees u.val f desc b = true))) :=
  ⟨3, mxF, bRunPart, 0x2000500, List.replicate 32 0, mxW 4 mxF bRun, by decide +kernel⟩

theorem wit_OutputsAreStored :
    (∃ (u : Fin 32) (f : MxFields) (bytes : List Byte) (s : State), s.issues u.val (.mxOut u ⟨f, none⟩) = true ∧ ((f.tag = 0 ∨ f.tag = 1 ∧ ∀ k, k < 8192 → s.tag u.val k = 0)) ∧ bytes = ((accRows f).flatMap fun r => packElems (((elemOf (s.tile u.val).outFmt).map Elem.width).getD 8) ((List.range (nDim (s.tile u.val).mode)).map fun n => (s.outElem u.val r n).1)).take (0x100000 - 256 * f.off.toNat) ∧ s.bound u.val clsWide ∧ s.sram.errs = [] ∧ s.sram.condemned = [] ∧ s.underLimit (s.hrOn u.val)) :=
  ⟨3, mxF, bOut (mxW 5 mxF bRun), mxW 5 mxF bRun, by decide +kernel, by decide +kernel, rfl, by decide +kernel⟩

theorem wit_VectorRegistersAreComputed :
    (∃ (u : Fin 32) (op : VxAluOp) (f : VxFields) (e : Elem) (s : State), s.issues u.val (.vxAlu u op f) = true ∧ elemOf f.fmt.toNat = some e ∧ f.parity = false) ∧
    (∃ (u : Fin 32) (f : VxFields) (e : Elem) (s : State), s.issues u.val (.vxFma u f) = true ∧ elemOf f.fmt.toNat = some e ∧ f.parity = false) ∧
    (∃ (u : Fin 32) (op : VxFnOp) (f : VxFields) (e : Elem) (s : State), s.issues u.val (.vxFn u op f) = true ∧ elemOf f.fmt.toNat = some e ∧ f.parity = false) ∧
    (∃ (u : Fin 32) (f : VxFields) (dst : BitVec 4) (sat : Bool) (e : Elem) (d : Elem) (s : State), s.issues u.val (.vxCvt u f dst sat) = true ∧ elemOf f.fmt.toNat = some e ∧ elemOf dst.toNat = some d ∧ f.parity = false) ∧
    (∃ (u : Fin 32) (f : VxFields) (e : Elem) (s : State), s.issues u.val (.vxQmul u f) = true ∧ elemOf f.fmt.toNat = some e ∧ f.parity = false) ∧
    (∃ (u : Fin 32) (f : VxFields) (e : Elem) (s : State), s.issues u.val (.vxMac8 u f) = true ∧ elemOf f.fmt.toNat = some e ∧ f.parity = false) ∧
    (∃ (u : Fin 32) (f : VxFields) (e : Elem) (s : State), s.issues u.val (.vxSel u f) = true ∧ elemOf f.fmt.toNat = some e ∧ f.parity = false) ∧
    (∃ (u : Fin 32) (f : VxFields) (e : Elem) (p : Part) (a : Nat) (s : State), s.issues u.val (.vxPerm u f) = true ∧ elemOf f.fmt.toNat = some e ∧ f.parity = false ∧ s.partOn u.val = some p ∧ a = p.image + s.readNat (p.image + 0x3C) 4 + 64 * f.off.toNat ∧ s.errFree (p.image + 0x3C) 4 = true ∧ s.rangePoison (p.image + 0x3C) 4 = false ∧ s.errFree a 64 = true ∧ s.rangePoison a 64 = false) ∧
    (∃ (u : Fin 32) (op : VxAluOp) (f : VxFields) (e : Elem) (s : State), s.issues u.val (.vxAlu u op f) = true ∧ elemOf f.fmt.toNat = some e ∧ f.parity = true) :=
  ⟨⟨3, .add, vxF 3, .int 32, vxW 3 0 (vxF 3) bRun, by decide +kernel⟩,
   ⟨3, vxF 3, .int 32, vxW 4 0 (vxF 3) bRun, by decide +kernel⟩,
   ⟨3, .tanh, vxF 8, .fp fF32, vxW 5 0 (vxF 8) bRun, by decide +kernel⟩,
   ⟨3, vxF 3, 1, true, .int 32, .int 8, vxW 6 0 (vxF 3) bRun, by decide +kernel⟩,
   ⟨3, vxF 3, .int 32, vxW 7 0 (vxF 3) bRun, by decide +kernel⟩,
   ⟨3, vxF 3, .int 32, vxW 8 0 (vxF 3) bRun, by decide +kernel⟩,
   ⟨3, vxF 3, .int 32, vxW 0xA 0 (vxF 3) bRun, by decide +kernel⟩,
   ⟨3, vxF 3, .int 32, bRunPart, 0x20006C0, vxW 0xB 0 (vxF 3) bRun, by decide +kernel⟩,
   ⟨3, .add, { vxF 3 with parity := true }, .int 32, vxW 3 0 (vxF 3) bRun, by decide +kernel⟩⟩

theorem wit_LanesAreReduced :
    (∃ (u : Fin 32) (f : VxFields) (n : Nat) (s : State), s.issues u.val (.vxLred u f false) = true ∧ elemOf f.fmt.toNat = some (.int n) ∧ f.parity = false) ∧
    (∃ (u : Fin 32) (f : VxFields) (n : Nat) (s : State), s.issues u.val (.vxLred u f true) = true ∧ elemOf f.fmt.toNat = some (.int n) ∧ f.parity = false) ∧
    (∃ (u : Fin 32) (f : VxFields) (maximum : Bool) (g : FpFmt) (s : State), s.issues u.val (.vxLred u f maximum) = true ∧ elemOf f.fmt.toNat = some (.fp g) ∧ f.parity = false) ∧
    (∃ (u : Fin 32) (f : VxFields) (n : Nat) (k : Nat) (s : State), s.issues u.val (.vxArgmax u f) = true ∧ elemOf f.fmt.toNat = some (.int n) ∧ f.parity = false ∧ f.sr ≠ 0 ∧ k < 64 ∧ ((∀ i, i < k → sext 32 (velem (s.getV u.val f.va) 32 i) < sext 32 (velem (s.getV u.val f.va) 32 k))) ∧ ((∀ i, i < 64 → sext 32 (velem (s.getV u.val f.va) 32 i) ≤ sext 32 (velem (s.getV u.val f.va) 32 k)))) :=
  ⟨⟨3, vxF 3, 32, vxW 9 0 (vxF 3) bRun, by decide +kernel⟩,
   ⟨3, vxF 3, 32, vxW 9 0 (vxF 3) bRun, by decide +kernel⟩,
   ⟨3, vxF 6, false, fF16, vxW 9 0 (vxF 6) bRun, by decide +kernel⟩,
   ⟨3, vxF 3, 32, 1, vxW 0xC 0 (vxF 3) (bRun.modTile 3 fun x => { x with vregs := [(0, 0x0500000003)] }), by decide +kernel⟩⟩

theorem wit_QuartersMove :
    (∃ (u : Fin 32) (f : VxFields) (e : Elem) (s : State), s.issues u.val (.vxLd u f) = true ∧ elemOf f.fmt.toNat = some e ∧ f.parity = false ∧ f.tag.toNat ≤ 2 ∧ ((f.tag = 0 ∨ s.tag u.val (f.off.toNat / 2) = 3)) ∧ s.bound u.val clsNarrow ∧ s.errFree (u.val * 0x100000 + 64 * f.off.toNat) 64 = true) ∧
    (∃ (u : Fin 32) (f : VxFields) (e : Elem) (s : State), s.issues u.val (.vxSt u f) = true ∧ elemOf f.fmt.toNat = some e ∧ f.parity = false ∧ ((f.tag = 0 ∨ f.tag = 1 ∧ s.halfFull u.val f.off.toNat = false)) ∧ s.bound u.val clsNarrow ∧ s.errFree (u.val * 0x100000 + 64 * f.off.toNat) 64 = true) ∧
    (∃ (u : Fin 32) (f : VxFields) (e : Elem) (s : State), s.issues u.val (.vxLd u f) = true ∧ elemOf f.fmt.toNat = some e ∧ f.parity = false ∧ ((f.tag = 1 ∨ f.tag = 2)) ∧ s.tag u.val (f.off.toNat / 2) ≠ 3 ∧ s.bound u.val clsNarrow) ∧
    (∃ (u : Fin 32) (f : VxFields) (e : Elem) (write : Bool) (slot : Nat) (s : State), (s.tile u.val).wait = .tag write clsNarrow slot ∧ (s.tile u.val).held = some (.vxLd u f) ∧ (s.tile u.val).act.isSome = true ∧ elemOf f.fmt.toNat = some e ∧ f.tag.toNat ≤ 2 ∧ s.tag u.val (f.off.toNat / 2) = 3 ∧ s.bound u.val clsNarrow ∧ s.errFree (u.val * 0x100000 + 64 * f.off.toNat) 64 = true) ∧
    (∃ (u : Fin 32) (f : VxFields) (e : Elem) (write : Bool) (slot : Nat) (s : State), (s.tile u.val).wait = .tag write clsNarrow slot ∧ (s.tile u.val).held = some (.vxLd u f) ∧ (s.tile u.val).act.isSome = true ∧ elemOf f.fmt.toNat = some e ∧ ((f.tag = 1 ∨ f.tag = 2)) ∧ s.tag u.val (f.off.toNat / 2) = 3 ∧ s.bound u.val clsNarrow ∧ slot = f.off.toNat / 2 ∧ f.off.toNat % 2 = 0 ∧ s.sram.errs = [] ∧ s.sram.condemned = [] ∧ tabGet 0 s.sram.lastUe u.val = 0) :=
  ⟨⟨3, vxF 3, .int 32, vxW 1 0 (vxF 3) bNarrow, by decide +kernel⟩,
   ⟨3, vxF 3, .int 32, vxW 2 0 (vxF 3) bNarrow, by decide +kernel⟩,
   ⟨3, vxOne, .int 32, vxW 1 0 vxOne bNarrow, by decide +kernel⟩,
   ⟨3, vxOne, .int 32, false, 1, bHeldLd, by decide +kernel⟩,
   ⟨3, vxOne, .int 32, false, 1, bHeldLd, by decide +kernel⟩⟩

theorem wit_CommonsTakesAtomicAdds :
    (∃ (u : Fin 32) (f : VxFields) (e : Elem) (a : Nat) (s : State), s.issues u.val (.vxAtaddi u f) = true ∧ elemOf f.fmt.toNat = some e ∧ f.parity = false ∧ a = 64 * (s.getS u.val f.sr.toNat).toNat ∧ s.cleanUnits (s.hrOn u.val) a 4 ∧ ((∀ k, k < 4 → s.weightGuarded (a + 64 * k) 64 = false))) ∧
    (∃ (u : Fin 32) (f : VxFields) (e : Elem) (a : Nat) (s : State), s.issues u.val (.vxAtaddf u f) = true ∧ elemOf f.fmt.toNat = some e ∧ f.parity = false ∧ a = 64 * (s.getS u.val f.sr.toNat).toNat ∧ s.cleanUnits (s.hrOn u.val) a 4 ∧ ((∀ k, k < 4 → s.weightGuarded (a + 64 * k) 64 = false))) :=
  ⟨⟨3, vxF 3, .int 32, 0x2002000, vxW 0xD 0 (vxF 3) bRun, by decide +kernel⟩,
   ⟨3, vxF 3, .int 32, 0x2002000, vxW 0xE 1 (vxF 3) bRun, by decide +kernel⟩⟩

theorem wit_UnitsMove :
    (∃ (u : Fin 32) (f : MvFields) (a : Nat) (b : Nat) (n : Nat) (s : State), s.issues u.val (.mvCopy u f) = true ∧ f.stag.toNat ≤ 2 ∧ f.dtag.toNat ≤ 1 ∧ a = 64 * (s.getS u.val f.sa.toNat).toNat ∧ b = 64 * (s.getS u.val f.da.toNat).toNat ∧ n = f.units1.toNat + 1 ∧ s.cleanUnits (s.hrOn u.val) a n ∧ s.cleanUnits (s.hrOn u.val) b n ∧ ((∀ k, k < n → s.weightGuarded (b + 64 * k) 64 = false)) ∧ ((a + 64 * n ≤ b ∨ b + 64 * n ≤ a))) ∧
    (∃ (u : Fin 32) (f : MvFields) (a : Nat) (b : Nat) (n : Nat) (s : State), s.issues u.val (.mvGather u f) = true ∧ f.stag.toNat ≤ 2 ∧ f.dtag.toNat ≤ 1 ∧ a = 64 * (s.getS u.val f.sa.toNat).toNat ∧ b = 64 * (s.getS u.val f.da.toNat).toNat ∧ n = f.units1.toNat + 1 ∧ s.cleanUnits (s.hrOn u.val) a ((4 * n + 63) / 64) ∧ s.cleanUnits (s.hrOn u.val) b n ∧ ((∀ k, k < n → s.weightGuarded (b + 64 * k) 64 = false)) ∧ ((∀ k, k < n → s.cleanUnits (s.hrOn u.val) (64 * s.readNat (a + 4 * k) 4) 1 ∧ (64 * s.readNat (a + 4 * k) 4 + 64 ≤ b ∨ b + 64 * n ≤ 64 * s.readNat (a + 4 * k) 4)))) ∧
    (∃ (u : Fin 32) (f : MvFields) (a : Nat) (off : Nat) (n : Nat) (p : Part) (s : State), s.issues u.val (.mvBcast u f) = true ∧ f.stag.toNat ≤ 2 ∧ f.dtag = 0 ∧ a = 64 * (s.getS u.val f.sa.toNat).toNat ∧ off = 64 * (s.getS u.val f.da.toNat).toNat % 0x100000 ∧ n = f.units1.toNat + 1 ∧ off + 64 * n ≤ 0x100000 ∧ s.cleanUnits (s.hrOn u.val) a n ∧ s.partOn u.val = some p ∧ ((∀ d ∈ maskTiles u.val f.mask.toNat, p.group.contains d = true ∧ s.bound d clsStream ∧ ∀ k, k < n → s.reachesAll (s.hrOn u.val) (d * 0x100000 + off + 64 * k) 64 = true ∧ s.gatedAt (d * 0x100000 + off + 64 * k) = false ∧ s.errFree (d * 0x100000 + off + 64 * k) 64 = true ∧ s.weightGuarded (d * 0x100000 + off + 64 * k) 64 = false))) ∧
    (∃ (u : Fin 32) (f : MvFields) (a : Nat) (b : Nat) (p : Part) (s : State), s.issues u.val (.mvRed u f) = true ∧ f.stag.toNat ≤ 2 ∧ f.dtag.toNat ≤ 1 ∧ f.units1 = 0 ∧ ((f.fmt.toNat = 3 ∨ f.fmt.toNat = 8 ∨ f.fmt.toNat = 9)) ∧ f.combine.toNat ≤ 1 ∧ s.partOn u.val = some p ∧ p.group = [u.val] ∧ f.mask.toNat = 2 ^ (u.val % 8) ∧ a = 64 * (s.getS u.val f.sa.toNat).toNat ∧ b = 64 * (s.getS u.val f.da.toNat).toNat ∧ s.cleanUnits (s.hrOn u.val) a 1 ∧ s.cleanUnits (s.hrOn u.val) b 1 ∧ s.weightGuarded b 64 = false) :=
  ⟨⟨3, mvF 3, 0x2001000, 0x2002000, 1, mvW 1 (mvF 3) bStream, by decide +kernel⟩,
   ⟨3, { mvF 3 with units1 := 1 }, 0x2001000, 0x2002000, 2, mvW 4 { mvF 3 with units1 := 1 } bStream, by decide +kernel⟩,
   ⟨3, mvF 3, 0x2001000, 0x2000, 1, bRunPart, mvW 2 (mvF 3) bStream, by decide +kernel⟩,
   ⟨3, mvF 3, 0x2001000, 0x2002000, bRunPart, mvW 3 (mvF 3) bStream, by decide +kernel⟩⟩

theorem wit_TilesUseCues :
    (∃ (u : Fin 32) (f : SyFields) (h : Nat) (c : Nat) (s : State), s.issues u.val (.sySignal u f) = true ∧ h = s.hrOn u.val ∧ c = syCue u.val f s ∧ 256 ≤ c ∧ s.mayCue h c 1 = true ∧ s.cueFaulted c = false ∧ isBarrier (s.cueCfg c) = false ∧ cfgNotify (s.cueCfg c) = false ∧ s.cues.waiters = [] ∧ s.noTriggers c ∧ s.cueCount 0 c + f.n.toNat ≤ 0xFFFFFFFF) ∧
    (∃ (u : Fin 32) (f : SyFields) (h : Nat) (c : Nat) (s : State), s.issues u.val (.sySet u f) = true ∧ h = s.hrOn u.val ∧ c = syCue u.val f s ∧ 256 ≤ c ∧ s.mayCue h c 5 = true ∧ s.cueFaulted c = false ∧ isBarrier (s.cueCfg c) = false ∧ cfgNotify (s.cueCfg c) = false ∧ s.cues.waiters = [] ∧ s.noTriggers c) ∧
    (∃ (u : Fin 32) (f : SyFields) (h : Nat) (c : Nat) (s : State), s.issues u.val (.syTest u f) = true ∧ h = s.hrOn u.val ∧ c = syCue u.val f s ∧ s.mayCue h c 4 = true ∧ s.cueFaulted c = false) ∧
    (∃ (u : Fin 32) (f : SyFields) (h : Nat) (c : Nat) (s : State), s.issues u.val (.syTake u f) = true ∧ h = s.hrOn u.val ∧ c = syCue u.val f s ∧ s.mayCue h c 6 = true ∧ s.cueFaulted c = false ∧ ((256 ≤ c → isBarrier (s.cueCfg c) = false)) ∧ s.cueList h c = []) ∧
    (∃ (u : Fin 32) (f : SyFields) (h : Nat) (c : Nat) (s : State), s.issues u.val (.syWait u f) = true ∧ h = s.hrOn u.val ∧ c = syCue u.val f s ∧ s.mayCue h c 2 = true ∧ s.cueFaulted c = false ∧ ((256 ≤ c → isBarrier (s.cueCfg c) = false)) ∧ s.cueList h c = [] ∧ f.n.toNat ≤ s.cueCount h c) ∧
    (∃ (u : Fin 32) (f : SyFields) (h : Nat) (c : Nat) (s : State), s.issues u.val (.syWait u f) = true ∧ h = s.hrOn u.val ∧ c = syCue u.val f s ∧ s.mayCue h c 2 = true ∧ s.cueFaulted c = false ∧ ((256 ≤ c → isBarrier (s.cueCfg c) = false)) ∧ s.cueCount h c < f.n.toNat ∧ s.poolUsed h < s.regF (hrP h) 0x0C8 31 16 ∧ s.cues.waiters.length < 8192) ∧
    (∃ (u : Fin 32) (f : SyFields) (h : Nat) (c : Nat) (s : State), s.issues u.val (.syWaitany u f) = true ∧ h = s.hrOn u.val ∧ c = (s.getS u.val 1).toNat % 0x10000 ∧ c ≠ 0 ∧ s.mayCue h c 2 = true ∧ s.cueFaulted c = false ∧ ((256 ≤ c → isBarrier (s.cueCfg c) = false)) ∧ s.cueList h c = [] ∧ f.n.toNat ≤ s.cueCount h c) ∧
    (∃ (u : Fin 32) (f : SyFields) (h : Nat) (c : Nat) (s : State), s.issues u.val (.syArrive u f) = true ∧ h = s.hrOn u.val ∧ c = syCue u.val f s ∧ 256 ≤ c ∧ s.mayCue h c 3 = true ∧ s.cueFaulted c = false ∧ isBarrier (s.cueCfg c) = true ∧ s.cueCount 0 c + 1 < cfgArg (s.cueCfg c) ∧ s.poolUsed h < s.regF (hrP h) 0x0C8 31 16 ∧ s.cues.waiters.length < 8192) :=
  ⟨⟨3, syF 5, 0, 262, syW 1 0 (syF 5) (bRunCue 0 7), by decide +kernel⟩,
   ⟨3, syF 5, 0, 262, syW 5 0 (syF 5) (bRunCue 0 7), by decide +kernel⟩,
   ⟨3, syF 5, 0, 262, syW 4 1 (syF 5) (bRunCue 0 7), by decide +kernel⟩,
   ⟨3, syF 5, 0, 262, syW 6 1 (syF 5) (bRunCue 0 7), by decide +kernel⟩,
   ⟨3, syF 7, 0, 262, syW 2 0 (syF 7) (bRunCue 0 7), by decide +kernel⟩,
   ⟨3, syF 8, 0, 262, syW 2 0 (syF 8) (bRunCue 0 7), by decide +kernel⟩,
   ⟨3, syF 7, 0, 262, syW 7 1 (syF 7) bAny, by decide +kernel⟩,
   ⟨3, syF 0, 0, 262, syW 3 0 (syF 0) (bRunCue 0x8003 1), by decide +kernel⟩⟩

theorem wit_FencesAndTags :
    (∃ (u : Fin 32) (f : SyFields) (s : State), s.issues u.val (.syFence u f) = true) ∧
    (∃ (u : Fin 32) (first : BitVec 13) (count1 : BitVec 13) (v : BitVec 2) (s : State), s.issues u.val (.syTags u first count1 v) = true) :=
  ⟨⟨3, syF 0, syW 8 0 (syF 0) bRun, by decide +kernel⟩,
   ⟨3, 8191, 0, 2, atPc (opW 4 9 0 + 8191 * 2 ^ 35 + 2 * 2 ^ 20) bRun, by decide +kernel⟩⟩

theorem wit_ScalarsAndBranches :
    (∃ (u : Fin 32) (f : CtFields) (s : State), s.issues u.val (.ctSets u f) = true) ∧
    (∃ (u : Fin 32) (op : CtAluOp) (f : CtFields) (s : State), s.issues u.val (.ctAlu u op f) = true) ∧
    (∃ (u : Fin 32) (f : CtFields) (s : State), s.issues u.val (.ctBr u f) = true ∧ ctCond f.cond.toNat (s.getS u.val f.ra.toNat) (s.getS u.val f.rb.toNat) = some true) ∧
    (∃ (u : Fin 32) (f : CtFields) (s : State), s.issues u.val (.ctBr u f) = true ∧ ctCond f.cond.toNat (s.getS u.val f.ra.toNat) (s.getS u.val f.rb.toNat) = some false) ∧
    (∃ (u : Fin 32) (f : CtFields) (s : State), s.issues u.val (.ctLoop u f) = true ∧ f.imm.toNat % 2 ^ 20 ≠ 0 ∧ s.getS u.val f.ra.toNat = 0) ∧
    (∃ (u : Fin 32) (f : CtFields) (s : State), s.issues u.val (.ctLoop u f) = true ∧ f.imm.toNat % 2 ^ 20 ≠ 0 ∧ s.getS u.val f.ra.toNat ≠ 0) ∧
    (∃ (u : Fin 32) (f : CtFields) (s : State), s.issues u.val (.ctLoop u f) = true ∧ f.imm.toNat % 2 ^ 20 = 0) ∧
    (∃ (u : Fin 32) (f : CtFields) (s : State), s.issues u.val (.ctPhase u f) = true ∧ bankMapOk (word (f.imm.toNat % 2 ^ 32)) = true) ∧
    (∃ (u : Fin 32) (f : CtFields) (p : Part) (s : State), s.issues u.val (.ctTid u f) = true ∧ s.partOn u.val = some p ∧ f.rd.toNat ≠ 0 ∧ f.rd.toNat + 2 < 16) :=
  ⟨⟨3, ctF 0 0 0 0x1FFFFFFFF, ctW 1 0 (ctF 0 0 0 0x1FFFFFFFF) bRun, by decide +kernel⟩,
   ⟨3, .sar, ctF 0 1 3 0, ctW 2 0 (ctF 0 1 3 0) bRun, by decide +kernel⟩,
   ⟨3, ctF 3 3 4 6, ctW 3 0 (ctF 3 3 4 6) bRun, by decide +kernel⟩,
   ⟨3, ctF 3 4 3 6, ctW 3 0 (ctF 3 4 3 6) bRun, by decide +kernel⟩,
   ⟨3, ctF 0 0 0 2, ctW 4 0 (ctF 0 0 0 2) bRun, by decide +kernel⟩,
   ⟨3, ctF 0 4 0 2, ctW 4 0 (ctF 0 4 0 2) bRun, by decide +kernel⟩,
   ⟨3, ctF 0 4 0 0, ctW 4 0 (ctF 0 4 0 0) bRun, by decide +kernel⟩,
   ⟨3, ctF 0 0 0 0x24, ctW 5 0 (ctF 0 0 0 0x24) bRun, by decide +kernel⟩,
   ⟨3, ctF 0 0 0 0, bRunPart, ctW 9 0 (ctF 0 0 0 0) bRun, by decide +kernel⟩⟩

theorem wit_YieldsEndsAndScalarAccesses :
    (∃ (u : Fin 32) (f : CtFields) (p : Part) (s : State), s.issues u.val (.ctYield u f) = true ∧ s.partOn u.val = some p ∧ f.imm.toNat % 2 ^ 8 < s.readNat (p.image + 0x38) 4 % 0x10000 ∧ s.errFree (p.image + 0x38) 4 = true ∧ s.rangePoison (p.image + 0x38) 4 = false ∧ s.actStopping u.val = false ∧ s.switchPending u.val = false ∧ ((∀ k ∈ p.group, (s.tile k).wait.atBarrier = false))) ∧
    (∃ (u : Fin 32) (f : CtFields) (s : State), s.issues u.val (.ctEnd u f) = true ∧ (s.tile u.val).leaving = false ∧ s.tilePlaced u.val = true ∧ s.pageState (hrP (s.tileHr u.val)) ≠ .idle) ∧
    (∃ (u : Fin 32) (f : CtFields) (s : State), s.issues u.val (.ctMtn u f) = true ∧ f.rd.toNat ≠ 0 ∧ f.rd.toNat ≠ 15) ∧
    (∃ (u : Fin 32) (f : CtFields) (a : Nat) (s : State), s.issues u.val (.ctLds u f) = true ∧ a = ((s.getS u.val f.ra.toNat).toNat + f.imm.toNat) / 4 * 4 ∧ (levelAt s.chip.grade a).isCommons = true ∧ s.reachesAll (s.hrOn u.val) a 4 = true ∧ s.errFree a 4 = true ∧ s.sram.flits = []) ∧
    (∃ (u : Fin 32) (f : CtFields) (a : Nat) (s : State), s.issues u.val (.ctSts u f) = true ∧ a = ((s.getS u.val f.ra.toNat).toNat + f.imm.toNat) / 4 * 4 ∧ (levelAt s.chip.grade a).isCommons = true ∧ s.reachesAll (s.hrOn u.val) a 4 = true ∧ s.errFree a 4 = true ∧ s.sram.flits = [] ∧ s.weightGuarded a 4 = false) :=
  ⟨⟨3, ctF 0 0 0 3, bRunPart, ctW 6 0 (ctF 0 0 0 3) bRun, by decide +kernel⟩,
   ⟨3, ctF 0 0 0 0, ctW 7 0 (ctF 0 0 0 0) bRun, by decide +kernel⟩,
   ⟨3, ctF 0 0 0 0, { ctW 8 1 (ctF 0 0 0 0) bRun with mtn := 0x500000007 }, by decide +kernel⟩,
   ⟨3, ctF 0 0 0 0x2001007, 0x2001004, ctW 0xA 0 (ctF 0 0 0 0x2001007) bStream, by decide +kernel⟩,
   ⟨3, ctF 0 0 1 0x2001007, 0x2001004, ctW 0xB 0 (ctF 0 0 1 0x2001007) bStream, by decide +kernel⟩⟩

theorem wit_ChecksJudge :
    (∃ (u : Fin 32) (f : CkFields) (e : Elem) (a : Nat) (n : Nat) (s : State), s.issues u.val (.ckCrc u f) = true ∧ elemOf f.fmt.toNat = some e ∧ f.rd ≠ 0 ∧ a = 64 * (s.getS u.val f.ra.toNat).toNat ∧ n = (s.getS u.val f.rl.toNat).toNat ∧ s.cleanUnits (s.hrOn u.val) a n) ∧
    (∃ (u : Fin 32) (f : CkFields) (g : FpFmt) (a : Nat) (n : Nat) (s : State), s.issues u.val (.ckFin u f) = true ∧ elemOf f.fmt.toNat = some (.fp g) ∧ f.rd ≠ 0 ∧ a = 64 * (s.getS u.val f.ra.toNat).toNat ∧ n = (s.getS u.val f.rl.toNat).toNat ∧ s.cleanUnits (s.hrOn u.val) a n) ∧
    (∃ (u : Fin 32) (f : CkFields) (b : Nat) (a : Nat) (n : Nat) (s : State), s.issues u.val (.ckBound u f) = true ∧ elemOf f.fmt.toNat = some (.int b) ∧ f.rd ≠ 0 ∧ a = 64 * (s.getS u.val f.ra.toNat).toNat ∧ n = (s.getS u.val f.rl.toNat).toNat ∧ s.cleanUnits (s.hrOn u.val) a n) ∧
    (∃ (u : Fin 32) (f : CkFields) (s : State), s.issues u.val (.ckTrap u f) = true ∧ s.getS u.val f.rd.toNat = 0) ∧
    (∃ (u : Fin 32) (f : CkFields) (s : State), s.issues u.val (.ckTrap u f) = true ∧ s.getS u.val f.rd.toNat ≠ 0) ∧
    (∃ (u : Fin 32) (f : CkFields) (p : Part) (x : Activation) (a : Nat) (s : State), s.issues u.val (.ckStamp u f) = true ∧ s.partOn u.val = some p ∧ p.act = some x ∧ a = 64 * (s.getS u.val f.ra.toNat).toNat ∧ s.cleanUnits (s.hrOn u.val) a 1 ∧ s.reachesAll (s.hrOn u.val) a 32 = true ∧ s.weightGuarded a 32 = false) :=
  ⟨⟨3, ckF 1 7, .int 8, 0x2001000, 1, ckW 1 (ckF 1 7) bStream, by decide +kernel⟩,
   ⟨3, ckF 6 7, fF16, 0x2001000, 1, ckW 2 (ckF 6 7) bStream, by decide +kernel⟩,
   ⟨3, ckF 3 7, 32, 0x2001000, 1, ckW 3 (ckF 3 7) bStream, by decide +kernel⟩,
   ⟨3, ckF 3 7, ckW 4 (ckF 3 7) bRun, by decide +kernel⟩,
   ⟨3, ckF 3 4, ckW 4 (ckF 3 4) bRun, by decide +kernel⟩,
   ⟨3, ckF 3 4, bRunPart, { bAct with onTiles := true, number := 5 }, 0x2001000, ckW 5 (ckF 3 4) bStream, by decide +kernel⟩⟩

def bReadyWith (a : Activation) : State := (put 0x2000C00 [5] (put 0x2000408 (wordsOf [0x800]) ((bRun.modTile 3 fun x => { x with act := none, touched := [(0x300000, 64)] }).modHr 0 fun r =>
  { r with score := some ⟨0, 0, 4, 0, [{ bRunPart with act := some a }]⟩ })))
def bReady : State := bReadyWith bAct
def bSaved : Activation := { bAct with saved := some 2 }
def bStop : State := (bRun.modTile 3 fun x => { x with wait := .tag false 1 5 }).modHr 0 fun r =>
  { r with score := some ⟨0, 0, 4, 0, [{ bRunPart with act := some { bAct with onTiles := true, stopping := true } }]⟩ }
def bBarrier : State := put 0x2000408 (wordsOf [0x800]) (bRun.modTile 3 fun x => { x with wait := .barrier 2 })
def bRival : State := bBarrier.modHr 0 fun r =>
  { r with score := some ⟨0, 0, 4, 0, [bRunPart, { bRunPart with act := some { bAct with deadline := 500 } }]⟩ }
def bBarStop : State := bStop.modTile 3 fun x => { x with wait := .barrier 2 }
def bWaitOn (w : TileWait) : State := bRun.modTile 3 fun x => { x with wait := w, waitSince := 100, waitUs := 5 }
def bBist : State := (b0.toState (sectP 0) .running).toState (tileP 3) .idle
def bUnder : State := bPend (sectP 0) 0x10 (bBist.modTile 3 fun x => { x with underBist := true })
def bHdr : CsiHeader := { bytes01 := 7, ecc := .clean, time := 5000, parity := false }
def bCam (pfe : PageState) : State :=
  ((((b0.toState (camP 2) .running).toState (pfeP 2) pfe).setRegN (camP 2) 0x040 0x5DC2A02).setRegN (camP 2) 0x044 0x10004).setRegN (pfeP 2) 0x064 0x10001
def bFrame : CamFrame := { fn := 7, fs := 100, fe := none, lines := [], got := 0, err := false, discard := false, sample := none, started := false, mesh := [], cfgCrc := 0, rows := 0, poisoned := false }
def bInFrame (f : CamFrame) : State := (bCam .running).modCam 2 fun c => { c with frame := some f }
def bDone : CamFrame := { bFrame with lines := [[1, 2, 3, 4]], got := 1, rows := 1, started := true }
def bWaitCam : State := (bCam .running).modCam 2 fun c => { c with waiting := [{ bDone with fe := some 900 }], seq := 0xFFFFFFFF }
def bSample : State :=
  let s := (((((bCam .running).setRegN (pfeP 2) 0x040 0x2A01).setRegN (pfeP 2) 0x0A4 0x20004).setRegN (pfeP 2) 0x0A8 0x80000106).setCueCount 0 262 3).setReg64 (pfeP 2) 0x098 0x2001000
  s.setRegN (pfeP 2) 0x088 (crc32 (s.readGrant 0 (64 * s.regF (pfeP 2) 0x084 23 0) (s.meshBytes 2))).toNat
def bQueue (p : PageRef) : State := ((((b0.toState p .running).setRegN p 0x064 0x80000106).setCueCount 0 262 3).setRegN (hrP 0) 0x044 100).setRegN p 0x060 0x04000000
def bDpp : State := { bQueue dppP with tempo := { (bQueue dppP).tempo with ticks := true } }
def bDet : DppJob := ⟨0, 0, wordsOf [0x2001000, 0, 0x2002000, 0, 0x10001, 1, 5, 64, 0x101, 0, 0, 0, 0, 0, 0x101, 0x70001] ++ List.replicate 64 0, false⟩
def bDetect : State := { bDpp with dpp := { bDpp.dpp with job := some bDet } }
def bWeight : State := (bTempo.toState (weightP 2) .armed)
def bCopyDesc (op : Nat) : List Byte := wordsOf [0x2001000, 0, 0x2002000, 0, op, 0, 8, if op = 3 then 1 else 0, 0x1000] ++ List.replicate 28 0
def bCodec (op : Nat) : State := put 0x2000000 (bCopyDesc op) (bQueue codecP)
def bHeadBytes (wpkf : Bool) : List Byte :=
  wordsOf [if wpkf then 0x464B5057 else 0x564B5041, if wpkf then 0x10001 else 1, 1, 8, 64, 128, 256, 512] ++ List.replicate 32 0
def bStreamHead (wpkf : Bool) : StreamHead := ⟨wpkf, wpkf.toNat, 1, 8, 64, 128, 256, 512⟩
def bDecode (wpkf : Bool) : State := put 0x2001000 (bHeadBytes wpkf) (bCodec (if wpkf then 1 else 2))
def bCopyJob (past : Nat) : CodecJob :=
  { hr := 0, index := 0, at' := 0, desc := bCopyDesc 4, dst := 0x2002000, epoch := 0, head := none, headBad := false, lastOff := none, next := 0, past := past,
    encoded := [], bytes := 0, crc := 0xFFFFFFFF, poisoned := false, stopped := false }
def bCopying (past : Nat) : State := let s := (bCodec 4).setCueCount 0 262 0; { s with codec := { s.codec with jobs := [bCopyJob past] } }
theorem wit_ActivationsStartAndStop :
    (∃ (h : Fin 8) (i : Nat) (u : Fin 32) (p : Part) (a : Activation) (e : Nat) (s : State), s.part? h.val i = some p ∧ p.act = some a ∧ p.group = [u.val] ∧ a.onTiles = false ∧ a.stopping = false ∧ a.saved = none ∧ p.unfit = false ∧ p.throttled = false ∧ s.rivals h.val i p.group = [] ∧ (s.tile u.val).act = none ∧ (s.tile u.val).leaving = false ∧ s.pageState (tileP u.val) = .running ∧ s.dyn.tripped = false ∧ s.inState (hrP h.val) activeStates = true ∧ e = p.image + s.readNat (p.image + 0x28) 4 ∧ s.sram.poison = [] ∧ s.sram.errs = [] ∧ s.sram.condemned = [] ∧ ((∀ r ∈ (s.tile u.val).touched, r.1 + r.2 ≤ 0x2000000)) ∧ 0x2000000 ≤ p.image) ∧
    (∃ (h : Fin 8) (i : Nat) (k : Nat) (c : Nat) (u : Fin 32) (p : Part) (a : Activation) (s : State), s.part? h.val i = some p ∧ p.act = some a ∧ p.group = [u.val] ∧ a.onTiles = false ∧ a.stopping = false ∧ a.saved = some k ∧ p.unfit = false ∧ p.throttled = false ∧ s.rivals h.val i p.group = [] ∧ (s.tile u.val).act = none ∧ (s.tile u.val).leaving = false ∧ s.pageState (tileP u.val) = .running ∧ s.dyn.tripped = false ∧ s.inState (hrP h.val) activeStates = true ∧ c = p.image + s.readNat (p.image + 8) 4 ∧ s.sram.poison = [] ∧ s.sram.errs = [] ∧ s.sram.condemned = [] ∧ ((∀ r ∈ (s.tile u.val).touched, r.1 + r.2 ≤ 0x2000000)) ∧ 0x2000000 ≤ p.image) ∧
    (∃ (u : Fin 32) (s : State), s.actStopping u.val = true ∧ stopPoint (s.tile u.val).wait = true ∧ (s.tile u.val).leaving = false ∧ (s.tile u.val).act.isSome = true) :=
  ⟨⟨0, 0, 3, { bRunPart with act := some bAct }, bAct, 0x2000400, bReady, by decide +kernel⟩,
   ⟨0, 0, 2, 0x2000C00, 3, { bRunPart with act := some bSaved }, bSaved, bReadyWith bSaved, by decide +kernel⟩,
   ⟨3, bStop, by decide +kernel⟩⟩

theorem wit_YieldBarriersRelease :
    (∃ (h : Fin 8) (i : Nat) (k : Nat) (u : Fin 32) (p : Part) (s : State), s.part? h.val i = some p ∧ p.group = [u.val] ∧ (s.tile u.val).wait = .barrier k ∧ (s.tile u.val).act = some (h.val, i) ∧ s.actStopping u.val = false ∧ s.switchPending u.val = false) ∧
    (∃ (h : Fin 8) (i : Nat) (k : Nat) (c : Nat) (n : Nat) (u : Fin 32) (p : Part) (s : State), s.part? h.val i = some p ∧ p.group = [u.val] ∧ (s.tile u.val).wait = .barrier k ∧ (s.tile u.val).act = some (h.val, i) ∧ s.actStopping u.val = false ∧ s.switchPending u.val = true ∧ (s.tile u.val).position = 0 ∧ c = p.image + s.readNat (p.image + 8) 4 ∧ n = (s.saveSlots p.image k).length ∧ s.sram.errs = [] ∧ s.sram.condemned = [] ∧ s.sram.poison = [] ∧ (p.image + s.readNat (p.image + 0x34) 4 + 16 * k + 16 ≤ c) ∧ p.image + 0x80 ≤ c ∧ 0x2000000 ≤ c) ∧
    (∃ (h : Fin 8) (i : Nat) (k : Nat) (u : Fin 32) (p : Part) (s : State), s.part? h.val i = some p ∧ p.group = [u.val] ∧ (s.tile u.val).wait = .barrier k ∧ (s.tile u.val).act = some (h.val, i) ∧ s.actStopping u.val = true ∧ (s.tile u.val).leaving = false) :=
  ⟨⟨0, 0, 2, 3, bRunPart, bBarrier, by decide +kernel⟩,
   ⟨0, 0, 2, 0x2000C00, 0, 3, bRunPart, bRival, by decide +kernel⟩,
   ⟨0, 0, 2, 3, { bRunPart with act := some { bAct with onTiles := true, stopping := true } }, bBarStop, by decide +kernel⟩⟩

theorem wit_StallsAreFaults :
    (∃ (u : Fin 32) (w : TileWait) (info : Nat) (code : Nat) (s : State), (s.tile u.val).wait = w ∧ (s.tile u.val).act.isSome = true ∧ s.actStopping u.val = false ∧ s.inState (tileP u.val) [.running, .hold] = true ∧ (((∃ k, k < 8192 ∧ w = .tag false clsWide k ∧ info = 0x10000000 + clsWide * 0x1000000 + k ∧ code = 0x63) ∨ (∃ k, k < 8192 ∧ w = .tag true clsNarrow k ∧ info = 0x20000000 + clsNarrow * 0x1000000 + k ∧ code = 0x63) ∨ w = .sectionNet ∧ info = 0x30000000 ∧ code = 0x64 ∨ w.atBarrier = true ∧ info = 0x40000000 ∧ code = 0x64))) ∧
    (∃ (u : Fin 32) (w : TileWait) (info : Nat) (code : Nat) (s : State), (s.tile u.val).wait = w ∧ (s.tile u.val).act.isSome = true ∧ s.actStopping u.val = false ∧ s.inState (tileP u.val) [.running, .hold] = true ∧ (((∃ k, k < 8192 ∧ w = .tag false clsWide k ∧ info = 0x10000000 + clsWide * 0x1000000 + k ∧ code = 0x63) ∨ (∃ k, k < 8192 ∧ w = .tag true clsNarrow k ∧ info = 0x20000000 + clsNarrow * 0x1000000 + k ∧ code = 0x63) ∨ w = .sectionNet ∧ info = 0x30000000 ∧ code = 0x64 ∨ w.atBarrier = true ∧ info = 0x40000000 ∧ code = 0x64))) ∧
    (∃ (u : Fin 32) (w : TileWait) (info : Nat) (code : Nat) (s : State), (s.tile u.val).wait = w ∧ (s.tile u.val).act.isSome = true ∧ s.actStopping u.val = false ∧ s.inState (tileP u.val) [.running, .hold] = true ∧ (((∃ k, k < 8192 ∧ w = .tag false clsWide k ∧ info = 0x10000000 + clsWide * 0x1000000 + k ∧ code = 0x63) ∨ (∃ k, k < 8192 ∧ w = .tag true clsNarrow k ∧ info = 0x20000000 + clsNarrow * 0x1000000 + k ∧ code = 0x63) ∨ w = .sectionNet ∧ info = 0x30000000 ∧ code = 0x64 ∨ w.atBarrier = true ∧ info = 0x40000000 ∧ code = 0x64))) ∧
    (∃ (u : Fin 32) (w : TileWait) (info : Nat) (code : Nat) (s : State), (s.tile u.val).wait = w ∧ (s.tile u.val).act.isSome = true ∧ s.actStopping u.val = false ∧ s.inState (tileP u.val) [.running, .hold] = true ∧ (((∃ k, k < 8192 ∧ w = .tag false clsWide k ∧ info = 0x10000000 + clsWide * 0x1000000 + k ∧ code = 0x63) ∨ (∃ k, k < 8192 ∧ w = .tag true clsNarrow k ∧ info = 0x20000000 + clsNarrow * 0x1000000 + k ∧ code = 0x63) ∨ w = .sectionNet ∧ info = 0x30000000 ∧ code = 0x64 ∨ w.atBarrier = true ∧ info = 0x40000000 ∧ code = 0x64))) ∧
    (∃ (u : Fin 32) (s : State), s.canIssue u.val = true ∧ (presentBits s.chip.grade).contains u.val = true ∧ s.isExcused u.val = false ∧ present s.chip.grade (tileP u.val) = true) :=
  ⟨⟨3, .sectionNet, 0x30000000, 0x64, bWaitOn .sectionNet, by decide +kernel, by decide +kernel, by decide +kernel, by decide +kernel, .inr (.inr (.inl ⟨rfl, rfl, rfl⟩))⟩,
   ⟨3, .tag true clsNarrow 9, 0x22000009, 0x63, bWaitOn (.tag true clsNarrow 9), by decide +kernel, by decide +kernel, by decide +kernel, by decide +kernel, .inr (.inl ⟨9, by decide, rfl, rfl, rfl⟩)⟩,
   ⟨3, .tag false clsWide 9, 0x11000009, 0x63, bWaitOn (.tag false clsWide 9), by decide +kernel, by decide +kernel, by decide +kernel, by decide +kernel, .inl ⟨9, by decide, rfl, rfl, rfl⟩⟩,
   ⟨3, .barrier 2, 0x40000000, 0x64, bWaitOn (.barrier 2), by decide +kernel, by decide +kernel, by decide +kernel, by decide +kernel, .inr (.inr (.inr ⟨rfl, rfl, rfl⟩))⟩,
   ⟨3, bRun, by decide +kernel⟩⟩

theorem wit_TilesAreTested :
    (∃ (r : Requester) (u : Fin 32) (arg : BitVec 24) (s : State), s.commands r (tileP u.val) = true ∧ s.inState (tileP u.val) [.idle, .running] = true ∧ s.anyTorque = false ∧ (s.tile u.val).inject = none ∧ arg.toNat / 256 % 64 ≤ 32) ∧
    (∃ (r : Requester) (q : Fin 4) (arg : BitVec 24) (s : State), s.commands r (sectP q.val) = true ∧ s.pageState (sectP q.val) = .running ∧ arg.toNat % 256 ≠ 0 ∧ ((∀ k, k < 8 → (arg.toNat % 256).testBit k = true → s.isExcused (8 * q.val + k) = false ∧ s.pageState (tileP (8 * q.val + k)) = .idle))) ∧
    (∃ (q : Fin 4) (passed : BitVec 8) (failMap : BitVec 28) (c : PendCmd) (s : State), ((∃ k, k < 8 ∧ (s.tile (8 * q.val + k)).underBist = true)) ∧ ((∀ k, k < 8 → (s.tile (8 * q.val + k)).underBist = true → passed.getLsbD k = true)) ∧ (s.page (sectP q.val)).pending = some c) ∧
    (∃ (q : Fin 4) (passed : BitVec 8) (failMap : BitVec 28) (k : Nat) (s : State), k < 8 ∧ ((∀ j, j < 8 → (s.tile (8 * q.val + j)).underBist = decide (j = k))) ∧ passed.getLsbD k = false ∧ (presentBits s.chip.grade).contains (8 * q.val + k) = true ∧ s.isExcused (8 * q.val + k) = false) :=
  ⟨⟨core0, 3, 0x1405, bBist, by decide +kernel⟩,
   ⟨core0, 0, 8, bBist, by decide +kernel⟩,
   ⟨0, 8, 0, ⟨0x10, 1, .running, 0⟩, put 0x300040 [1, 2] bUnder, by decide +kernel⟩,
   ⟨0, 0, 5, 3, bUnder, by decide +kernel⟩⟩

theorem wit_FramesAreGathered :
    (∃ (n : Fin 12) (fn : BitVec 16) (hdr : CsiHeader) (s : State), s.camOn n.val = true ∧ hdr.ecc ≠ .double ∧ hdr.parity = false ∧ s.camTakes n.val = true ∧ (s.cam n.val).frame = none ∧ (s.cam n.val).camQuiescing = false ∧ (s.cam n.val).pfeQuiescing = false ∧ s.sram.condemned = []) ∧
    (∃ (n : Fin 12) (fn : BitVec 16) (hdr : CsiHeader) (s : State), s.camOn n.val = true ∧ hdr.ecc = .clean ∧ hdr.parity = false ∧ s.pageState (camP n.val) = .running ∧ s.pageState (pfeP n.val) ≠ .running ∧ (s.cam n.val).frame = none) ∧
    (∃ (n : Fin 12) (hdr : CsiHeader) (payload : List Byte) (f : CamFrame) (s : State), s.camOn n.val = true ∧ hdr.ecc ≠ .double ∧ hdr.parity = false ∧ (s.cam n.val).frame = some f ∧ f.discard = false ∧ f.err = false ∧ payload.length = lineBytes (s.camDt n.val) (s.camW n.val) ∧ s.storeUsed n.val < 16 ∧ s.sram.condemned = []) ∧
    (∃ (n : Fin 12) (fn : BitVec 16) (hdr : CsiHeader) (f : CamFrame) (s : State), s.camOn n.val = true ∧ hdr.ecc = .clean ∧ hdr.parity = false ∧ (s.cam n.val).frame = some f ∧ f.discard = false ∧ f.err = false ∧ f.fn = fn.toNat ∧ f.got = s.camH n.val ∧ (s.cam n.val).waiting = [] ∧ (s.cam n.val).sample = none ∧ f.started = true ∧ s.regF (pfeP n.val) 0x064 28 16 ≤ f.rows) ∧
    (∃ (n : Fin 12) (hdr : CsiHeader) (s : State), s.camOn n.val = true ∧ hdr.ecc = .clean ∧ hdr.parity = false) :=
  ⟨⟨2, 7, bHdr, bCam .running, by decide +kernel⟩,
   ⟨2, 7, bHdr, bCam .idle, by decide +kernel⟩,
   ⟨2, bHdr, [1, 2, 3, 4], bFrame, bInFrame bFrame, by decide +kernel⟩,
   ⟨2, 7, bHdr, bDone, bInFrame bDone, by decide +kernel⟩,
   ⟨2, bHdr, bCam .running, by decide +kernel⟩⟩

theorem wit_CameraErrorsAreRecorded :
    (∃ (n : Fin 12) (hdr : CsiHeader) (f : CamFrame) (s : State), s.camOn n.val = true ∧ hdr.ecc = .double ∧ hdr.parity = false ∧ s.camTakes n.val = true ∧ (s.cam n.val).frame = some f ∧ f.discard = false ∧ f.err = false) ∧
    (∃ (n : Fin 12) (hdr : CsiHeader) (payload : List Byte) (f : CamFrame) (s : State), s.camOn n.val = true ∧ hdr.ecc ≠ .double ∧ hdr.parity = false ∧ (s.cam n.val).frame = some f ∧ f.discard = false ∧ f.err = false) ∧
    (∃ (n : Fin 12) (f : CamFrame) (s : State), (s.cam n.val).frame = some f ∧ f.discard = false ∧ f.err = false) ∧
    (∃ (n : Fin 12) (s : State), s.camTakes n.val = true ∧ (s.cam n.val).frame = none) ∧
    (∃ (n : Fin 12) (s : State), s.camTakes n.val = true ∧ (s.cam n.val).frame = none ∧ (s.cam n.val).waiting = []) :=
  ⟨⟨2, { bHdr with ecc := .double }, bFrame, bInFrame bFrame, by decide +kernel⟩,
   ⟨2, bHdr, [1, 2, 3], bFrame, bInFrame bFrame, by decide +kernel⟩,
   ⟨2, bFrame, bInFrame bFrame, by decide +kernel⟩,
   ⟨2, bCam .running, by decide +kernel⟩,
   ⟨2, bCam .running, by decide +kernel⟩⟩

theorem wit_FramesCommit :
    (∃ (n : Fin 12) (time : Dword) (f : CamFrame) (a : Nat) (fe : Nat) (s : State), (s.cam n.val).sample = none ∧ (s.cam n.val).waiting = [f] ∧ (s.cam n.val).frame = none ∧ f.discard = false ∧ f.err = false ∧ f.sample = none ∧ f.started = true ∧ f.fe = some fe ∧ s.regF (pfeP n.val) 0x064 28 16 ≤ f.rows ∧ bit (s.reg (pfeP n.val) 0x090) 31 = false ∧ s.grantAddr (s.page (pfeP n.val)).owner (64 * s.regF (pfeP n.val) 0x090 23 0 + s.regN (pfeP n.val) 0x0C4 % (s.regF (pfeP n.val) 0x090 30 28 + 1) * (64 + s.regF (pfeP n.val) 0x064 28 16 * s.regF (pfeP n.val) 0x094 23 0)) = some a ∧ s.cleanUnits (s.page (pfeP n.val)).owner a 1 ∧ s.sram.condemned = [] ∧ s.weightGuarded a 64 = false ∧ s.noTriggers (0x10 + n.val) ∧ s.cues.waiters = []) ∧
    (∃ (n : Fin 12) (a : Nat) (h : Nat) (cue : Nat) (i : Nat) (epoch : Nat) (j : Nat) (base : Nat) (len : Nat) (s : State), s.pageState (pfeP n.val) = .running ∧ s.pfeMem n.val = true ∧ bit (s.reg (pfeP n.val) 0x0A8) 31 = true ∧ (s.cam n.val).sample = none ∧ (s.cam n.val).pfeQuiescing = false ∧ h = (s.page (pfeP n.val)).owner ∧ cue = s.regF (pfeP n.val) 0x0A8 15 0 ∧ 0 < s.cueCount h cue ∧ s.regF (pfeP n.val) 0x0AC 27 24 = 0 ∧ i = s.regN (pfeP n.val) 0x0C0 ∧ epoch = s.regN (pfeP n.val) 0x0BC ∧ j = shuffle i (s.regN (pfeP n.val) 0x0B0) (s.reg64 (pfeP n.val) 0x0B4) epoch ∧ base = s.reg64 (pfeP n.val) 0x098 + j * s.regN (pfeP n.val) 0x0A0 ∧ len = (lineBytes (s.pfeSrc n.val).2.2 (s.pfeSrc n.val).1 + 63) / 64 * 64 ∧ ((∀ y, y < (s.pfeSrc n.val).2.1 → s.reachesAll h (base + y * len) len = true ∧ s.gatedAt (base + y * len) = false ∧ (levelAt s.chip.grade (base + y * len)).isCommons = true)) ∧ bit (s.reg (pfeP n.val) 0x090) 31 = false ∧ s.grantAddr h (64 * s.regF (pfeP n.val) 0x090 23 0 + s.regN (pfeP n.val) 0x0C4 % (s.regF (pfeP n.val) 0x090 30 28 + 1) * (64 + s.regF (pfeP n.val) 0x064 28 16 * s.regF (pfeP n.val) 0x094 23 0)) = some a ∧ s.reachesAll h a 64 = true ∧ (levelAt s.chip.grade a).isCommons = true ∧ s.weightGuarded a 64 = false ∧ s.meshOk n.val = true ∧ s.sram.errs = [] ∧ s.sram.condemned = [] ∧ s.sram.flits = []) :=
  ⟨⟨2, 5000, { bDone with fe := some 900 }, 0x2000000, 900, bWaitCam, by decide +kernel⟩,
   ⟨2, 0x2000000, 0, 262, 0, 0, (shuffle 0 (bSample.regN (pfeP 2) 0x0B0) (bSample.reg64 (pfeP 2) 0x0B4) 0), 0x2001000, 64, bSample, by decide +kernel⟩⟩

theorem wit_DetectionJobsRun :
    (∃ (h : Nat) (s : State), s.pageState dppP = .running ∧ s.dpp.job = none ∧ s.dpp.quiescing = false ∧ s.sram.errs = [] ∧ s.sram.condemned = [] ∧ (((List.range 8).map fun k => (s.dpp.last + 1 + k) % 8).find? fun h => s.qEn dppP h && decide (0 < s.cueCount h (s.regF dppP (0x064 + 8 * h) 15 0)) && !s.shareSpent h) = some h) ∧
    (∃ (ns : Nat) (j : DppJob) (d : DppDesc) (at' : Nat) (s : State), s.dpp.job = some j ∧ d = parseDpp j.desc ∧ j.stopped = false ∧ j.hr < 8 ∧ j.index < 0x10000 ∧ at' = s.qOffset dppP j.hr + 128 * j.index + 0x4C ∧ d.ok = true ∧ s.reachesAll j.hr d.src d.srcBytes = true ∧ s.cleanUnits j.hr d.dst (1 + (16 * d.maxDet + 63) / 64) ∧ s.sram.errs = [] ∧ s.sram.condemned = [] ∧ s.weightGuarded d.dst (64 + 16 * d.maxDet) = false ∧ ((∀ k, k < 4 → s.putOpen j.hr (at' + k) = true ∧ (s.grantAddr j.hr (at' + k)).all (fun a => decide (a < d.dst ∨ d.dst + 64 + 16 * d.maxDet ≤ a)) = true)) ∧ ((d.cue = 0 ∨ s.mayCue j.hr d.cue 1 = true)) ∧ s.noTriggers d.cue ∧ s.noTriggers 0x30 ∧ s.cues.waiters = []) :=
  ⟨⟨0, bDpp, by decide +kernel⟩,
   ⟨100, bDet, parseDpp bDet.desc, 0x4C, bDetect, by decide +kernel⟩⟩

theorem wit_WeightsAreBuiltAndSwitched :
    (∃ (r : Requester) (k : Fin 8) (s : State), s.commands r (weightP k.val) = true ∧ s.inState (weightP k.val) [.armed, .running] = true) ∧
    (∃ (r : Requester) (k : Fin 8) (s : State), s.commands r (weightP k.val) = true ∧ s.inState (weightP k.val) [.armed, .running] = true ∧ s.regF (weightP k.val) 0x050 14 0 ≤ s.regF (weightP k.val) 0x070 14 0 ∧ s.ticking = true) :=
  ⟨⟨core0, 2, bWeight, by decide +kernel⟩,
   ⟨core0, 2, (bWeight.setRegN (weightP 2) 0x070 3).setRegN (weightP 2) 0x050 3, by decide +kernel⟩⟩

theorem wit_CodecJobsRun :
    (∃ (h : Fin 8) (host : List HostChunk) (d : StreamHead) (s : State), s.codecTakes h.val 1 ∧ s.reachesAll h.val (s.codecNext h.val).src 64 = true ∧ parseHead (s.readBytes (s.codecNext h.val).src 64) = some d ∧ d.wpkf = true ∧ s.codecFits h.val d) ∧
    (∃ (h : Fin 8) (host : List HostChunk) (d : StreamHead) (s : State), s.codecTakes h.val 2 ∧ s.reachesAll h.val (s.codecNext h.val).src 64 = true ∧ parseHead (s.readBytes (s.codecNext h.val).src 64) = some d ∧ d.wpkf = false ∧ s.codecFits h.val d) ∧
    (∃ (h : Fin 8) (host : List HostChunk) (s : State), s.codecTakes h.val 3 ∧ s.reachesAll h.val (s.codecNext h.val).src (s.codecNext h.val).raw = true ∧ s.reachesAll h.val (s.codecNext h.val).dstAt (s.codecNext h.val).limit = true) ∧
    (∃ (h : Fin 8) (host : List HostChunk) (s : State), s.codecTakes h.val 4 ∧ s.reachesAll h.val (s.codecNext h.val).src (s.codecNext h.val).raw = true ∧ s.reachesAll h.val ((s.codecNext h.val).dstAt + 4096 * (s.codecNext h.val).first) (s.codecNext h.val).raw = true) ∧
    (∃ (ns : Nat) (host : List HostChunk) (h : Fin 8) (j : CodecJob) (a : Nat) (b : Nat) (n : Nat) (s : State), s.pageState codecP = .running ∧ s.codec.jobs = [j] ∧ j.hr = h.val ∧ j.index < 0x10000 ∧ j.stopped = false ∧ j.op = 4 ∧ j.head = none ∧ j.next < j.past ∧ j.srcHost = false ∧ j.dstHost = false ∧ j.bankEn = false ∧ j.fill = false ∧ j.poisoned = false ∧ s.shareSpent h.val = false ∧ ((∀ k, k < 8 → k ≠ h.val → s.codecReady k = false)) ∧ a = j.src + 4096 * j.next ∧ b = j.dst + 4096 * (j.first + j.next) ∧ n = min 4096 (j.raw - 4096 * j.next) ∧ s.reachesAll h.val a n = true ∧ s.cleanUnits h.val b ((n + 63) / 64) ∧ s.sram.errs = [] ∧ s.sram.condemned = [] ∧ s.sram.poison = [] ∧ (levelAt s.chip.grade a).isCommons = true ∧ s.weightGuarded b (64 * ((n + 63) / 64)) = false ∧ ((j.next + 1 < j.past ∨ (∀ k, k < 12 → s.putOpen h.val (j.at' + 0x24 + k) = true ∧ (s.grantAddr h.val (j.at' + 0x24 + k)).all (fun x => decide (x < b ∨ b + n ≤ x)) = true) ∧ (j.cue = 0 ∨ s.mayCue h.val j.cue 1 = true) ∧ s.noTriggers j.cue ∧ s.noTriggers 0x31 ∧ s.cues.waiters = []))) ∧
    (∃ (ns : Nat) (host : List HostChunk) (h : Fin 8) (j : CodecJob) (a : Nat) (b : Nat) (n : Nat) (s : State), s.pageState codecP = .running ∧ s.codec.jobs = [j] ∧ j.hr = h.val ∧ j.index < 0x10000 ∧ j.stopped = false ∧ j.op = 4 ∧ j.head = none ∧ j.next < j.past ∧ j.srcHost = false ∧ j.dstHost = false ∧ j.bankEn = false ∧ j.fill = false ∧ j.poisoned = false ∧ s.shareSpent h.val = false ∧ ((∀ k, k < 8 → k ≠ h.val → s.codecReady k = false)) ∧ a = j.src + 4096 * j.next ∧ b = j.dst + 4096 * (j.first + j.next) ∧ n = min 4096 (j.raw - 4096 * j.next) ∧ s.reachesAll h.val a n = true ∧ s.cleanUnits h.val b ((n + 63) / 64) ∧ s.sram.errs = [] ∧ s.sram.condemned = [] ∧ s.sram.poison = [] ∧ (levelAt s.chip.grade a).isCommons = true ∧ s.weightGuarded b (64 * ((n + 63) / 64)) = false ∧ ((j.next + 1 < j.past ∨ (∀ k, k < 12 → s.putOpen h.val (j.at' + 0x24 + k) = true ∧ (s.grantAddr h.val (j.at' + 0x24 + k)).all (fun x => decide (x < b ∨ b + n ≤ x)) = true) ∧ (j.cue = 0 ∨ s.mayCue h.val j.cue 1 = true) ∧ s.noTriggers j.cue ∧ s.noTriggers 0x31 ∧ s.cues.waiters = []))) :=
  ⟨⟨0, [], bStreamHead true, bDecode true, by decide +kernel⟩,
   ⟨0, [], bStreamHead false, bDecode false, by decide +kernel⟩,
   ⟨0, [], bCodec 3, by decide +kernel⟩,
   ⟨0, [], bCodec 4, by decide +kernel⟩,
   ⟨50, [], 0, bCopyJob 1, 0x2001000, 0x2002000, 8, bCopying 1, by decide +kernel⟩,
   ⟨50, [], 0, bCopyJob 2, 0x2001000, 0x2002000, 8, bCopying 2, by decide +kernel⟩⟩

def bKv (req seqTab : List Nat) : State :=
  put 0x2000450 (wordsOf seqTab) (put 0x2000000 (wordsOf req) (((((((b0.toState kvP .running).setRegN kvP 0x060 0x80000106).setCueCount 0 262 3).setRegN kvP 0x050 4).setRegN kvP 0x058 0x10).setRegN kvP 0x05C 0x04000000).setRegN (hrP 0) 0x044 100)) |> fun s => { s with tempo := { s.tempo with ticks := true } }
def bSwap : State := (bKv [0x504] [1]).modKv fun k =>
  { k with req := some { index := 2, bytes := wordsOf [0x504], number := 1, host := [], entry := 0, results := [], failed := [] }, swap := some ⟨5, 0⟩ }
def bBatch (n : Nat) : State := put 0x2004000 (wordsOf [5 + n * 256]) ((bKv [2, 0x10000, 0x100, 0x200, 0x50000] [1, 0, 0, 0]).setRegN kvP 0x054 4)
def bHost : List HostChunk := [⟨0, List.replicate 64 0, false⟩]
def bLoop (st : PageState) : State := bTempo.toState (loopP 3) st
def bProc : State := bTempo.setRegN procP 0x040 0x100
def bCapture : State := (((bLoop .running).setRegN (loopP 3) 0x1A8 4).setRegN (loopP 3) 0x1AC 0x40).setRegN (loopP 3) 0x1CC 0x60000000
def bCap : Capture := { cfg := 0, count := 4, offset := 0x1000, ticks := 4, written := 4, first := 9, inj := false, cut := false, ended := true }
def bPort (st : PageState) (f : Port → Port) : State := (bTempo.toState (pstageP 3) st).modPort 3 f
def bFaulted (f : Port → Port) (cfg : Nat) : State := ((bPort .fault f).setRegN (pstageP 3) 0x040 cfg).setRegN (pstageP 3) 0x088 3
def bAdc : State := bTempo.toState (adcP 0) .running
def bAng (cfg st : Nat) (f : Tracker → Tracker) : State :=
  ((((b0.toState (angleP 3) .running).setRegN (angleP 3) 0x040 cfg).setRegN (angleP 3) 0x044 0x23C).setRegN (angleP 3) 0x0E0 st).modTrk 3 f
def bSlot (x : Tracker) : Tracker := { x with slots := [(10, 0x1000), (11, 0xC0000000)], interval := 1000, intervals := 4 }
def bSlotAt (s : State) : Nat := (s.slotDue 3 5).getD 0
def bLink (f : JslPort → JslPort) : State :=
  ((((bTempo.modTempo fun t => { t with nextK := 4 }).toState (jslP 1) .running).setRegN (jslP 1) 0x040 0x10002).setRegN (jslP 1) 0x044 0x200).modJsl 1 f
def bReg (ty : PageType) (off : Nat) : RegDef := (regFind ty off).getD ⟨"", 0, 0, 0, 0, 0, 0, 0⟩
theorem wit_KvRequestsRun :
    (∃ (ns : Nat) (s : State), s.kvTakes 1 ∧ s.kvRoom ∧ s.seqState (s.kvNext []).seq = 0) ∧
    (∃ (ns : Nat) (s : State), s.kvTakes 3 ∧ s.kvRoom) ∧
    (∃ (ns : Nat) (s : State), s.kvTakes 6 ∧ s.kvRoom) ∧
    (∃ (ns : Nat) (host : List HostChunk) (q : Nat) (n : Nat) (s : State), s.kvTakes 2 ∧ s.kvStatusRoom ∧ s.regF (hrP s.kvClient) 0x09C 7 0 = 0 ∧ (s.kvNext []).entries = 1 ∧ s.inGrant s.kvClient (s.kvNext []).list 4 = true ∧ s.inGrant s.kvClient (s.kvNext []).out (s.kvNext []).limit = true ∧ 0x50000 ≤ (s.kvNext []).limit ∧ s.kvEntry (s.kvNext []) 0 = (q, n) ∧ n ≤ 4096 ∧ s.seqState q = 1 ∧ s.kvListOk q = true ∧ (s.seqLength q + n + 15) / 16 ≤ s.kvMax ∧ (s.seqLength q + n + 15) / 16 - s.seqPages q ≤ s.kvFree ∧ s.kv.swap = none) ∧
    (∃ (ns : Nat) (host : List HostChunk) (q : Nat) (n : Nat) (s : State), s.kvTakes 2 ∧ s.kvStatusRoom ∧ s.regF (hrP s.kvClient) 0x09C 7 0 = 0 ∧ (s.kvNext []).entries = 1 ∧ s.inGrant s.kvClient (s.kvNext []).list 4 = true ∧ s.inGrant s.kvClient (s.kvNext []).out (s.kvNext []).limit = true ∧ 0x50000 ≤ (s.kvNext []).limit ∧ s.kvEntry (s.kvNext []) 0 = (q, n) ∧ n ≤ 4096 ∧ s.seqState q = 1 ∧ s.kvListOk q = true ∧ (s.seqLength q + n + 15) / 16 ≤ s.kvMax ∧ (s.seqLength q + n + 15) / 16 - s.seqPages q ≤ s.kvFree ∧ s.kv.swap = none) ∧
    (∃ (ns : Nat) (s : State), s.kvTakes 4 ∧ s.regF (hrP s.kvClient) 0x09C 7 0 = 0 ∧ s.seqState (s.kvNext []).seq = 1 ∧ s.kvListOk (s.kvNext []).seq = true ∧ s.hostUp = true) ∧
    (∃ (ns : Nat) (host : List HostChunk) (hd : List Byte) (bs : List Byte) (out : List Byte) (s : State), s.kvTakes 5 ∧ s.kvStatusRoom ∧ s.regF (hrP s.kvClient) 0x09C 7 0 = 0 ∧ s.seqState (s.kvNext []).seq = 3 ∧ s.seqPages (s.kvNext []).seq ≤ s.kvFree ∧ chunkRead host (s.kvSlot (s.kvNext []).seq) 64 = some hd ∧ chunkRead host (s.kvSlot (s.kvNext []).seq) (wordAt hd 0x1C).toNat = some bs ∧ crc32 bs = s.seqWord (s.kvNext []).seq 3 ∧ chunkBad host (s.kvSlot (s.kvNext []).seq) bs.length = false ∧ (if s.seqPages (s.kvNext []).seq = 0 then some [] else decodeStream bs) = some out ∧ out.length = s.seqPages (s.kvNext []).seq * s.kvPageBytes ∧ s.regF kvP 0x060 15 0 ≠ 0x32 ∧ s.noTriggers 0x32 ∧ s.cues.waiters = []) ∧
    (∃ (ok : Bool) (ns : Nat) (r : KvReq) (w : KvSwap) (s : State), s.kv.req = some r ∧ s.kv.halted = false ∧ s.kv.swap = some w ∧ r.op = 4 ∧ r.cue = 0 ∧ r.index < 0x10000) :=
  ⟨⟨9, bKv [0x70501] [], by decide +kernel⟩,
   ⟨9, bKv [0x503] [1], by decide +kernel⟩,
   ⟨9, bKv [0x70506] [1], by decide +kernel⟩,
   ⟨9, [], 5, 0, bBatch 0, by decide +kernel⟩,
   ⟨9, [], 5, 17, bBatch 17, by decide +kernel⟩,
   ⟨9, { bKv [0x504] [1] with msix := { (bKv [0x504] [1]).msix with linkUp := true } }, by decide +kernel⟩,
   ⟨9, bHost, List.replicate 64 0, [], [], bKv [0x505] [3], by decide +kernel⟩,
   ⟨true, 9, { index := 2, bytes := wordsOf [0x504], number := 1, host := [], entry := 0, results := [], failed := [] }, ⟨5, 0⟩, bSwap, by decide +kernel⟩⟩

theorem wit_LoopEventsAreTaken :
    (∃ (n : Fin 16) (s : State), s.proctorOn = true ∧ s.ticking = true) ∧
    (∃ (n : Fin 16) (errors : BitVec 41) (s : State), s.proctorOn = true ∧ s.ticking = true ∧ errors ≠ 0 ∧ errors.toNat % 0x200000000 = 0) ∧
    (∃ (n : Fin 16) (s : State), s.torque n.val = true ∧ s.law n.val = 4) ∧
    (∃ (n : Fin 16) (s : State), s.torque n.val = true ∧ s.lf n.val 0x040 1 0 = 0 ∧ (s.axis n.val).commit = none ∧ (s.axis n.val).stale = false ∧ s.lf n.val 0x134 15 0 ≤ (s.axis n.val).since + 1) ∧
    (∃ (r : Requester) (n : Fin 16) (v : Word) (s : State), s.writes r (loopP n.val) 0x18C = true) :=
  ⟨⟨3, bProc, by decide +kernel⟩,
   ⟨3, 0x200000000, bProc, by decide +kernel⟩,
   ⟨3, (bLoop .running).setRegN (loopP 3) 0x1C0 4, by decide +kernel⟩,
   ⟨3, (bLoop .running).setRegN (loopP 3) 0x134 1, by decide +kernel⟩,
   ⟨core0, 3, 1, bLoop .running, by decide +kernel⟩⟩

theorem wit_GainAndTableWrites :
    (∃ (r : Requester) (n : Fin 16) (k : Fin 30) (v : Word) (d : RegDef) (s : State), s.writes r (loopP n.val) (0x050 + 4 * k.val) = true ∧ s.pageState (loopP n.val) = .idle ∧ regFind .loop (0x050 + 4 * k.val) = some d ∧ d.rw ≠ 0 ∧ d.w1c = 0) ∧
    (∃ (r : Requester) (n : Fin 16) (k : Fin 30) (v : Word) (s : State), s.writes r (loopP n.val) (0x050 + 4 * k.val) = true ∧ s.gainsWait n.val = true) ∧
    (∃ (r : Requester) (n : Fin 16) (i : Fin 512) (v : Word) (d : RegDef) (s : State), s.writes r (loopP n.val) (0x800 + 4 * i.val) = true ∧ s.lf n.val 0x190 1 0 ≠ 1 ∧ i.val < s.lf n.val 0x144 9 0 ∧ regFind .loop (0x800 + 4 * i.val) = some d ∧ d.rw ≠ 0 ∧ d.w1c = 0) ∧
    (∃ (r : Requester) (n : Fin 16) (i : Fin 512) (v : Word) (s : State), s.writes r (loopP n.val) (0x800 + 4 * i.val) = true ∧ s.lf n.val 0x190 1 0 = 1) :=
  ⟨⟨core0, 3, 25, 0xFFFFFFFF, bReg .loop 0x0B4, bLoop .idle, by decide +kernel⟩,
   ⟨core0, 3, 25, 0xFFFFFFFF, bLoop .running, by decide +kernel⟩,
   ⟨core0, 3, 5, 0x12345678, bReg .loop 0x814, (bLoop .idle).setRegN (loopP 3) 0x144 6, by decide +kernel⟩,
   ⟨core0, 3, 5, 0x12345678, (bLoop .idle).setRegN (loopP 3) 0x190 1, by decide +kernel⟩⟩

theorem wit_CapturesRun :
    (∃ (r : Requester) (n : Fin 16) (arg : BitVec 24) (s : State), s.commands r (loopP n.val) = true ∧ s.inState (loopP n.val) activeStates = true ∧ (s.axis n.val).cap = none ∧ s.lf n.val 0x1A8 15 0 ≠ 0 ∧ ((arg.getLsbD 0 = true → s.pageState (loopP n.val) = .running ∧ s.limitCmd n.val = 3 ∧ absI (s.lg n.val 0x198) ≤ s.lg n.val 0x160)) ∧ s.inGrant (s.page (loopP n.val)).owner (64 * s.lf n.val 0x1AC 23 0) (64 + 8 * s.lf n.val 0x1A8 15 0) = true) ∧
    (∃ (r : Requester) (n : Fin 16) (arg : BitVec 24) (s : State), s.commands r (loopP n.val) = true ∧ s.inState (loopP n.val) activeStates = true ∧ (s.axis n.val).cap = none ∧ s.lf n.val 0x1A8 15 0 ≠ 0 ∧ ((arg.getLsbD 0 = true → s.pageState (loopP n.val) = .running ∧ s.limitCmd n.val = 3 ∧ absI (s.lg n.val 0x198) ≤ s.lg n.val 0x160)) ∧ s.inGrant (s.page (loopP n.val)).owner (64 * s.lf n.val 0x1AC 23 0) (64 + 8 * s.lf n.val 0x1A8 15 0) = true) ∧
    (∃ (r : Requester) (n : Fin 16) (arg : BitVec 24) (s : State), s.commands r (loopP n.val) = true ∧ s.inState (loopP n.val) [.off, .excused, .locked] = false) ∧
    (∃ (n : Fin 16) (c : Capture) (h : Nat) (s : State), (s.axis n.val).cap = some c ∧ c.ended = true ∧ h = (s.page (loopP n.val)).owner ∧ ((∀ k, k < 64 → s.putOpen h (c.offset + k) = true)) ∧ s.noTriggers (0x60 + n.val) ∧ s.cues.waiters = []) ∧
    (∃ (r : Requester) (n : Fin 16) (arg : BitVec 24) (s : State), s.commands r (loopP n.val) = true ∧ s.inState (loopP n.val) [.off, .excused, .locked] = false ∧ s.lf n.val 0x190 1 0 ≠ 1) :=
  ⟨⟨core0, 3, 0, bCapture, by decide +kernel⟩,
   ⟨core0, 3, 1, bCapture, by decide +kernel⟩,
   ⟨core0, 3, 0, (bLoop .running).modAxis 3 fun x => { x with cap := some { bCap with ended := false } }, by decide +kernel⟩,
   ⟨3, bCap, 0, (bLoop .running).modAxis 3 fun x => { x with cap := some bCap }, by decide +kernel⟩,
   ⟨core0, 3, 0, (bLoop .running).setRegN (loopP 3) 0x814 6, by decide +kernel⟩⟩

theorem wit_DutiesAndSamplesAreShown :
    (∃ (n : Fin 16) (w : DutyWrite) (s : State), (s.port n.val).pending = some w ∧ (s.port n.val).link = false ∧ s.inState (pstageP n.val) [.armed, .running] = true ∧ s.tPwm n.val ≠ 0) ∧
    (∃ (d : Fin 2) (codes : List (BitVec 14)) (time : Dword) (s : State), s.pageState (adcP d.val) = .running ∧ s.ticking = true) :=
  ⟨⟨3, ⟨0x10002, 3, 0⟩, bPort .armed fun x => { x with pending := some ⟨0x10002, 3, 0⟩ }, by decide +kernel⟩,
   ⟨0, (List.replicate 32 5), 7000, bAdc, by decide +kernel⟩⟩

theorem wit_PowerStageFaultsReact :
    (∃ (n : Fin 16) (sw : Fin 6) (levels : BitVec 11) (time : Dword) (s : State), s.inState (pstageP n.val) [.armed, .running] = true ∧ levels.getLsbD sw.val = true ∧ s.onSince n.val sw.val time.toNat = none) ∧
    (∃ (n : Fin 16) (sw : Fin 6) (time : Dword) (s : State), s.inState (pstageP n.val) [.armed, .running] = true ∧ bit (s.reg (pstageP n.val) 0x09C) sw.val = true) ∧
    (∃ (n : Fin 16) (ph : Fin 3) (levels : BitVec 11) (time : Dword) (s : State), s.inState (pstageP n.val) [.armed, .running] = true ∧ levels.getLsbD (8 + ph.val) = true) ∧
    (∃ (n : Fin 16) (t0 : Nat) (s : State), (s.port n.val).window = some t0 ∧ s.pageState (pstageP n.val) = .fault ∧ bit (s.reg (pstageP n.val) 0x040) 4 = true ∧ s.regF (pstageP n.val) 0x08C 27 24 % 2 = 0) ∧
    (∃ (n : Fin 16) (t0 : Nat) (s : State), (s.port n.val).window = some t0 ∧ bit (s.reg (pstageP n.val) 0x040) 4 = false) ∧
    (∃ (n : Fin 16) (t0 : Nat) (s : State), (s.port n.val).ascSince = some t0 ∧ s.pageState (pstageP n.val) = .fault ∧ s.regF (pstageP n.val) 0x088 2 0 = 3) :=
  ⟨⟨3, 2, 4, 7000, bPort .armed id, by decide +kernel⟩,
   ⟨3, 2, 7000, (bPort .running id).setRegN (pstageP 3) 0x09C 4, by decide +kernel⟩,
   ⟨3, 1, 0x200, 7000, bPort .running id, by decide +kernel⟩,
   ⟨3, 500, bFaulted (fun x => { x with window := some 500 }) 0x10, by decide +kernel⟩,
   ⟨3, 500, bFaulted (fun x => { x with window := some 500 }) 0, by decide +kernel⟩,
   ⟨3, 500, bFaulted (fun x => { x with ascSince := some 500 }) 0x10, by decide +kernel⟩⟩

theorem wit_PathsAndDieLinks :
    (∃ (r : Requester) (n : Fin 16) (s : State), s.commands r (pstageP n.val) = true ∧ s.pageState (pstageP n.val) = .idle) ∧
    (∃ (r : Requester) (d : Fin 2) (arg : BitVec 24) (s : State), s.commands r (adcP d.val) = true ∧ s.pageState (adcP d.val) = .running ∧ ((∀ k, k < 8 → arg.toNat.testBit k = true → s.axisActive (8 * d.val + k) = false))) ∧
    (∃ (d : Fin 2) (s : State), d.val < s.chip.grade.ioDies ∧ s.lvl.linkDown.contains d.val = false) ∧
    (∃ (d : Fin 2) (s : State), d.val < s.chip.grade.ioDies) :=
  ⟨⟨core0, 3, bPort .idle id, by decide +kernel⟩,
   ⟨core0, 0, 0x0F, bAdc, by decide +kernel⟩,
   ⟨1, b0, by decide +kernel⟩,
   ⟨1, b0, by decide +kernel⟩⟩

theorem wit_TrackersFollow :
    (∃ (n : Fin 16) (time : Dword) (s : State), s.pageState (angleP n.val) = .running ∧ s.angSource n.val = 3) ∧
    (∃ (n : Fin 16) (s : State), s.pageState (angleP n.val) = .running ∧ s.angSource n.val = 1 ∧ s.angSync n.val = 2 ∧ 2 ≤ (s.trk n.val).intervals ∧ (s.trk n.val).lastSynth = false ∧ (s.trk n.val).last + 3 * s.prediction n.val / 2 < (s.trk n.val).lastReal + 1000 * s.regF (angleP n.val) 0x050 23 0) ∧
    (∃ (n : Fin 16) (s : State), s.pageState (angleP n.val) = .running ∧ s.angSource n.val = 1 ∧ s.angSync n.val ≠ 3) ∧
    (∃ (n : Fin 16) (e : Fin 16) (x : Nat) (s : State), s.pageState (angleP n.val) = .running ∧ s.angSync n.val = 2 ∧ bit (s.evtCtl n.val e.val) 31 = true ∧ (s.trk n.val).fired.contains e.val = false ∧ (s.trk n.val).deferred.contains e.val = false ∧ s.slotDue n.val e.val = some x ∧ s.flagged n.val = false) ∧
    (∃ (n : Fin 16) (e : Fin 16) (x : Nat) (s : State), s.pageState (angleP n.val) = .running ∧ s.angSync n.val = 2 ∧ bit (s.evtCtl n.val e.val) 31 = true ∧ (s.trk n.val).fired.contains e.val = false ∧ (s.trk n.val).deferred.contains e.val = false ∧ s.slotDue n.val e.val = some x ∧ s.flagged n.val = true ∧ bit (s.evtCtl n.val e.val) 30 = true) ∧
    (∃ (r : Requester) (n : Fin 16) (e : Fin 16) (ctl : Bool) (v : Word) (off : Nat) (d : RegDef) (s : State), off = 0x060 + 8 * e.val + (if ctl then 4 else 0) ∧ s.writes r (angleP n.val) off = true ∧ (s.trk n.val).deferred.contains e.val = false ∧ regFind .angle off = some d ∧ d.rw ≠ 0 ∧ d.w1c = 0) :=
  ⟨⟨3, 7000, bAng 3 0 id, by decide +kernel⟩,
   ⟨3, bAng 1 2 (fun x => { x with interval := 1000, intervals := 4 }), by decide +kernel⟩,
   ⟨3, bAng 1 2 id, by decide +kernel⟩,
   ⟨3, 5, bSlotAt (bAng 1 2 bSlot), bAng 1 2 bSlot, by decide +kernel⟩,
   ⟨3, 5, bSlotAt (bAng 1 0x102 bSlot), bAng 1 0x102 bSlot, by decide +kernel⟩,
   ⟨core0, 3, 5, true, 0xFFFFFFFF, 0x08C, bReg .angle 0x08C, bAng 1 2 id, by decide +kernel⟩⟩

theorem wit_SensorLinksTransact :
    (∃ (p : Fin 8) (s : State), s.pageState (jslP p.val) = .running ∧ s.tempo.ticks = true ∧ (s.jslPort p.val).pulse ≠ s.tempo.nextK ∧ s.tempo.nextK ≠ 0 ∧ (s.jslPort p.val).acyc = false ∧ (s.jslPort p.val).stopping = false) ∧
    (∃ (p : Fin 8) (a : Fin 4) (data : List Byte) (s : State), s.inState (jslP p.val) [.running, .hold] = true ∧ (s.jslPort p.val).left.contains a.val = true ∧ (s.jslPort p.val).acycSent = false ∧ data.length = s.jslLen p.val a.val ∧ data.length < 256) ∧
    (∃ (p : Fin 8) (a : Fin 4) (s : State), s.inState (jslP p.val) [.running, .hold] = true ∧ (s.jslPort p.val).left.contains a.val = true) ∧
    (∃ (r : Requester) (p : Fin 8) (s : State), s.commands r (jslP p.val) = true ∧ s.pageState (jslP p.val) = .running ∧ bit (s.reg (jslP p.val) 0x040) 16 = true ∧ ((∀ n, n < 16 → s.torque n = false)) ∧ ((s.regF (jslP p.val) 0x050 7 0 = 2 ∨ s.regF (jslP p.val) 0x050 7 0 = 3))) :=
  ⟨⟨1, bLink id, by decide +kernel⟩,
   ⟨1, 1, [1, 2], bLink (fun x => { x with left := [1] }), by decide +kernel⟩,
   ⟨1, 1, bLink (fun x => { x with left := [1] }), by decide +kernel⟩,
   ⟨core0, 1, (bLink id).setRegN (jslP 1) 0x050 2, by decide +kernel⟩⟩

def bProctor : State := b0.setRegN procP 0x040 0x10B
def bDrive (n : Nat) (s : State) : State := s.setRegN safeioP 0x088 n
def bPair (cfg raw st : Nat) (f : SafePair → SafePair) : State :=
  let s := (((bProctor.toState safeioP .running).setRegN safeioP 0x044 cfg).setRegN safeioP 0x080 raw).setRegN safeioP 0x084 st
  s.setSpair 1 (f (s.spair 1))
def bHm (cfg : Nat) (f : HallMon → HallMon) : State := let s := bProctor.setRegN hallP 0x040 cfg; { s with hm := f s.hm }
def bImg : Image := [(0x05C, 0x1230201), (0x060, 0x6400), (0x064, 0x11223344), (0x070, 5)]
def bCans (st : Nat) (f : ProctorUnit → ProctorUnit) : State :=
  (bProctor.setRegN procP 0x09C st).modProc fun p => f { p with rubric := some bImg, cansOn := true }
def bPdu (bs : List Byte) : List Byte := bs ++ leBytes 4 (cansCrc (0x11223344 ^^^ 0xFFFFFFFF) bs).toNat
def bCommand : List Byte := bPdu [2, 1, 1, 0, 0, 0, 12, 0, 0, 0, 0, 0]
def bBodyPdu : List Byte := bPdu ([3, 1, 0, 0] ++ List.replicate 16 7 ++ List.replicate 8 0)
def bSpare : State := (bCans 1 id).modProc fun p => { p with rubric := none, spare := some bImg, counter := 65535 }
def bNote : Note := ⟨2, 1, 3, 0xFFFF, 9, 77, []⟩
theorem wit_ProctorStops :
    (∃ (c : Instr) (s : State), (c = .lockstepMismatch ∨ c = .proctorSramUe) ∧ s.proctorOn = true) ∧
    (∃ (c : Instr) (s : State), (c = .lockstepMismatch ∨ c = .proctorSramUe) ∧ s.proctorOn = true) ∧
    (∃ (c : Instr) (s : State), (c = .proctorHang ∨ c = .supplyMonitorFault true) ∧ s.proctorOn = true) ∧
    (∃ (c : Instr) (s : State), (c = .proctorHang ∨ c = .supplyMonitorFault true) ∧ s.proctorOn = true) ∧
    (∃ (s : State), s.proctorOn = true) :=
  ⟨⟨.lockstepMismatch, bDrive 0x55 bProctor, by decide +kernel⟩,
   ⟨.proctorSramUe, bDrive 0x55 bProctor, by decide +kernel⟩,
   ⟨.proctorHang, bDrive 0x55 bProctor, by decide +kernel⟩,
   ⟨.supplyMonitorFault true, bDrive 0x55 bProctor, by decide +kernel⟩,
   ⟨bDrive 0x55 bProctor, by decide +kernel⟩⟩

theorem wit_ProctorTakesEventsAndRequests :
    (∃ (n : Note) (rest : List Note) (at' : Nat) (v : Nat) (s : State), s.notes = n :: rest ∧ s.proctorOn = true ∧ at' = 0x400 + 16 * (s.lvl.logged % 64) ∧ v = (match s.proc.rubric with | some img => if covered img (n.cls, n.axes, n.unit) then 0 else (defaultOf n.cls).1 | none => (defaultOf n.cls).1)) ∧
    (∃ (r : Requester) (arg : BitVec 24) (s : State), s.commands r procP = true) :=
  ⟨⟨bNote, [], 0x400, 1, { bProctor with notes := [bNote] }, by decide +kernel⟩,
   ⟨core0, 0, bProctor.setRegN procP 0x0A0 1, by decide +kernel⟩⟩

theorem wit_OutputsAreTested :
    (∃ (b : Bool) (seen : Bool) (s : State), (s.outBit (if b then 2 else 0) = false ∨ seen = true)) ∧
    (∃ (b : Bool) (seen : Bool) (s : State), (s.outBit (if b then 2 else 0) = false ∨ seen = true)) ∧
    (∃ (s : State), s.outBit 0 = true ∧ s.proctorOn = true) ∧
    (∃ (s : State), s.outBit 2 = true ∧ s.hmArmed = true ∧ s.proctorOn = true) ∧
    (∃ (fb : Bool) (s : State), s.outBit 0 = fb) ∧
    (∃ (fb : Bool) (s : State), s.outBit 0 ≠ fb ∧ s.proctorOn = true) ∧
    (∃ (fb : Bool) (s : State), s.outBit 2 = fb) ∧
    (∃ (fb : Bool) (s : State), s.outBit 2 ≠ fb ∧ s.hmArmed = true ∧ s.proctorOn = true) ∧
    (∃ (k : Fin 2) (fb : Bool) (s : State), s.outBit (4 + 2 * k.val) = fb) ∧
    (∃ (k : Fin 2) (fb : Bool) (s : State), s.outBit (4 + 2 * k.val) ≠ fb ∧ s.proctorOn = true) :=
  ⟨⟨false, true, bDrive 0x55 bProctor, by decide +kernel⟩,
   ⟨true, false, bProctor, by decide +kernel⟩,
   ⟨bDrive 0x55 bProctor, by decide +kernel⟩,
   ⟨bDrive 0x55 (bProctor.setRegN hallP 0x040 8), by decide +kernel⟩,
   ⟨true, bDrive 0x55 bProctor, by decide +kernel⟩,
   ⟨false, bDrive 0x55 bProctor, by decide +kernel⟩,
   ⟨true, bDrive 0x55 bProctor, by decide +kernel⟩,
   ⟨false, bDrive 0x55 (bProctor.setRegN hallP 0x040 8), by decide +kernel⟩,
   ⟨1, true, bDrive 0x55 bProctor, by decide +kernel⟩,
   ⟨1, false, bDrive 0x55 bProctor, by decide +kernel⟩⟩

theorem wit_SafeInputsAreJudged :
    (∃ (k : Fin 8) (chB : Bool) (high : Bool) (time : Dword) (s : State), (high = true ∨ s.maskEnd k.val chB ≤ time.toNat)) ∧
    (∃ (k : Fin 8) (chB : Bool) (high : Bool) (time : Dword) (s : State), (high = true ∨ s.maskEnd k.val chB ≤ time.toNat)) ∧
    (∃ (k : Fin 8) (chB : Bool) (time : Dword) (s : State), time.toNat < s.maskEnd k.val chB) ∧
    (∃ (k : Fin 8) (time : Dword) (s : State), s.pairOn k.val = true ∧ s.steady k.val false time.toNat ∧ s.steady k.val true time.toNat ∧ s.demands k.val false time.toNat = true ∧ s.demands k.val true time.toNat = true ∧ s.pairState k.val = 0) ∧
    (∃ (k : Fin 8) (time : Dword) (s : State), s.pairOn k.val = true ∧ s.steady k.val false time.toNat ∧ s.steady k.val true time.toNat ∧ s.demands k.val false time.toNat = false ∧ s.demands k.val true time.toNat = false ∧ (s.pairState k.val = 1 ∨ (s.pairState k.val = 2 ∧ (s.spair k.val).demandShown = true))) ∧
    (∃ (k : Fin 8) (time : Dword) (s : State), s.pairOn k.val = true ∧ s.steady k.val false time.toNat ∧ s.steady k.val true time.toNat ∧ s.demands k.val false time.toNat = false ∧ s.demands k.val true time.toNat = false ∧ (s.pairState k.val = 1 ∨ (s.pairState k.val = 2 ∧ (s.spair k.val).demandShown = true))) ∧
    (∃ (k : Fin 8) (time : Dword) (s : State), s.pairOn k.val = true ∧ s.steady k.val false time.toNat ∧ s.steady k.val true time.toNat ∧ s.demands k.val false time.toNat = s.demands k.val true time.toNat ∧ s.pairState k.val = 2 ∧ (s.spair k.val).demandShown = false) ∧
    (∃ (k : Fin 8) (time : Dword) (s : State), s.pairOn k.val = true ∧ s.steady k.val false time.toNat ∧ s.steady k.val true time.toNat ∧ s.demands k.val false time.toNat = s.demands k.val true time.toNat ∧ s.pairState k.val = 2 ∧ (s.spair k.val).demandShown = false) ∧
    (∃ (k : Fin 8) (time : Dword) (s : State), s.pairOn k.val = true ∧ s.demands k.val false time.toNat ≠ s.demands k.val true time.toNat ∧ max (s.pairChannel k.val false time.toNat).2 (s.pairChannel k.val true time.toNat).2 + 1000000 * s.pairF k.val 23 16 < time.toNat ∧ s.pairState k.val < 2) ∧
    (∃ (tp1 : Bool) (during : BitVec 16) (after : BitVec 16) (time : Dword) (s : State), s.pageState safeioP = .running) ∧
    (∃ (k : Fin 8) (chB : Bool) (s : State), s.pairOn k.val = true ∧ s.pairTp k.val = false ∧ s.pairF k.val 31 24 ≠ 0 ∧ ((if chB then (s.spair k.val).b = false ∨ (s.spair k.val).pulseB = true else (s.spair k.val).a = false ∨ (s.spair k.val).pulseA = true))) ∧
    (∃ (k : Fin 8) (chB : Bool) (s : State), s.pairOn k.val = true ∧ s.pairTp k.val = false ∧ s.pairF k.val 31 24 ≠ 0 ∧ (if chB then (s.spair k.val).b = true ∧ (s.spair k.val).pulseB = false else (s.spair k.val).a = true ∧ (s.spair k.val).pulseA = false) ∧ s.pairState k.val < 2) :=
  ⟨⟨1, true, true, 9000, bPair 1 0 0 id, by decide +kernel⟩,
   ⟨1, false, false, 9000, bPair 1 4 0 id, by decide +kernel⟩,
   ⟨1, true, 9000, let s := bPair 1 12 0 id; { s with safein := { s.safein with maskB := 9001 } }, by decide +kernel⟩,
   ⟨1, 9000, bPair 1 0 0 id, by decide +kernel⟩,
   ⟨1, 9000, bPair 1 12 4 id, by decide +kernel⟩,
   ⟨1, 9000, bPair 1 12 8 (fun x => { x with demandShown := true }), by decide +kernel⟩,
   ⟨1, 9000, bPair 1 0 8 id, by decide +kernel⟩,
   ⟨1, 9000, bPair 1 12 8 id, by decide +kernel⟩,
   ⟨1, 9000, bPair 1 4 0 id, by decide +kernel⟩,
   ⟨false, 4, 12, 9000, bPair 1 12 0 id, by decide +kernel⟩,
   ⟨1, false, bPair 0x1000005 12 0 (fun x => { x with a := true, pulseA := true }), by decide +kernel⟩,
   ⟨1, true, bPair 0x1000005 12 0 (fun x => { x with b := true }), by decide +kernel⟩⟩

theorem wit_HallMonitorChecks :
    (∃ (cycles : BitVec 32) (s : State), (s.regN hallP 0x044 = 0 ∨ (340000 ≤ cycles.toNat ∧ cycles.toNat ≤ 460000))) ∧
    (∃ (cycles : BitVec 32) (s : State), (s.regN hallP 0x044 = 0 ∨ (340000 ≤ cycles.toNat ∧ cycles.toNat ≤ 460000))) ∧
    (∃ (cycles : BitVec 32) (s : State), (s.regN hallP 0x044 = 0 ∨ (340000 ≤ cycles.toNat ∧ cycles.toNat ≤ 460000))) ∧
    (∃ (cycles : BitVec 32) (s : State), s.regN hallP 0x044 ≠ 0 ∧ (cycles.toNat < 340000 ∨ 460000 < cycles.toNat) ∧ s.hmArmed = true ∧ s.proctorOn = true) ∧
    (∃ (cycles : BitVec 32) (s : State), s.regN hallP 0x044 ≠ 0 ∧ (cycles.toNat < 340000 ∨ 460000 < cycles.toNat) ∧ s.hmArmed = true ∧ s.proctorOn = true) ∧
    (∃ (ns : BitVec 20) (s : State), s.proctorOn = true ∧ s.hm.issued = true ∧ s.hmLatched = false ∧ s.hm.answers = 0 ∧ 300000 ≤ ns.toNat ∧ ns.toNat ≤ 800000) ∧
    (∃ (ns : BitVec 20) (s : State), s.proctorOn = true ∧ s.hm.issued = true ∧ s.hmLatched = false ∧ s.hm.answers = 0 ∧ 300000 ≤ ns.toNat ∧ ns.toNat ≤ 800000) ∧
    (∃ (ns : BitVec 20) (s : State), s.proctorOn = true ∧ s.hm.issued = true ∧ s.hmArmed = true ∧ (0 < s.hm.answers ∨ ns.toNat < 300000)) ∧
    (∃ (ns : BitVec 20) (s : State), s.proctorOn = true ∧ s.hm.issued = true ∧ s.hmArmed = true ∧ (0 < s.hm.answers ∨ ns.toNat < 300000)) ∧
    (∃ (errors : BitVec 24) (ns : BitVec 20) (s : State), s.proctorOn = true ∧ s.hm.issued = true ∧ s.hmArmed = true ∧ s.hm.answers = 0 ∧ 300000 ≤ ns.toNat ∧ ns.toNat ≤ 800000 ∧ errors ≠ 0 ∧ errors.toNat < 0x10000) ∧
    (∃ (s : State), s.hm.issued = true ∧ s.hm.counted = true) ∧
    (∃ (s : State), s.hm.issued = true ∧ s.hm.counted = false ∧ s.hmArmed = true ∧ s.proctorOn = true) ∧
    (∃ (s : State), s.hmArmed = true ∧ s.proctorOn = true) :=
  ⟨⟨400000, bHm 8 id, by decide +kernel⟩,
   ⟨340000, (bHm 8 id).setRegN hallP 0x044 1, by decide +kernel⟩,
   ⟨460000, (bHm 8 id).setRegN hallP 0x044 1, by decide +kernel⟩,
   ⟨460001, (bHm 8 id).setRegN hallP 0x044 1, by decide +kernel⟩,
   ⟨339999, (bHm 8 id).setRegN hallP 0x044 1, by decide +kernel⟩,
   ⟨300000, (bHm 8 (fun x => { x with issued := true })).setRegN procP 0x040 0x180, by decide +kernel⟩,
   ⟨800000, bHm 0 (fun x => { x with issued := true, chal := 0xBEEF }), by decide +kernel⟩,
   ⟨299999, bHm 8 (fun x => { x with issued := true }), by decide +kernel⟩,
   ⟨300000, bHm 8 (fun x => { x with issued := true, answers := 1 }), by decide +kernel⟩,
   ⟨0x100, 300000, bHm 8 (fun x => { x with issued := true }), by decide +kernel⟩,
   ⟨bHm 8 (fun x => { x with issued := true, counted := true }), by decide +kernel⟩,
   ⟨bHm 8 (fun x => { x with issued := true }), by decide +kernel⟩,
   ⟨bHm 8 id, by decide +kernel⟩⟩

theorem wit_CanSafetyFrames :
    (∃ (time : Dword) (img : Image) (n : Nat) (body : List Byte) (s : State), s.proc.rubric = some img ∧ s.proctorOn = true ∧ s.proc.cansOn = true ∧ cansUsed img = true ∧ s.ticking = false ∧ n = (if s.proc.counter = 65535 then 1 else s.proc.counter + 1) ∧ body = (advanceTo time.toNat s).statusBody n (imgWord img 0x070).toNat) ∧
    (∃ (time : Dword) (img : Image) (n : Nat) (body : List Byte) (s : State), s.proc.rubric = none ∧ s.proc.spare = some img ∧ s.proctorOn = true ∧ s.proc.cansOn = true ∧ cansUsed img = true ∧ n = (if s.proc.counter = 65535 then 1 else s.proc.counter + 1) ∧ body = (advanceTo time.toNat s).statusBody n 0) ∧
    (∃ (id : BitVec 11) (frame : List Byte) (img : Image) (s : State), s.proc.rubric = some img ∧ s.proctorOn = true ∧ s.proc.cansOn = true ∧ id.toNat = imgF img 0x05C 26 16 ∧ imgF img 0x060 31 8 ≠ 0 ∧ pduGood img 2 16 frame = true ∧ s.echoOk (halfAt frame 4) = true ∧ ((∀ e ∈ s.proc.command, s.proc.resync = true ∨ halfAt frame 2 = counterAfter (halfAt e.1 2)))) ∧
    (∃ (id : BitVec 11) (frame : List Byte) (img : Image) (s : State), s.proc.rubric = some img ∧ s.proctorOn = true ∧ s.proc.cansOn = true ∧ id.toNat = imgF img 0x05C 26 16 ∧ imgF img 0x060 31 8 ≠ 0 ∧ pduGood img 2 16 frame = true ∧ s.echoOk (halfAt frame 4) = true ∧ ((∀ e ∈ s.proc.command, s.proc.resync = true ∨ halfAt frame 2 = counterAfter (halfAt e.1 2)))) ∧
    (∃ (id : BitVec 11) (frame : List Byte) (img : Image) (s : State), s.proc.rubric = some img ∧ s.proctorOn = true ∧ s.proc.cansOn = true ∧ id.toNat = imgF img 0x05C 26 16 ∧ imgF img 0x060 31 8 ≠ 0 ∧ ((pduGood img 2 16 frame = false ∨ s.echoOk (halfAt frame 4) = false ∨ ∃ e ∈ s.proc.command, s.proc.resync = false ∧ halfAt frame 2 ≠ counterAfter (halfAt e.1 2)))) ∧
    (∃ (s : State), s.rubF 0x060 31 8 ≠ 0 ∧ s.proctorOn = true ∧ (s.cansState = 1 ∨ s.cansState = 2)) ∧
    (∃ (id : BitVec 11) (frame : List Byte) (img : Image) (s : State), s.proc.rubric = some img ∧ s.proctorOn = true ∧ s.proc.cansOn = true ∧ id.toNat = imgF img 0x05C 26 16 ∧ pduGood img 3 32 frame = true ∧ s.proc.bodyId = none) ∧
    (∃ (id : BitVec 11) (frame : List Byte) (b : List Byte) (img : Image) (s : State), s.proc.rubric = some img ∧ s.proctorOn = true ∧ s.proc.cansOn = true ∧ id.toNat = imgF img 0x05C 26 16 ∧ pduGood img 3 32 frame = true ∧ s.proc.bodyId = some b ∧ b ≠ (frame.drop 4).take 16) ∧
    (∃ (s : State), s.proc.cansOn = true ∧ s.regF identP 0x054 2 0 = 0 ∧ s.proc.bodyId = none) :=
  ⟨⟨9000, bImg, 1, (advanceTo 9000 (bCans 1 id)).statusBody 1 5, bCans 1 id, by decide +kernel⟩,
   ⟨9000, bImg, 1, (advanceTo 9000 bSpare).statusBody 1 0, bSpare, by decide +kernel⟩,
   ⟨0x123, bCommand, bImg, bCans 1 id, by decide +kernel⟩,
   ⟨0x123, bCommand, bImg, bCans 3 (fun p => { p with inRow := 1, resync := true, command := some ([], 5) }), by decide +kernel⟩,
   ⟨0x123, [], bImg, bCans 1 id, by decide +kernel⟩,
   ⟨bCans 2 id, by decide +kernel⟩,
   ⟨0x123, bBodyPdu, bImg, bCans 1 id, by decide +kernel⟩,
   ⟨0x123, bBodyPdu, [1], bImg, bCans 1 (fun p => { p with bodyId := some [1] }), by decide +kernel⟩,
   ⟨bCans 1 id, by decide +kernel⟩⟩

def bImg1 : State := b0.toState imageP .running
def bFlash (a n : Nat) : State := (bImg1.setRegN imageP 0x0A8 a).setRegN imageP 0x0B4 n
def bJobAt (code n : Nat) : State := (bPend imageP code (put 0x2000000 [1, 2, 3] bImg1)).modBoot fun b => { b with jobAddr := 0x800000, jobSrc := 0x2000000, jobLen := n }
def bTrial : State := (bImg1.writeBcr { bImg1.bcr.1 with trial := true } true).toState imageP .running
def bIdent : State := b0.toState identP .running
def bRecord (magic seq id s : Nat) : List Byte :=
  leBytes 4 magic ++ leBytes 4 1 ++ leBytes 4 seq ++ leBytes 4 0 ++ beBytes 16 0xf5a5fd42d16a20302798ef6ed309979b ++ List.replicate 16 (BitVec.ofNat 8 id) ++
  List.replicate 16 0 ++ beBytes 32 0x6b17d1f2e12c4247f8bce6e563a440f277037d812deb33a0f4a13945d898c296 ++
  beBytes 32 0x4fe342e2fe1a7f9b8ee7eb4a7c0f9e162bce33576b315ececbb6406837bf51f5 ++ List.replicate 64 0 ++
  beBytes 32 0x7cf27b188d034f7e8a52380304b51ac3c08969e277f21b35a60b48fc47669978 ++ beBytes 32 s
def bSubmit (bs : List Byte) (s : State) : State :=
  (List.range 64).foldl (fun s k => s.setReg identP (0xC00 + 4 * k) (wordAt bs (4 * k))) s
def bSeat : State :=
  let s := bSubmit (bRecord 0x54414553 1 7 0x58ef51613404ac0da724802d76e26acc449e356904ee228a797df4ec9432eb36) bIdent
  (s.modProc fun p => { p with bodyId := some (List.replicate 16 7) }).modBoot fun b =>
    { b with fuses := { b.fuses with fleet := some (sha256 (recordKey s.submitted)) } }
def bEnrol : List Byte := bRecord 0x45544C46 0 0 0xf5f875ba76e0c5062b9ea091d155d556bf11698966bd01a2e60f62e7d5fd8a2a
def bFleet (f : Option (List Byte)) : State :=
  (bSubmit bEnrol bIdent).modBoot fun b =>
    { b with fuses := { b.fuses with fleet := f } }
def bKey : List Byte := beBytes 32 0x6b17d1f2e12c4247f8bce6e563a440f277037d812deb33a0f4a13945d898c296 ++
  beBytes 32 0x4fe342e2fe1a7f9b8ee7eb4a7c0f9e162bce33576b315ececbb6406837bf51f5
def bImgHead (kind s : Nat) : List Byte :=
  wordsOf [0x4D49515A, 1 + kind * 0x10000, 0, 0, 0, 0, 0, 3] ++ List.replicate 32 0 ++
  beBytes 32 0xe3b0c44298fc1c149afbf4c8996fb92427ae41e4649b934ca495991b7852b855 ++ bKey ++ List.replicate 288 0 ++
  beBytes 32 0x7cf27b188d034f7e8a52380304b51ac3c08969e277f21b35a60b48fc47669978 ++ beBytes 32 s
def bPaired : State :=
  ((b0.flashWrite 0x400000 (bImgHead 1 0x6219ff3f8af6ec67939abbf71c119e0c489fdec7e2954e4a7903637313df98a1)).flashWrite 0x480000
    (bImgHead 2 0x8fe18d8c78023759bf34c561f743930143b35fbcdc5d8ca2a0f30f65781c9ec9)).modBoot fun b =>
    { b with fuses := { b.fuses with romKeys := [sha256 bKey] } }
theorem bPaired_untested : (bPaired.atBoot false 5000).decideSlot 0 false false = ⟨2, 0, 0⟩ := by decide +kernel
def bDyn (n : Nat) : State := b0.setRegN dynP 0x040 n
def bDwell (us : Nat) (s : State) : State :=
  (((s.setRegN dynP 0x04C us).setRegN (hrP 0) 0x04C 10).settle).modDyn fun d => { d with dwellFrom := some 100 }
theorem bEnrol_signed : recordSigned bEnrol = true := by decide +kernel
theorem bFleet_none : (bFleet none).submitted = bEnrol := by decide +kernel
theorem bFleet_some : (bFleet (some [1])).submitted = bEnrol := by decide +kernel
theorem wit_ResetAndBoot :
    (∃ (ns : Word) (s : State), ns.toNat < 1000) ∧
    (∃ (ns : Word) (s : State), 1000 ≤ ns.toNat) ∧
    (∃ (failed : BitVec 256) (readFail : BitVec 4) (recFail : Bool) (time : Dword) (k : Nat) (a : SlotResult) (s : State), s.regF procP 0x040 10 8 = 0 ∧ k = (trialRule s.bcr.1).preferred ∧ a = (s.atBoot recFail time.toNat).decideSlot k (readFail.getLsbD (2 * k)) (readFail.getLsbD (2 * k + 1)) ∧ a.outcome ≠ 3) ∧
    (∃ (failed : BitVec 256) (readFail : BitVec 4) (recFail : Bool) (time : Dword) (s : State), s.regF procP 0x040 10 8 = 0 ∧ readFail = 0xF) ∧
    (∃ (r : Requester) (s : State), s.commands r imageP = true ∧ s.pageState imageP = .running ∧ s.anyTorque = false ∧ s.porOnly = false) ∧
    (∃ (c : PendCmd) (d : Word) (s : State), (s.page imageP).pending = some c ∧ c.code = 0x17) :=
  ⟨⟨999, bImg1, by decide +kernel⟩,
   ⟨1000, bImg1, by decide +kernel⟩,
   ⟨0x10, 0, false, 5000, 0, ⟨2, 0, 0⟩, bPaired, by decide +kernel, by decide +kernel, bPaired_untested.symm, by decide⟩,
   ⟨0, 0xF, true, 5000, b0, by decide +kernel⟩,
   ⟨core0, bImg1, by decide +kernel⟩,
   ⟨bCmd 0x17 .running, 0, bPend imageP 0x17 bImg1, by decide +kernel⟩⟩

theorem wit_ImageCommandsTakeEffect :
    (∃ (r : Requester) (s : State), s.commands r imageP = true ∧ s.pageState imageP = .running ∧ s.flashRange 0x10000 = none) ∧
    (∃ (r : Requester) (s : State), s.commands r imageP = true ∧ s.pageState imageP = .running ∧ s.flashRange 0x100 = none ∧ s.flashSrcOk = true) ∧
    (∃ (c : PendCmd) (s : State), (s.page imageP).pending = some c ∧ c.code = 0x10 ∧ s.boot.jobLen < 0x100000000) ∧
    (∃ (c : PendCmd) (s : State), (s.page imageP).pending = some c ∧ c.code = 0x11 ∧ s.boot.jobLen < 0x100000000 ∧ s.errFree s.boot.jobSrc s.boot.jobLen = true) ∧
    (∃ (c : Instr) (r : Requester) (arg : BitVec 24) (s : State), s.commands r imageP = true ∧ s.pageState imageP = .running ∧ (c = .verifySlot r arg ∨ c = .setPreferred r arg ∨ (c = .confirm r 0 ∧ s.bcr.1.trial = true))) ∧
    (∃ (c : Instr) (r : Requester) (arg : BitVec 24) (s : State), s.commands r imageP = true ∧ s.pageState imageP = .running ∧ (c = .verifySlot r arg ∨ c = .setPreferred r arg ∨ (c = .confirm r 0 ∧ s.bcr.1.trial = true))) ∧
    (∃ (c : Instr) (r : Requester) (arg : BitVec 24) (s : State), s.commands r imageP = true ∧ s.pageState imageP = .running ∧ (c = .verifySlot r arg ∨ c = .setPreferred r arg ∨ (c = .confirm r 0 ∧ s.bcr.1.trial = true))) ∧
    (∃ (r : Requester) (s : State), s.commands r imageP = true ∧ s.pageState imageP = .running ∧ s.bcr.1.trial = false) ∧
    (∃ (c : PendCmd) (x : SlotResult) (s : State), (s.page imageP).pending = some c ∧ c.code = 0x12 ∧ x = s.decideSlot (c.arg.toNat % 2) false false) ∧
    (∃ (c : PendCmd) (s : State), (s.page imageP).pending = some c ∧ (c.code = 0x13 ∨ c.code = 0x14) ∧ tabWf (fun _ => erased) s.boot.flash = true ∧ s.bcr.1.gen + 1 < 0x100000000) ∧
    (∃ (c : PendCmd) (s : State), (s.page imageP).pending = some c ∧ (c.code = 0x13 ∨ c.code = 0x14) ∧ tabWf (fun _ => erased) s.boot.flash = true ∧ s.bcr.1.gen + 1 < 0x100000000) ∧
    (∃ (r : Requester) (s : State), s.commands r imageP = true ∧ s.pageState imageP = .running ∧ s.probation = false ∧ s.inRecovery = false) ∧
    (∃ (r : Requester) (arg : BitVec 24) (s : State), s.commands r imageP = true ∧ s.pageState imageP = .running ∧ ((∀ h ∈ [s.boot.headS, s.boot.headC], h = [] ∨ headF h 0x014 1 0 ≠ arg.toNat % 4)) ∧ ((∃ j, j < 4 ∧ j ≠ arg.toNat % 4 ∧ s.boot.fuses.revoked.testBit j = false))) :=
  ⟨⟨core0, bFlash 0x800000 0x10000, by decide +kernel⟩,
   ⟨core0, (bFlash 0x800000 0x100).setRegN imageP 0x0AC 0x2000000, by decide +kernel⟩,
   ⟨bCmd 0x10 .running, bJobAt 0x10 0x10000, by decide +kernel⟩,
   ⟨bCmd 0x11 .running, bJobAt 0x11 0x100, by decide +kernel⟩,
   ⟨.verifySlot core0 1, core0, 1, bImg1, by decide +kernel⟩,
   ⟨.setPreferred core0 1, core0, 1, bImg1, by decide +kernel⟩,
   ⟨.confirm core0 0, core0, 0, bTrial, by decide +kernel⟩,
   ⟨core0, bImg1, by decide +kernel⟩,
   ⟨bCmd 0x12 .running, (bPend imageP 0x12 bImg1).decideSlot 0 false false, bPend imageP 0x12 bImg1, by decide +kernel⟩,
   ⟨bCmd 0x13 .running, bPend imageP 0x13 bImg1, by decide +kernel⟩,
   ⟨bCmd 0x14 .running, bPend imageP 0x14 bTrial, by decide +kernel⟩,
   ⟨core0, bImg1, by decide +kernel⟩,
   ⟨core0, 2, bImg1, by decide +kernel, by decide +kernel, by decide +kernel, ⟨1, by decide, by decide, by decide +kernel⟩⟩⟩

theorem wit_IdentityCommandsTakeEffect :
    (∃ (r : Requester) (s : State), s.commands r identP = true ∧ s.pageState identP = .running) ∧
    (∃ (c : PendCmd) (s : State), (s.page identP).pending = some c ∧ c.code = 0x10) ∧
    (∃ (r : Requester) (s : State), s.commands r identP = true ∧ s.pageState identP = .running ∧ recordForm false s.submitted = true ∧ s.recordOwn s.submitted = true ∧ s.proc.bodyId = some ((s.submitted.drop 0x20).take 16) ∧ s.recordFleet s.submitted = true ∧ recordSigned s.submitted = true ∧ ((∀ o ∈ s.boot.seat, seatSeq o < seatSeq s.submitted)) ∧ seatSeq s.submitted ≠ 0) ∧
    (∃ (c : PendCmd) (s : State), (s.page identP).pending = some c ∧ c.code = 0x11) ∧
    (∃ (r : Requester) (s : State), s.commands r identP = true ∧ s.pageState identP = .running ∧ recordForm true s.submitted = true ∧ s.recordOwn s.submitted = true ∧ recordSigned s.submitted = true ∧ s.boot.fuses.fleet = none) ∧
    (∃ (r : Requester) (s : State), s.commands r identP = true ∧ s.pageState identP = .running ∧ recordForm true s.submitted = true ∧ s.recordOwn s.submitted = true ∧ recordSigned s.submitted = true ∧ s.boot.fuses.fleet ≠ none) :=
  ⟨⟨core0, bIdent, by decide +kernel⟩,
   ⟨bCmd 0x10 .running, bPend identP 0x10 bIdent, by decide +kernel⟩,
   ⟨core0, bSeat, by decide +kernel⟩,
   ⟨bCmd 0x11 .running, bPend identP 0x11 bIdent, by decide +kernel⟩,
   ⟨core0, bFleet none, by decide +kernel, by decide +kernel, by decide +kernel, by decide +kernel, bFleet_none ▸ bEnrol_signed, by decide +kernel⟩,
   ⟨core0, bFleet (some [1]), by decide +kernel, by decide +kernel, by decide +kernel, by decide +kernel, bFleet_some ▸ bEnrol_signed, by decide +kernel⟩⟩

theorem wit_DynamicsMoves :
    (∃ (time : Dword) (t0 : Nat) (s : State), s.dyn.dwellFrom = some t0 ∧ s.dyn.wake = none ∧ t0 + 1000 * s.regF dynP 0x04C 23 0 ≤ now (advanceTo time.toNat s) ∧ s.dynState < (advanceTo time.toNat s).dynTarget ∧ s.ticking = false) ∧
    (∃ (time : Dword) (t0 : Nat) (s : State), s.dyn.dwellFrom = some t0 ∧ s.dyn.wake = none ∧ t0 + 1000 * s.regF dynP 0x04C 23 0 ≤ now (advanceTo time.toNat s) ∧ s.dynState < (advanceTo time.toNat s).dynTarget ∧ s.ticking = true) ∧
    (∃ (k : Fin 4) (s : State), s.commands (.core k) dynP = true ∧ 3 ≤ s.dynState ∧ s.dyn.wake = none) ∧
    (∃ (k : Fin 4) (s : State), s.commands (.core k) dynP = true ∧ s.dynState < 3 ∧ s.dyn.wake = none) ∧
    (∃ (s : State), s.reg64 dynP 0x050 ≠ 0) ∧
    (∃ (s : State), s.regF (pcieP 0) 0x040 17 16 ≠ 0) ∧
    (∃ (time : Dword) (src : Nat) (start : Nat) (u : State) (s : State), u = advanceTo time.toNat s ∧ s.dyn.wake = some (src, s.dynState, start) ∧ s.dynState ≤ 4 ∧ src < 16) ∧
    (∃ (sec : Word) (die : Word) (tooHot : Bool) (time : Dword) (s : State), s.dyn.tripped = false ∧ s.tMax + 5 ≤ s.hottest sec (s.dieTemps die) tooHot) ∧
    (∃ (sec : Word) (die : Word) (time : Dword) (s : State), s.dyn.tripped = false ∧ s.tMax - s.regF dynP 0x080 7 0 ≤ s.hottest sec (s.dieTemps die) false ∧ s.hottest sec (s.dieTemps die) false < s.tMax + 5 ∧ s.throttleLevel < 4 ∧ s.dyn.throttleAt = none) :=
  ⟨⟨9000, 100, bDwell 1 b0, by decide +kernel⟩,
   ⟨9000, 100, bDwell 1 bTempo, by decide +kernel⟩,
   ⟨0, bDyn 3, by decide +kernel⟩,
   ⟨0, bDyn 2, by decide +kernel⟩,
   ⟨(bDyn 4).setRegN dynP 0x050 5000, by decide +kernel⟩,
   ⟨(bDyn 4).setRegN (pcieP 0) 0x040 0x20000, by decide +kernel⟩,
   ⟨9000, 3, 100, advanceTo 9000 ((bDyn 4).modDyn fun d => { d with wake := some (3, 4, 100) }), (bDyn 4).modDyn fun d => { d with wake := some (3, 4, 100) }, by decide +kernel⟩,
   ⟨0x7F707070, 0x70, true, 9000, b0.setRegN dynP 0x078 0x20, by decide +kernel⟩,
   ⟨0x78000000, 0, 9000, b0.setRegN dynP 0x080 0x05, by decide +kernel⟩⟩

def bUp : State := { b0 with msix := { b0.msix with linkUp := true, enabled := true } }
def bReadJob : DmaJob := parseDesc 0 (wordsOf [0x1000, 0, 0x2002000, 0, 0x10000040, 1, 0, 0])
def bRead : State := { bDma.setChan 2 ⟨some bReadJob, false⟩ with msix := bUp.msix }
def bEth (cfg : Nat) : State := (({ b0 with msix := bUp.msix } : State).toState (ethP 1) .running |>.setRegN (ethP 1) 0x040 cfg).setRegN (ethP 1) 0x0A8 7
def bEthF : List Byte := List.replicate 60 3
def bRing (reg : Nat) (len flags : Nat) : State :=
  put 0x2000040 (wordsOf [0x1000, 0, len + flags, 0]) (((bEth 8).setRegN (ethP 1) reg 0x1000001).setRegN (ethP 1) (reg + 4) 1)
def bRx : State := bRing 0x0A0 1522 0x10000
def bNoDesc : EthDesc := ⟨0, 0, 0, false, false, false, false, 0, 0, false⟩
def bRxDesc : EthDesc := (bRx.ethDesc 1 8).getD bNoDesc
def bTx : State := bRing 0x098 60 0x10000
def bTxDesc : EthDesc := (bTx.ethDesc 1 7).getD bNoDesc
def bQbv : State := ((bEth 8).setRegN (ethP 1) 0x104 10000).setRegN (ethP 1) 0x110 1
def bGates : GateList := ⟨5000, 10000, [7]⟩
def bCanPort : State := b0.toState (canP 1) .running
def bCanFrame : CanFrame := ⟨0x123, false, false, false, 2, false, false, [0xAA, 0xBB]⟩
def bCanFd : CanFrame := ⟨0x123, false, false, true, 9, false, false, List.replicate 12 7⟩
def bCanRx : State := ((bCanPort.setRegN (canP 1) 0x050 0x1000001).setRegN (canP 1) 0x058 1).setRegN (canP 1) 0x178 0x80000123
def bCanTx : State := put 0x2000040 (wordsOf [0x123, 2, 0, 0] ++ [0xAA, 0xBB]) ((bCanPort.setRegN (canP 1) 0x04C 0x1000001).setRegN (canP 1) 0x054 1)
def bComp (f : CompUnit → CompUnit) : State :=
  let s := ((b0.toState compP .running).setRegN compP 0x040 1).setRegN compP 0x044 0x20002; { s with comp := f s.comp }
def bLayers : List Word := (List.range 57).map fun i => if i = 21 then 0xFF07 else if i = 22 then 1 else if i = 24 then 64 else if i = 25 then 0x20002 else if i = 56 then 0x405060 else 0
def bShown : State := { bComp fun c => { c with inFrame := true, started := 1 } with out := { b0.out with display := [[⟨1, 2, 3⟩, ⟨1, 2, 3⟩], [⟨4, 5, 6⟩, ⟨7, 8, 9⟩]] } }
def bWritten : State := ((bComp fun c => { c with wb := some 5, buf := 1, frame := [[⟨1, 2, 3⟩], [⟨1021, 8, 1023⟩]] }).setRegN compP 0x04C 1).setRegN compP 0x050 64
def bDcs : State := (b0.toState compP .idle).setRegN compP 0x090 0x0515
theorem wit_PcieEndpointAnswers :
    (∃ (req : CfgReq) (time : Dword) (s : State), s.hostUp = true ∧ now (advanceTo time.toNat s) < max 20000000 (s.msix.perstAt + 100000000)) ∧
    (∃ (time : Dword) (s : State), s.hostUp = true ∧ max 20000000 (s.msix.perstAt + 100000000) ≤ now (advanceTo time.toNat s)) ∧
    (∃ (k : Fin 6) (v : Word) (time : Dword) (s : State), s.hostUp = true ∧ max 20000000 (s.msix.perstAt + 100000000) ≤ now (advanceTo time.toNat s)) ∧
    (∃ (k : Fin 6) (v : Word) (time : Dword) (s : State), s.hostUp = true ∧ max 20000000 (s.msix.perstAt + 100000000) ≤ now (advanceTo time.toNat s)) ∧
    (∃ (perst : Bool) (released : Dword) (c : Fin 8) (j : DmaJob) (s : State), (s.chan c.val).job = some j ∧ j.srcHost = true) ∧
    (∃ (speed : BitVec 3) (width : BitVec 4) (s : State), s.isExcused 146 = false ∧ s.isExcused 80 = false ∧ speed ≠ 0 ∧ speed.toNat ≤ s.regF (pcieP 0) 0x044 2 0 ∧ [1, 2, 4, 8].contains width.toNat = true ∧ width.toNat ≤ s.maxWidth) ∧
    (∃ (s : State), s.chip.grade.ioDies = 2 ∧ bit (s.reg (pcieP 0) 0x040) 13 = false ∧ s.msix.linkUp = true) ∧
    (∃ (r : Requester) (s : State), s.commands r (pcieP 0) = true) ∧
    (∃ (e : Fin 64) (s : State), s.msix.pba.getLsbD e.val = true ∧ s.hostUp = true ∧ s.msix.enabled = true ∧ s.msix.funcMask = false) ∧
    (∃ (e : Fin 64) (s : State), s.msix.enabled = false) ∧
    (∃ (c : Fin 8) (row : Nat) (bs : List Byte) (ep : Bool) (j : DmaJob) (s : State), s.hostUp = true ∧ (s.chan c.val).job = some j ∧ j.srcHost = true ∧ row < j.rows ∧ (j.hostRows.any fun e => decide (e.1 = row)) = false ∧ bs.length = j.rowBytes) ∧
    (∃ (c : Fin 8) (row : Nat) (j : DmaJob) (s : State), (s.chan c.val).job = some j ∧ j.srcHost = true ∧ row < j.rows ∧ (j.hostRows.any fun e => decide (e.1 = row)) = false) :=
  ⟨⟨.header 0, 99999999, bUp, by decide +kernel⟩,
   ⟨100000000, bUp, by decide +kernel⟩,
   ⟨0, 0xFFFFFFFF, 100000000, bUp, by decide +kernel⟩,
   ⟨5, 0xFFFFFFFF, 100000000, bUp, by decide +kernel⟩,
   ⟨false, 7777, 2, bReadJob, bRead, by decide +kernel⟩,
   ⟨4, 8, b0, by decide +kernel⟩,
   ⟨bUp.setRegN (pcieP 0) 0x040 0x84, by decide +kernel⟩,
   ⟨core0, bUp.setRegN (pcieP 0) 0x040 0x84, by decide +kernel⟩,
   ⟨7, { bUp with msix := { bUp.msix with pba := 0x80, masked := 0xFF } }, by decide +kernel⟩,
   ⟨63, b0, by decide +kernel⟩,
   ⟨2, 0, List.replicate 64 7, true, bReadJob, bRead, by decide +kernel⟩,
   ⟨2, 0, bReadJob, bRead, by decide +kernel⟩⟩

theorem wit_EthernetFramesAndTime :
    (∃ (m : Fin 4) (frame : List Byte) (fcsOk : Bool) (time : Dword) (s : State), s.ethRunning m.val = true ∧ 60 ≤ frame.length ∧ frame.length + 4 ≤ s.frameMax m.val ∧ etherType frame ≠ 0x88F7 ∧ etherType frame ≠ 0x8808 ∧ s.ethAccepts m.val frame = true ∧ s.ethDesc m.val 8 = none) ∧
    (∃ (m : Fin 4) (frame : List Byte) (fcsOk : Bool) (time : Dword) (s : State), s.ethRunning m.val = true ∧ 60 ≤ frame.length ∧ s.frameMax m.val < frame.length + 4) ∧
    (∃ (m : Fin 4) (frame : List Byte) (fcsOk : Bool) (time : Dword) (h : Nat) (d : EthDesc) (s : State), s.ethRunning m.val = true ∧ 60 ≤ frame.length ∧ frame.length + 4 ≤ s.frameMax m.val ∧ etherType frame ≠ 0x88F7 ∧ etherType frame ≠ 0x8808 ∧ s.ethAccepts m.val frame = true ∧ h = (s.page (ethP m.val)).owner ∧ s.ethDesc m.val 8 = some d ∧ d.clean = true ∧ d.host = true ∧ d.cueEn = false ∧ frame.length ≤ d.len ∧ s.hostUp = true ∧ s.recordOpen h d.at' 32) ∧
    (∃ (m : Fin 4) (frame : List Byte) (fcsOk : Bool) (time : Dword) (h : Nat) (d : EthDesc) (s : State), s.ethRunning m.val = true ∧ 60 ≤ frame.length ∧ frame.length + 4 ≤ s.frameMax m.val ∧ etherType frame ≠ 0x88F7 ∧ etherType frame ≠ 0x8808 ∧ s.ethAccepts m.val frame = true ∧ h = (s.page (ethP m.val)).owner ∧ s.ethDesc m.val 8 = some d ∧ d.clean = true ∧ d.host = true ∧ d.cueEn = false ∧ frame.length ≤ d.len ∧ s.hostUp = true ∧ s.recordOpen h d.at' 32) ∧
    (∃ (m : Fin 4) (time : Dword) (q : Fin 8) (host : List HostChunk) (bs : List Byte) (h : Nat) (d : EthDesc) (s : State), s.ethRunning m.val = true ∧ (s.mac m.val).oper = none ∧ s.ethDesc m.val q.val = some d ∧ ((∀ k, k < 8 → q.val < k → s.ethDesc m.val k = none)) ∧ d.clean = true ∧ d.cueEn = false ∧ d.vlan = false ∧ d.ts = false ∧ 60 ≤ d.len ∧ d.len + 4 ≤ s.frameMax m.val ∧ d.host = true ∧ s.hostUp = true ∧ chunkRead host d.addr d.len = some bs ∧ h = (s.page (ethP m.val)).owner ∧ s.recordOpen h d.at' 32) ∧
    (∃ (m : Fin 4) (v : BitVec 3) (s : State), s.inState (ethP m.val) [.running, .hold] = true ∧ ((v = 0 ∨ (if s.regF (ethP m.val) 0x040 1 0 = 1 then v = 4 else v.toNat ≤ 3)))) ∧
    (∃ (m : Fin 4) (v : BitVec 3) (s : State), s.inState (ethP m.val) [.running, .hold] = true ∧ ((v = 0 ∨ (if s.regF (ethP m.val) 0x040 1 0 = 1 then v = 4 else v.toNat ≤ 3)))) ∧
    (∃ (m : Fin 4) (off : Word) (s : State), s.ethRunning m.val = true ∧ s.gptpRole m.val = 1) ∧
    (∃ (m : Fin 4) (off : Word) (s : State), s.ethRunning m.val = true ∧ s.gptpRole m.val = 1) ∧
    (∃ (m : Fin 4) (off : Word) (s : State), s.ethRunning m.val = true ∧ s.gptpRole m.val = 1) ∧
    (∃ (m : Fin 4) (time : Dword) (s : State), s.ethRunning m.val = true ∧ s.gptpRole m.val = 2) ∧
    (∃ (m : Fin 4) (delay : Word) (s : State), s.ethRunning m.val = true ∧ s.gptpRole m.val ≠ 0) ∧
    (∃ (r : Requester) (m : Fin 4) (arg : BitVec 24) (s : State), s.commands r (ethP m.val) = true ∧ s.inState (ethP m.val) [.idle, .armed, .running, .hold] = true ∧ 1 ≤ s.regF (ethP m.val) 0x110 6 0 ∧ s.regF (ethP m.val) 0x110 6 0 ≤ 64 ∧ 10000 ≤ s.regF (ethP m.val) 0x104 29 0 ∧ s.regF (ethP m.val) 0x104 29 0 ≤ 1000000000 ∧ now s ≤ s.reg64 (ethP m.val) 0x108) ∧
    (∃ (m : Fin 4) (time : Dword) (g : GateList) (s : State), (s.mac m.val).pend = some g ∧ g.startsAt time.toNat = true ∧ now s ≤ time.toNat ∧ s.inState (ethP m.val) [.idle, .armed, .running, .hold] = true) :=
  ⟨⟨1, bEthF, true, 9000, bEth 8, by decide +kernel⟩,
   ⟨1, List.replicate 1519 3, true, 9000, bEth 8, by decide +kernel⟩,
   ⟨1, bEthF, true, 9000, 0, bRxDesc, bRx, by decide +kernel⟩,
   ⟨1, bEthF, false, 9000, 0, bRxDesc, bRx, by decide +kernel⟩,
   ⟨1, 9000, 7, [⟨0x1000, bEthF, false⟩], bEthF, 0, bTxDesc, bTx, by decide +kernel⟩,
   ⟨1, 3, bEth 8, by decide +kernel⟩,
   ⟨1, 0, bEth 8, by decide +kernel⟩,
   ⟨1, 0xFFFFFF00, bEth 0x18, by decide +kernel⟩,
   ⟨1, 0xFFFFFC18, (bEth 0x18).setRegN tempoP 0x080 0x100, by decide +kernel⟩,
   ⟨1, 0xFFFFFF00, ((bEth 0x18).setRegN tempoP 0x080 0x101).modTempo fun t => { t with syncGood := 15 }, by decide +kernel⟩,
   ⟨1, 9000, bEth 0x28, by decide +kernel⟩,
   ⟨1, 500, bEth 0x28, by decide +kernel⟩,
   ⟨core0, 1, 0, bQbv, by decide +kernel⟩,
   ⟨1, 25000, bGates, { bQbv with macs := tabSet EthMac.atReset bQbv.macs 1 ⟨none, some bGates⟩ }, by decide +kernel⟩⟩

theorem wit_CanPortsWork :
    (∃ (m : Fin 4) (f : CanFrame) (time : Dword) (off : Nat) (h : Nat) (s : State), s.canOn m.val = true ∧ ((f.fd = true → bit (s.reg (canP m.val) 0x040) 0 = true)) ∧ f.rtr = false ∧ f.data.length = dlcBytes f.fd f.dlc.toNat ∧ ((∃ i, i < 32 ∧ s.canMatch m.val i f = true)) ∧ s.canRecord m.val 0x050 0x058 = some off ∧ h = (s.page (canP m.val)).owner ∧ s.recordOpen h off 80) ∧
    (∃ (m : Fin 4) (f : CanFrame) (time : Dword) (off : Nat) (h : Nat) (s : State), s.canOn m.val = true ∧ ((f.fd = true → bit (s.reg (canP m.val) 0x040) 0 = true)) ∧ f.rtr = false ∧ f.data.length = dlcBytes f.fd f.dlc.toNat ∧ ((∃ i, i < 32 ∧ s.canMatch m.val i f = true)) ∧ s.canRecord m.val 0x050 0x058 = some off ∧ h = (s.page (canP m.val)).owner ∧ s.recordOpen h off 80) ∧
    (∃ (m : Fin 4) (f : CanFrame) (time : Dword) (s : State), ((∀ i, i < 32 → s.canMatch m.val i f = false))) ∧
    (∃ (m : Fin 4) (time : Dword) (off : Nat) (h : Nat) (rec80 : List Byte) (s : State), s.canOn m.val = true ∧ bit (s.reg (canP m.val) 0x040) 2 = false ∧ s.canRecord m.val 0x04C 0x054 = some off ∧ h = (s.page (canP m.val)).owner ∧ s.recordOpen h off 80 ∧ rec80 = s.readGrant h off 80 ∧ fld (wordAt rec80 0) 31 30 = 0) ∧
    (∃ (m : Fin 4) (s : State), s.inState (canP m.val) [.running, .hold] = true ∧ bit (s.reg (canP m.val) 0x040) 2 = false ∧ s.regF (canP m.val) 0x05C 17 16 ≠ 2) ∧
    (∃ (m : Fin 4) (s : State), s.inState (canP m.val) [.running, .hold] = true ∧ bit (s.reg (canP m.val) 0x040) 2 = false ∧ s.regF (canP m.val) 0x05C 17 16 ≠ 2) ∧
    (∃ (m : Fin 4) (s : State), s.inState (canP m.val) [.running, .hold] = true ∧ bit (s.reg (canP m.val) 0x040) 3 = true ∧ s.regF (canP m.val) 0x05C 17 16 = 2) :=
  ⟨⟨1, bCanFrame, 9000, 64, 0, bCanRx, by decide +kernel, by decide +kernel, rfl, by decide +kernel, ⟨31, by decide, by decide +kernel⟩, by decide +kernel, by decide +kernel, by decide +kernel⟩,
   ⟨1, bCanFd, 9000, 64, 0, bCanRx.setRegN (canP 1) 0x040 1, by decide +kernel, by decide +kernel, rfl, by decide +kernel, ⟨31, by decide, by decide +kernel⟩, by decide +kernel, by decide +kernel, by decide +kernel⟩,
   ⟨1, bCanFrame, 9000, b0, by decide +kernel⟩,
   ⟨1, 9000, 64, 0, bCanTx.readGrant 0 64 80, bCanTx, by decide +kernel⟩,
   ⟨1, bCanPort, by decide +kernel⟩,
   ⟨1, bCanPort.setRegN (canP 1) 0x040 8, by decide +kernel⟩,
   ⟨1, (bCanPort.setRegN (canP 1) 0x040 8).setRegN (canP 1) 0x05C 0x20000, by decide +kernel⟩⟩

theorem wit_DisplayFramesAreComposed :
    (∃ (time : Dword) (s : State), s.inState compP [.running, .hold] = true ∧ ((s.compOut = 1 ∨ s.compOut = 3)) ∧ s.comp.ending = 0 ∧ s.comp.commit = none) ∧
    (∃ (time : Dword) (px : Nat) (py : Nat) (s : State), s.inState compP [.running, .hold] = true ∧ ((s.compOut = 1 ∨ s.compOut = 3)) ∧ s.comp.ending = 0 ∧ s.comp.commit = none ∧ px < s.compW ∧ py < s.compH ∧ ((s.pageState compP = .hold ∨ ∀ l, l < 8 → (layerAt s.comp.layers l).en = false ∨ (layerAt s.comp.layers l).covers px py = false))) ∧
    (∃ (time : Dword) (px : Nat) (py : Nat) (l : Nat) (off : Nat) (y : Layer) (bs : List Byte) (s : State), s.pageState compP = .running ∧ ((s.compOut = 1 ∨ s.compOut = 3)) ∧ s.comp.ending = 0 ∧ s.comp.commit = none ∧ px < s.compW ∧ py < s.compH ∧ l < 8 ∧ y = layerAt s.comp.layers l ∧ y.en = true ∧ y.covers px py = true ∧ y.video = false ∧ y.fmt = 3 ∧ y.galpha = 255 ∧ y.premult = false ∧ ((∀ k, k < 8 → k ≠ l → (layerAt s.comp.layers k).en = false)) ∧ off = y.addr + (py - y.posY) * y.pitch + 4 * (px - y.posX) ∧ bs = s.readGrant (s.page compP).owner off 4 ∧ byteAt bs 3 = 255) ∧
    (∃ (time : Dword) (t0 : Nat) (ls : List Word) (s : State), s.inState compP [.running, .hold] = true ∧ ((s.compOut = 1 ∨ s.compOut = 3)) ∧ s.comp.ending = 0 ∧ s.comp.commit = some (t0, ls) ∧ t0 + 50000 ≤ now (advanceTo time.toNat s)) ∧
    (∃ (line : BitVec 11) (x : BitVec 11) (s : State), s.comp.inFrame = true ∧ ((s.compOut = 1 ∨ s.compOut = 3)) ∧ line.toNat < s.compH ∧ line.toNat < s.out.display.length) ∧
    (∃ (f : Nat) (s : State), s.comp.wb = some f ∧ s.comp.buf ≤ 1) ∧
    (∃ (f : Nat) (s : State), s.comp.wb = some f ∧ s.comp.buf ≤ 1) ∧
    (∃ (f : Nat) (h : Nat) (pitch : Nat) (base : Nat) (y : Nat) (s : State), s.comp.wb = some f ∧ h = (s.page compP).owner ∧ pitch = s.regF compP 0x050 23 0 ∧ base = 64 * s.regF compP 0x04C 23 0 + s.comp.buf * pitch * s.compH ∧ ((∀ row ∈ s.comp.frame, 4 * row.length ≤ pitch)) ∧ s.recordOpen h base (pitch * s.comp.frame.length) ∧ s.noTriggers 0x34 ∧ y < s.comp.frame.length) ∧
    (∃ (r : Requester) (arg : BitVec 24) (s : State), s.commands r compP = true ∧ s.inState compP [.running, .hold] = true ∧ s.badLayer s.stagedLayers = none) ∧
    (∃ (r : Requester) (arg : BitVec 24) (l : Nat) (s : State), s.commands r compP = true ∧ s.inState compP [.running, .hold] = true ∧ s.badLayer s.stagedLayers = some l) ∧
    (∃ (r : Requester) (arg : BitVec 24) (s : State), s.commands r compP = true ∧ s.inState compP [.idle, .hold] = true ∧ ((longPacket (s.regF compP 0x090 5 0) = true → s.regF compP 0x090 23 8 ≤ 64))) ∧
    (∃ (r : Requester) (arg : BitVec 24) (v : Option Dword) (s : State), s.commands r compP = true ∧ s.inState compP [.idle, .hold] = true ∧ ((longPacket (s.regF compP 0x090 5 0) = true → s.regF compP 0x090 23 8 ≤ 64))) ∧
    (∃ (c : PendCmd) (s : State), (s.page compP).pending = some c ∧ c.code = 0x11) ∧
    (∃ (c : PendCmd) (v : Dword) (s : State), (s.page compP).pending = some c ∧ c.code = 0x12 ∧ s.comp.answer = some v) :=
  ⟨⟨9000, bComp id, by decide +kernel⟩,
   ⟨9000, 1, 1, bComp fun c => { c with layers := bLayers.set 21 0 }, by decide +kernel⟩,
   ⟨9000, 1, 1, 3, 132, layerAt bLayers 3, [1, 2, 3, 255], put 0x2000084 [1, 2, 3, 255] (bComp fun c => { c with layers := bLayers }), by decide +kernel⟩,
   ⟨90000, 40000, List.replicate 57 0, bComp fun c => { c with commit := some (40000, List.replicate 57 0) }, by decide +kernel⟩,
   ⟨1, 1, bShown, by decide +kernel⟩,
   ⟨5, bComp fun c => { c with wb := some 5 }, by decide +kernel⟩,
   ⟨5, bComp fun c => { c with wb := some 5, buf := 1 }, by decide +kernel⟩,
   ⟨5, 0, 64, 192, 1, bWritten, by decide +kernel⟩,
   ⟨core0, 0, bComp id, by decide +kernel⟩,
   ⟨core0, 0, 0, (bComp id).setRegN compP 0x100 1, by decide +kernel⟩,
   ⟨core0, 0, bDcs, by decide +kernel⟩,
   ⟨core0, 0, some 0x1234, bDcs, by decide +kernel⟩,
   ⟨bCmd 0x11 .idle, bPend compP 0x11 bDcs, by decide +kernel⟩,
   ⟨bCmd 0x12 .idle, 0x1122334455667788, { bPend compP 0x12 bDcs with comp := { bDcs.comp with answer := some 0x1122334455667788 } }, by decide +kernel⟩⟩

def bFused : State := bImg1.modBoot fun b => { b with headS := List.replicate 16 0 ++ [5] ++ List.replicate 200 0 }
def bAfter (i : Instr) (s : State) : State := match exec i s with
  | .next t => t
  | _ => s
theorem wit_DeviceResetIsRefused :
    (∃ (r : Requester) (s : State), s.commands r imageP = true ∧ s.pageState imageP = .running ∧ s.anyTorque = true) ∧
    (∃ (r : Requester) (s : State), s.commands r imageP = true ∧ s.pageState imageP = .running ∧ s.anyTorque = false ∧ ((s.regF procP 0x040 10 8 = 2 ∨ (∃ l ∈ s.proc.latches, l.cause = .por) ∨ bit (s.reg hallP 0x040) 2 = true))) ∧
    (∃ (r : Requester) (s : State), s.commands r imageP = true ∧ s.pageState imageP = .running ∧ s.anyTorque = false ∧ ((s.regF procP 0x040 10 8 = 2 ∨ (∃ l ∈ s.proc.latches, l.cause = .por) ∨ bit (s.reg hallP 0x040) 2 = true))) :=
  ⟨⟨core0, bImg1.toState (loopP 0) .hold, by decide +kernel⟩,
   ⟨core0, bImg1.setRegN procP 0x040 0x200, by decide +kernel⟩,
   ⟨core0, bImg1.setRegN hallP 0x040 4, by decide +kernel⟩⟩

theorem wit_FuseValuesNeverDecrease :
    (∃ (c : Instr) (s : State) (t : State), exec c s = .next t) :=
  ⟨.commitSvn core0 0, bFused, bAfter (.commitSvn core0 0) bFused, rfl⟩

/-- The rest state with a Pulse boundary waiting. -/
def bNext : State := { b0 with pending := [.pulseBoundary] }
theorem wit_StepsKeepDynamicsSound : bNext.dynSound ∧ ∃ t, step bNext = .next t :=
  ⟨by unfold State.dynSound; decide +kernel, _, rfl⟩
theorem wit_StepsKeepMemoryCanonical : Memory.wf bNext.mem ∧ ∃ t, step bNext = .next t :=
  ⟨by decide +kernel, _, rfl⟩

end

end Sys2Proof.Tests
end

section
/-!
PROOFS. The Roll Book (R83): it is open to every homeroom, and a write to it has no effect. A read of several words answers the
bytes of the book from its address, with zeros after the book's end; in between, each access may start a wake.
-/

namespace Sys2Proof.Machine

/-! ## Reading past the end of a list -/

/-- The first `n` entries of a list, with a filler after the list's end. -/
def takePadded {α : Type} (d : α) (n : Nat) (l : List α) : List α := l.take n ++ List.replicate (n - l.length) d

theorem takePadded_zero {α : Type} (d : α) (l : List α) : takePadded d 0 l = [] := by
  rw [takePadded, List.take_zero, Nat.zero_sub, List.replicate_zero, List.append_nil]

theorem takePadded_nil {α : Type} (d : α) (n : Nat) : takePadded d n [] = List.replicate n d := by
  rw [takePadded, List.take_nil, List.nil_append, List.length_nil, Nat.sub_zero]

theorem takePadded_cons {α : Type} (d : α) (n : Nat) (x : α) (l : List α) :
    takePadded d (n + 1) (x :: l) = x :: takePadded d n l := by
  rw [takePadded, List.take_succ_cons, List.length_cons, Nat.add_sub_add_right, List.cons_append, takePadded]

theorem length_takePadded {α : Type} (d : α) (n : Nat) (l : List α) : (takePadded d n l).length = n := by
  rw [takePadded, List.length_append, List.length_take, List.length_replicate]
  omega

theorem takePadded_add {α : Type} (d : α) (m n : Nat) (l : List α) :
    takePadded d (m + n) l = takePadded d m l ++ takePadded d n (l.drop m) := by
  induction m generalizing l with
  | zero => rw [Nat.zero_add, takePadded_zero, List.nil_append, List.drop_zero]
  | succ m ih => cases l with
    | nil => rw [List.drop_nil, takePadded_nil, takePadded_nil, takePadded_nil, List.replicate_append_replicate]
    | cons x l =>
      rw [Nat.add_right_comm, takePadded_cons, takePadded_cons, ih, List.drop_succ_cons, List.cons_append]

/-! ## States that differ in the Dynamics unit, or in an answer too -/

section
variable {s t u : State}

theorem Quiet.trans (h : Quiet s t) (k : Quiet t u) : Quiet s u := by
  unfold Quiet at *
  rw [k, h]

theorem quiet_settle (s : State) : Quiet s s.settle := rfl

theorem quiet_hostWake (s : State) (r : Requester) : Quiet s (s.hostWake r) := by
  cases r with
  | host x => unfold State.hostWake State.wakeBy; dsimp only; split <;> rfl
  | core | tile | dma => rfl

/-- Nothing differs but the answer of a read and the Dynamics unit. -/
def Answered (s t : State) : Prop := Quiet { s with out := t.out } t

theorem Answered.refl (s : State) : Answered s s := rfl

theorem Answered.trans (h : Answered s t) (k : Answered t u) : Answered s u := by
  unfold Answered Quiet at *
  rw [k, h]

theorem Answered.of_quiet (h : Quiet s t) : Answered s t := by
  unfold Answered Quiet at *
  rw [h]

theorem answered_answer (s : State) (bs : List Byte) (poisoned : Bool) : Answered s (s.answer bs poisoned) := rfl

theorem Answered.requesterHr_eq (h : Answered s t) (r : Requester) : t.requesterHr r = s.requesterHr r := by
  unfold Answered Quiet at h
  rw [h]
  cases r with
  | host x => cases x <;> rfl
  | core | tile | dma => rfl

theorem Answered.book_eq (h : Answered s t) : t.book = s.book := by
  unfold Answered Quiet at h
  rw [h]
  rfl

theorem Quiet.requesterHr_eq (h : Quiet s t) (r : Requester) : t.requesterHr r = s.requesterHr r :=
  (Answered.of_quiet h).requesterHr_eq r

theorem Quiet.book_eq (h : Quiet s t) : t.book = s.book := (Answered.of_quiet h).book_eq

end

/-! ## Reads of the Roll Book -/

section
variable {s : State} {r : Requester} {h : Nat}

/-- `n` bytes of the Roll Book from an address; every byte after the book's end reads 0 (R107). -/
def State.bookBytes (s : State) (a n : Nat) : List Byte := takePadded 0 n (s.book.drop a)

theorem State.bookBytes_length (s : State) (a n : Nat) : (s.bookBytes a n).length = n := length_takePadded _ _ _

theorem State.bookBytes_add (s : State) (a m n : Nat) : s.bookBytes a (m + n) = s.bookBytes a m ++ s.bookBytes (a + m) n := by
  rw [State.bookBytes, takePadded_add, List.drop_drop]
  rfl

/-- One word of the Roll Book goes to a requester of any homeroom. -/
theorem State.readSpace_book {a : Nat} (hr : s.requesterHr r = some h) (ha : a < 0x10000) :
    s.readSpace r a = (s.hostWake r).answer (s.bookBytes a 4) false := by
  have hw := quiet_hostWake s r
  simp only [State.readSpace, hw.requesterHr_eq, hw.book_eq, hr, ha, if_true, State.bookBytes, takePadded]

theorem State.answered_readSpace_book {a : Nat} (hr : s.requesterHr r = some h) (ha : a < 0x10000) :
    Answered s (s.readSpace r a) := by
  rw [State.readSpace_book hr ha]
  exact (Answered.of_quiet (quiet_hostWake s r)).trans (answered_answer _ _ _)

/-- The words of a range, read one by one with their bytes collected, as `State.readAny` reads them. -/
def State.readWords (s : State) (r : Requester) (a k : Nat) : State × List Byte :=
  (List.range k).foldl (fun (x : State × List Byte) i =>
    let s1 := x.1.readSpace r (a + 4 * i)
    (s1, x.2 ++ s1.out.readData)) (s, [])

theorem State.readWords_succ (s : State) (r : Requester) (a k : Nat) :
    s.readWords r a (k + 1) =
      let x := s.readWords r a k
      let t := x.1.readSpace r (a + 4 * k)
      (t, x.2 ++ t.out.readData) := by
  rw [State.readWords, List.range_succ, List.foldl_append]
  rfl

/-- A read of other than one word, from an aligned address. -/
theorem State.readAny_words (s : State) (r : Requester) {a k : Nat} (ha : a % 4 = 0) (hk : k ≠ 1) :
    s.readAny r a (4 * k) =
      let x := s.readWords r a k
      x.1.answer (x.2.take (4 * k)) false := by
  have hword : ¬ (4 * k = 4 ∧ a % 4 = 0) := by omega
  have hcount : (a % 4 + 4 * k + 3) / 4 = k := by omega
  have hbase : a / 4 * 4 = a := by omega
  rw [State.readAny, if_neg hword, hcount, hbase, ha]
  rfl

/-- Word by word, a read of the Roll Book collects its bytes and leaves the state as it is. -/
theorem State.readWords_book {a : Nat} (hr : s.requesterHr r = some h) (k : Nat) (ha : a + 4 * k ≤ 0x10000) :
    Answered s (s.readWords r a k).1 ∧ (s.readWords r a k).2 = s.bookBytes a (4 * k) := by
  induction k with
  | zero => exact ⟨Answered.refl s, (takePadded_zero _ _).symm⟩
  | succ k ih =>
    obtain ⟨hs, hb⟩ := ih (by omega)
    have hr' := (hs.requesterHr_eq r).trans hr
    have ha' : a + 4 * k < 0x10000 := by omega
    rw [State.readWords_succ]
    refine ⟨hs.trans (State.answered_readSpace_book hr' ha'), ?_⟩
    have hw : ((s.readWords r a k).1.readSpace r (a + 4 * k)).out.readData = s.bookBytes (a + 4 * k) 4 := by
      rw [State.readSpace_book hr' ha', State.bookBytes, hs.book_eq]
      rfl
    dsimp only
    rw [hb, hw]
    exact (s.bookBytes_add a (4 * k) 4).symm

/-- A read of whole words of the Roll Book answers its bytes. -/
theorem State.readAny_book {a : Nat} (hr : s.requesterHr r = some h) (h4 : a % 4 = 0) (n : Nat) (ha : a + 4 * n ≤ 0x10000) :
    Answered s (s.readAny r a (4 * n)) ∧ (s.readAny r a (4 * n)).out.readData = s.bookBytes a (4 * n) := by
  by_cases hn : n = 1
  · subst hn
    have ha' : a < 0x10000 := by omega
    have he : s.readAny r a (4 * 1) = s.readSpace r a := if_pos ⟨rfl, h4⟩
    rw [he]
    refine ⟨State.answered_readSpace_book hr ha', ?_⟩
    rw [State.readSpace_book hr ha']
    rfl
  · obtain ⟨hs, hb⟩ := State.readWords_book hr n ha
    rw [State.readAny_words s r h4 hn]
    refine ⟨hs.trans (answered_answer _ _ _), ?_⟩
    calc _ = (s.bookBytes a (4 * n)).take (4 * n) := congrArg (List.take (4 * n)) hb
      _ = s.bookBytes a (4 * n) := List.take_of_length_le (Nat.le_of_eq (s.bookBytes_length a (4 * n)))

/-! ## Writes to the Roll Book -/

/-- Every block page stands above the Roll Book and the reserved range after it (R76). -/
theorem le_typeBase (t : PageType) : 0x100000 ≤ typeBase t := by cases t <;> decide

theorem pageAt_below_pages (g : Grade) {a : Nat} (ha : a < 0x100000) : pageAt g a = none := by
  have hn : ∀ t ∈ allTypes, ¬ (decide (typeBase t ≤ a) && decide (a < typeBase t + 0x1000 * span t * instances g t)) = true := by
    intro t _
    have := le_typeBase t
    simp only [Bool.and_eq_true, decide_eq_true_eq]
    omega
  rw [pageAt, List.find?_eq_none.mpr hn]
  rfl

theorem writeWord_below_pages {a : Nat} (hr : s.requesterHr r = some h) (ha : a < 0x100000) (v : Word) :
    writeWord r a v s = .next (s.hostWake r).settle := by
  simp only [writeWord, hr, pageAt_below_pages _ ha, done_eq]

theorem State.badWrite_below_pages {a : Nat} (hr : s.requesterHr r = some h) (ha : a < 0x100000) :
    s.badWrite r a = s.hostWake r := by
  simp only [State.badWrite, (quiet_hostWake s r).requesterHr_eq, hr, pageAt_below_pages _ ha]

theorem quiet_hostWake_settle (s : State) (r : Requester) : Quiet s (s.hostWake r).settle :=
  (quiet_hostWake s r).trans (quiet_settle _)

/-- A write below the block pages, of any size and alignment, changes nothing but the Dynamics unit. -/
theorem completes_registerWrite_below_pages {addr : Word} (hr : s.requesterHr r = some h) (ha : addr.toNat < 0x100000) (size : Nat)
    (v : Dword) : Completes (.registerWrite r addr size v) s fun t => Quiet s t := by
  have hq := quiet_hostWake_settle s r
  change ∃ t, execRegisterWrite r addr size v s = .next t ∧ Quiet s t
  unfold execRegisterWrite
  dsimp only
  split
  · exact ⟨_, writeWord_below_pages hr ha _, hq⟩
  · split
    · have hr' := (hq.requesterHr_eq r).trans hr
      rw [writeWord_below_pages hr ha]
      exact ⟨_, writeWord_below_pages hr' (by omega) _, hq.trans (quiet_hostWake_settle _ r)⟩
    · rw [State.badWrite_below_pages hr ha]
      exact ⟨_, done_eq _, hq⟩

/-- A read of whole words of the Roll Book completes and answers its bytes to any homeroom. -/
theorem completes_latchingRead_book {addr : Word} (hr : s.requesterHr r = some h) (h4 : addr.toNat % 4 = 0) (n : Nat)
    (ha : addr.toNat + 4 * n ≤ 0x10000) :
    Completes (.latchingRead r ⟨addr, 4 * n⟩) s fun t => t.out.readData = s.bookBytes addr.toNat (4 * n) ∧ Answered s t := by
  obtain ⟨hs, hb⟩ := State.readAny_book hr h4 n ha
  exact ⟨_, rfl, hb, hs.trans (Answered.of_quiet (quiet_settle _))⟩

end

/-- Settles O13: a read collects the book's bytes word by word, and a write finds no page at its address (R83). -/
theorem rollBookIsOpenAndReadOnly : Obligations.RollBookIsOpenAndReadOnly := by
  unfold Obligations.RollBookIsOpenAndReadOnly
  constructor
  · intro r h n addr s hr h4 ha
    exact completes_latchingRead_book hr h4 n ha
  · intro r h addr size v s hr ha
    exact completes_registerWrite_below_pages hr (by omega) size v

end Sys2Proof.Machine
end

section
/-!
PROOFS. A command of the IMAGE page that its checks refuse shows the refusal on its page and does nothing else; DEVICE_RESET (R455)
is refused with torque and with a state that only power-on reset clears.
-/

namespace Sys2Proof.Machine

/-! ## Commands that touch one page -/

section
variable {s t u : State} {ps : List PageRef} {rs : List Nat}

theorem Beside.of_quiet (h : Quiet s t) : Beside ps rs s t := by
  unfold Quiet at h
  rw [h]
  exact ⟨rfl, fun _ _ => rfl, fun _ _ _ => rfl⟩

theorem Beside.trans (h : Beside ps rs s t) (k : Beside ps rs t u) : Beside ps rs s u := by
  obtain ⟨hs, hp, hr⟩ := h
  obtain ⟨ks, kp, kr⟩ := k
  refine ⟨?_, fun q hq => (kp q hq).trans (hp q hq), fun p off ho => (kr p off ho).trans (hr p off ho)⟩
  rw [hs] at ks
  exact ks

variable (s) (p : PageRef)

theorem beside_modPage (f : Page → Page) : Beside [p] [] s (s.modPage p f) :=
  ⟨rfl, fun q hq => State.page_setPage_ne _ _ (hq p (by simp)), fun _ _ _ => rfl⟩

theorem beside_sendMsix (e : Nat) : Beside ps rs s (s.sendMsix e) := by
  unfold State.sendMsix
  dsimp only
  split <;> exact ⟨rfl, fun _ _ => rfl, fun _ _ _ => rfl⟩

theorem beside_raise (i : Nat) : Beside [p] [] s (s.raise p i) := by
  unfold State.raise
  dsimp only
  split
  · exact (beside_modPage s p fun g => { g with pend := g.pend ||| (1#32 <<< i) }).trans (beside_sendMsix _ _)
  · exact beside_modPage s p fun g => { g with pend := g.pend ||| (1#32 <<< i) }

theorem beside_countRefusal : Beside [p] [] s (s.countRefusal p) := (beside_modPage s p _).trans (beside_raise _ p _)

/-- An answer posted changes nothing but its page's record. -/
theorem beside_postAnswer (a : Ans) (x : PageState) (code : Nat) (seq : BitVec 16) (arg : BitVec 24) :
    Beside [p] [] s (s.postAnswer p a x code seq arg) := by
  have hr : Beside [p] [] s (s.postResult p a.res x code seq) := beside_modPage s p _
  have hy : Beside [p] [] s (match a.syn with
      | some (c, d) => (s.postResult p a.res x code seq).syndrome p c d
      | none => s.postResult p a.res x code seq) := by
    split
    · exact hr.trans (beside_modPage _ p _)
    · exact hr
  unfold State.postAnswer
  dsimp only
  split
  · exact hy.trans (beside_modPage _ p _)
  · split
    · exact hy.trans (beside_countRefusal _ p)
    · exact hy

end

/-- A refusal leaves no command pending that was not. -/
theorem State.pending_postAnswer_refusal (s : State) (p : PageRef) (c d : Nat) (x : PageState) (code : Nat) (seq : BitVec 16)
    (arg : BitVec 24) :
    ((s.postAnswer p (ansStateSyn c d) x code seq arg).page p).pending = (s.page p).pending := by
  simp only [State.postAnswer, ansStateSyn]
  simp [State.proj_countRefusal _ (·.pending) p p, State.syndrome, State.postResult]

theorem State.syndrome_postAnswer_refusal (s : State) (p : PageRef) (c d : Nat) (x : PageState) (code : Nat) (seq : BitVec 16)
    (arg : BitVec 24) :
    ((s.postAnswer p (ansStateSyn c d) x code seq arg).page p).syndrome = c % 256 * 0x10000 + d % 0x10000 := by
  simp only [State.postAnswer, ansStateSyn]
  simp [State.proj_countRefusal _ (·.syndrome) p p, State.syndrome, State.postResult]

theorem State.pending_eq_none_of_commands {s : State} {r : Requester} {p : PageRef} (h : s.commands r p = true) :
    (s.page p).pending = none := by
  unfold State.commands at h
  simp only [Bool.and_eq_true, Option.isNone_iff_eq_none] at h
  obtain ⟨⟨_, hn⟩, _⟩ := h
  exact hn

theorem State.porOnly_iff (s : State) :
    s.porOnly = true ↔ s.regF procP 0x040 10 8 = 2 ∨ (∃ l ∈ s.proc.latches, l.cause = .por) ∨ bit (s.reg hallP 0x040) 2 = true := by
  simp [State.porOnly, State.hmLatched, or_assoc]

section
variable (s : State) (r : Requester) (p : PageRef)

/-- The state in which the body of a command acts: the requester may have started a wake, and the command is taken. -/
def State.taken : State := (s.hostWake r).takeCommand p

theorem beside_taken : Beside [p] [] s (s.taken r p) :=
  (Beside.of_quiet (quiet_hostWake s r)).trans <|
    beside_modPage (s.hostWake r) p fun g => { g with writes := g.writes + 1, count := g.count + 1 }

theorem State.pageState_taken (q : PageRef) : (s.taken r p).pageState q = s.pageState q := by simp [State.taken]

theorem State.pending_taken : ((s.taken r p).page p).pending = (s.page p).pending := by simp [State.taken, State.takeCommand]

theorem State.anyTorque_taken : (s.taken r p).anyTorque = s.anyTorque := by
  have h : (s.taken r p).torque = s.torque := funext fun n => by simp only [State.torque, State.inState, State.pageState_taken]
  rw [State.anyTorque, h, State.anyTorque]

theorem State.porOnly_taken : (s.taken r p).porOnly = s.porOnly := by
  have hr : ∀ q off, (s.taken r p).reg q off = s.reg q off := fun q off => by simp [State.taken, State.reg]
  have hp : (s.taken r p).proc = s.proc := by simp [State.taken]
  rw [Bool.eq_iff_iff, State.porOnly_iff, State.porOnly_iff, State.regF, State.regF, hr, hr, hp]

end

theorem State.resultCode_settle (s : State) (p : PageRef) : s.settle.resultCode p = s.resultCode p := rfl

/-- A command of the IMAGE page in RUNNING that its checks refuse for a state: the refusal shows on the page, and nothing else happens. -/
theorem completes_of_imageCmd_refused {i : Instr} {s : State} {r : Requester} {code : Nat} {arg : BitVec 24}
    {body : State → Ans × State} {c : Nat} (hi : exec i s = done (s.imageCmd r imageP code arg body))
    (h : s.commands r imageP = true) (hs : s.pageState imageP = .running)
    (hu : isUniversal code = true ∨ zeroArg imageP code = true → arg = 0) (hc : code ≠ 0x0F)
    (hb : body (s.taken r imageP) = (ansStateSyn c 0, s.taken r imageP)) :
    Completes i s fun t => t.resultCode imageP = 3 ∧ (t.page imageP).syndrome = c % 256 * 0x10000 ∧
      (t.page imageP).pending = none ∧ Beside [imageP] [] s t := by
  have hx : s.imageCmd r imageP code arg body = (s.taken r imageP).postAnswer imageP (ansStateSyn c 0) (s.pageState imageP) code
      (BitVec.ofNat 16 ((s.page imageP).count + 1)) arg := by
    rw [State.imageCmd, s.pageCmd_run h code arg _ hu hc]
    dsimp only
    rw [← State.taken, State.pageState_taken, if_pos hs, hb]
  rw [hx, done_eq] at hi
  refine ⟨_, hi, ?_, ?_, ?_, ?_⟩
  · rw [State.resultCode_settle, State.resultCode_postAnswer _ _ _ _ _ _ _ (by simp [ansStateSyn])]
    rfl
  · rw [State.page_settle, State.syndrome_postAnswer_refusal, Nat.zero_mod, Nat.add_zero]
  · rw [State.page_settle, State.pending_postAnswer_refusal, State.pending_taken, State.pending_eq_none_of_commands h]
  · exact ((beside_taken s r imageP).trans (beside_postAnswer _ _ _ _ _ _ _)).trans (Beside.of_quiet (quiet_settle _))

/-- Settles O54: the checks of DEVICE_RESET see the state before the command, since a wake and the count of commands change none of
what they look at; their refusal is posted on the IMAGE page alone. -/
theorem deviceResetIsRefused : Obligations.DeviceResetIsRefused := by
  refine ⟨fun r s h hs ht => ?_, fun r s h hs ht hp => ?_⟩
  · exact completes_of_imageCmd_refused (c := 6) rfl h hs (fun _ => rfl) (by decide) (by simp [State.anyTorque_taken, ht])
  · exact completes_of_imageCmd_refused (c := 7) rfl h hs (fun _ => rfl) (by decide)
      (by simp [State.anyTorque_taken, State.porOnly_taken, ht, s.porOnly_iff.mpr hp])

end Sys2Proof.Machine
end

section
/-!
PROOFS. Fuse values (R450): they never decrease and change only through COMMIT_SVN and REVOKE_KEY.

They lie in the boot unit. So it is said once of every operation that it leaves the boot unit alone (`_boot`) or, where it writes
flash or restarts the device, its fuses (`_fuses`); of every other command, that it keeps the fuse values (`_keeps`). The
operations stand in the order of the model's files, each lemma resting on those of the operations it calls. The two commands are
looked at on their own at the end.

Where `simp` would close a step by unfolding, the kernel would have to compute it, down to checksums; `-implicitDefEqProofs`
makes it write the step out.
-/

namespace Sys2Proof.Machine

/-! ## What is kept -/

/-- The fuse values of R450: the two rollback counts and the revocation bits. -/
def Fuses.values (f : Fuses) : Nat × Nat × Nat := (f.svnS, f.svnC, f.revoked)

/-- An outcome with the fuse values of `s`. -/
def Keeps (s : State) (o : Host.Outcome State Fault Refusal) : Prop :=
  ∀ t, o = .next t → t.boot.fuses.values = s.boot.fuses.values

section
variable (s t : State)

@[simp] theorem keeps_next : Keeps s (.next t) ↔ t.boot.fuses.values = s.boot.fuses.values := by simp [Keeps]
@[simp] theorem keeps_fault (f : Fault) : Keeps s (.fault f) := by simp [Keeps]
@[simp] theorem keeps_refused (f : Refusal) : Keeps s (.refused f) := by simp [Keeps]
@[simp] theorem keeps_done : Keeps s (done t) ↔ t.boot.fuses.values = s.boot.fuses.values := by simp [done]

theorem Keeps.of_boot {s u : State} {o : Host.Outcome State Fault Refusal} (hu : u.boot = s.boot) (h : Keeps u o) : Keeps s o := by
  unfold Keeps at *
  rwa [← hu]

end

/-! ## Choices, folds and draws -/

section
variable {α β γ σ : Type} (c : Prop) [Decidable c]

@[simp] theorem boot_ite (s t : State) : (if c then s else t).boot = if c then s.boot else t.boot := apply_ite _ _ _ _
@[simp] theorem fst_ite (s t : α × β) : (if c then s else t).1 = if c then s.1 else t.1 := apply_ite _ _ _ _
@[simp] theorem snd_ite (s t : α × β) : (if c then s else t).2 = if c then s.2 else t.2 := apply_ite _ _ _ _
@[simp] theorem keeps_ite (s : State) (a b : Host.Outcome State Fault Refusal) :
    Keeps s (if c then a else b) ↔ if c then Keeps s a else Keeps s b := by split <;> rfl

/-- A fold keeps what each of its steps keeps. -/
theorem foldl_keeps (g : σ → β) {f : σ → α → σ} (h : ∀ x a, g (f x a) = g x) (l : List α) (x : σ) : g (l.foldl f x) = g x := by
  induction l generalizing x with
  | nil => rfl
  | cons a l ih => rw [List.foldl_cons, ih, h]

@[simp] theorem foldl_boot {f : State → α → State} (h : ∀ s a, (f s a).boot = s.boot) (l : List α) (s : State) :
    (l.foldl f s).boot = s.boot := foldl_keeps State.boot h l s
@[simp] theorem foldl_fst_boot {f : State × β → α → State × β} (h : ∀ s a, (f s a).1.boot = s.1.boot) (l : List α) (s : State × β) :
    (l.foldl f s).1.boot = s.1.boot := foldl_keeps (fun x => x.1.boot) h l s
@[simp] theorem foldl_snd_boot {f : β × State → α → β × State} (h : ∀ s a, (f s a).2.boot = s.2.boot) (l : List α) (s : β × State) :
    (l.foldl f s).2.boot = s.2.boot := foldl_keeps (fun x => x.2.boot) h l s
@[simp] theorem foldl_snd_snd_boot {f : β × γ × State → α → β × γ × State} (h : ∀ s a, (f s a).2.2.boot = s.2.2.boot) (l : List α)
    (s : β × γ × State) : (l.foldl f s).2.2.boot = s.2.2.boot := foldl_keeps (fun x => x.2.2.boot) h l s

@[simp] theorem sat_bind (m : Sat α) (f : α → Sat β) (k : Nat) : (m >>= f) k = f (m k).1 (m k).2 := rfl
@[simp] theorem sat_pure (a : α) (k : Nat) : (pure a : Sat α) k = (a, k) := rfl
@[simp] theorem sat_map (g : α → β) (m : Sat α) (k : Nat) : (g <$> m) k = (g (m k).1, (m k).2) := rfl
@[simp] theorem sat_ite (a b : Sat α) (k : Nat) : (if c then a else b) k = if c then a k else b k := by split <;> rfl

/-- Every result of a computation that counts saturations has a property. -/
def Sat.Always (P : α → Prop) (m : Sat α) : Prop := ∀ k, P (m k).1

variable {P : β → Prop} {Q : α → Prop} {m : Sat α} {f : α → Sat β}

theorem Sat.always_pure {b : β} (h : P b) : Sat.Always P (pure b) := fun _ => h
theorem Sat.always_bind (h : ∀ a, Sat.Always P (f a)) : Sat.Always P (m >>= f) := fun k => h (m k).1 (m k).2
theorem Sat.always_bind_of (hm : Sat.Always Q m) (h : ∀ a, Q a → Sat.Always P (f a)) : Sat.Always P (m >>= f) :=
  fun k => h (m k).1 (hm k) (m k).2
theorem Sat.always_ite_bind {c : Prop} [Decidable c] {m' : Sat α} (h : ∀ a, Sat.Always P (f a)) :
    Sat.Always P (if c then m >>= f else m' >>= f) := by split <;> exact Sat.always_bind h

end

/-! ## What may end early -/

/-- Whether it ends early or goes on, the state has the boot unit `b`. -/
def EndsWith (b : BootUnit) : Except State State → Prop
  | .error s | .ok s => s.boot = b

/-- The same of a read, which goes on with the poison it met. -/
def ReadEndsWith (b : BootUnit) : Except State (Bool × State) → Prop
  | .error s => s.boot = b
  | .ok x => x.2.boot = b

/-! ## Pages, registers and memory (Machine/Ops) -/

section
variable (s : State)

@[simp] theorem State.resetReg_boot (p : PageRef) (off : Nat) : (s.resetReg p off).boot = s.boot := by simp [State.resetReg]
@[simp] theorem State.sendHost_boot (w : HostWrite) : (s.sendHost w).boot = s.boot := by simp [State.sendHost]
@[simp] theorem State.irqMessage_boot (p : PageRef) : (s.irqMessage p).boot = s.boot := by simp [State.irqMessage]

@[simp] theorem State.finishQuiesce_boot (p : PageRef) (res : Nat) (syn : Option (Nat × Nat)) : (s.finishQuiesce p res syn).boot = s.boot :=
  (frame_finishQuiesce ..).boot_eq

@[simp] theorem State.finishAll_boot (p : PageRef) (res : Nat) (syn : Option (Nat × Nat)) : (s.finishAll p res syn).boot = s.boot :=
  (frame_finishAll ..).boot_eq

@[simp] theorem State.frameHold_boot (p : PageRef) (quiescing : Bool) : (s.frameHold p quiescing).boot = s.boot := by simp [State.frameHold]
@[simp] theorem State.abortCam_boot (n : Nat) (counted : Bool) : (s.abortCam n counted).boot = s.boot := by simp [State.abortCam]

@[simp] theorem State.abortWork_boot (p : PageRef) (counted : Bool) : (s.abortWork p counted).boot = s.boot := by
  unfold State.abortWork; (repeat' split) <;> simp

@[simp] theorem State.losePage_boot (p : PageRef) (st : PageState) : (s.losePage p st).boot = s.boot := by simp [State.losePage]

@[simp] theorem State.violation_boot (h res kind cmd src where' detail : Nat) : (s.violation h res kind cmd src where' detail).boot = s.boot :=
  (frame_violation ..).boot_eq

@[simp] theorem State.unmapped_boot (pasid : Nat) (write : Bool) : (s.unmapped pasid write).boot = s.boot := (frame_unmapped ..).boot_eq

@[simp] theorem State.unmappedBy_boot (r : Requester) (write : Bool) : (s.unmappedBy r write).boot = s.boot := by
  unfold State.unmappedBy; (repeat' split) <;> simp

@[simp] theorem State.touch_boot (a n : Nat) : (s.touch a n).boot = s.boot := by simp [State.touch]
@[simp] theorem State.countUe_boot (unit : Nat) : (s.countUe unit).boot = s.boot := (frame_countUe ..).boot_eq
@[simp] theorem State.tileUe_boot (t off cls : Nat) : (s.tileUe t off cls).boot = s.boot := (frame_tileUe ..).boot_eq
@[simp] theorem State.memRecord_boot (a src kind : Nat) : (s.memRecord a src kind).boot = s.boot := (frame_memRecord ..).boot_eq
@[simp] theorem State.meetError_boot (src cls : Nat) (e : Nat × Nat) : (s.meetError src cls e).boot = s.boot := (frame_meetError ..).boot_eq
@[simp] theorem State.meetErrors_boot (a n src cls : Nat) : (s.meetErrors a n src cls).boot = s.boot := (frame_meetErrors ..).boot_eq

@[simp] theorem State.storeBytes_boot (a : Nat) (bs : List Byte) (poisoned : Bool) (src cls : Nat) :
    (s.storeBytes a bs poisoned src cls).boot = s.boot := (frame_storeBytes ..).boot_eq

@[simp] theorem State.meetGrant_boot (h off n : Nat) : (s.meetGrant h off n).boot = s.boot := (frame_meetGrant ..).boot_eq

@[simp] theorem State.putGrant_boot (h off : Nat) (bs : List Byte) (poisoned : Bool) : (s.putGrant h off bs poisoned).boot = s.boot :=
  (frame_putGrant ..).boot_eq

@[simp] theorem State.creditRes_boot : s.creditRes.boot = s.boot := by simp [State.creditRes]

end

/-! ## Releases of Parts (Machine/Release) -/

section
variable (s : State)

@[simp] theorem State.setPart_boot (h i : Nat) (p : Part) : (s.setPart h i p).boot = s.boot := (frame_setPart ..).boot_eq
@[simp] theorem State.setAct_boot (h i : Nat) (a : Option Activation) : (s.setAct h i a).boot = s.boot := (frame_setAct ..).boot_eq
@[simp] theorem State.modAct_boot (h i : Nat) (f : Activation → Activation) : (s.modAct h i f).boot = s.boot := (frame_modAct ..).boot_eq
@[simp] theorem State.stopAct_boot (h i : Nat) : (s.stopAct h i).boot = s.boot := (frame_stopAct ..).boot_eq
@[simp] theorem State.stopAllActs_boot (h : Nat) : (s.stopAllActs h).boot = s.boot := (frame_stopAllActs ..).boot_eq
@[simp] theorem State.setCueCount_boot (h cue n : Nat) : (s.setCueCount h cue n).boot = s.boot := (frame_setCueCount ..).boot_eq
@[simp] theorem State.dmaEndRegs_boot (c status : Nat) : (s.dmaEndRegs c status).boot = s.boot := (frame_dmaEndRegs ..).boot_eq
@[simp] theorem State.dmaStop_boot (c : Nat) : (s.dmaStop c).boot = s.boot := (frame_dmaStop ..).boot_eq
@[simp] theorem State.setKept_boot (p : PageRef) (l : List Nat) : (s.setKept p l).boot = s.boot := by simp [State.setKept]
@[simp] theorem State.qDrop_boot (p : PageRef) (h : Nat) : (s.qDrop p h).boot = s.boot := (frame_qDrop ..).boot_eq
@[simp] theorem State.qDisable_boot (p : PageRef) (h : Nat) : (s.qDisable p h).boot = s.boot := by simp [State.qDisable]
@[simp] theorem State.haltSeq_boot (q : Nat) : (s.haltSeq q).boot = s.boot := (frame_haltSeq ..).boot_eq
@[simp] theorem State.haltSeqs_boot : s.haltSeqs.boot = s.boot := (frame_haltSeqs ..).boot_eq
@[simp] theorem State.kvHalt_boot : s.kvHalt.boot = s.boot := (frame_kvHalt ..).boot_eq
@[simp] theorem State.dropJobs_boot (h : Nat) : (s.dropJobs h).boot = s.boot := (frame_dropJobs ..).boot_eq
@[simp] theorem State.homeroomFault_boot (h code detail : Nat) : (s.homeroomFault h code detail).boot = s.boot := (frame_homeroomFault ..).boot_eq
@[simp] theorem State.violationFault_boot (h : Nat) : (s.violationFault h).boot = s.boot := (frame_violationFault ..).boot_eq

@[simp] theorem State.violateBy_boot (h res kind cmd src where' detail : Nat) : (s.violateBy h res kind cmd src where' detail).boot = s.boot :=
  (frame_violateBy ..).boot_eq

@[simp] theorem State.violate_boot (h res kind cmd : Nat) (r : Requester) (where' detail : Nat) :
    (s.violate h res kind cmd r where' detail).boot = s.boot := by simp [State.violate]

@[simp] theorem State.writeGrant_boot (h off : Nat) (bs : List Byte) (poisoned : Bool) : (s.writeGrant h off bs poisoned).boot = s.boot :=
  (frame_writeGrant ..).boot_eq

@[simp] theorem State.setSeqWord_boot (q i : Nat) (v : Word) : (s.setSeqWord q i v).boot = s.boot := by simp [State.setSeqWord]
@[simp] theorem State.setSeqState_boot (q v : Nat) : (s.setSeqState q v).boot = s.boot := by simp [State.setSeqState]
@[simp] theorem State.lateRecord_boot (h i outcome cause : Nat) : (s.lateRecord h i outcome cause).boot = s.boot := (frame_lateRecord ..).boot_eq
@[simp] theorem State.lateNote_boot (h i : Nat) (p : Part) : (s.lateNote h i p).boot = s.boot := (frame_lateNote ..).boot_eq
@[simp] theorem State.takeLate_boot (h i cause : Nat) : (s.takeLate h i cause).boot = s.boot := (frame_takeLate ..).boot_eq
@[simp] theorem State.releasePart_boot (h i anchor : Nat) : (s.releasePart h i anchor).boot = s.boot := (frame_releasePart ..).boot_eq
@[simp] theorem State.tryTrigger_boot (h i : Nat) (fromHold : Bool) : (s.tryTrigger h i fromHold).boot = s.boot := (frame_tryTrigger ..).boot_eq
@[simp] theorem State.tryTriggers_boot (h cue : Nat) : (s.tryTriggers h cue).boot = s.boot := (frame_tryTriggers ..).boot_eq
@[simp] theorem State.retryTriggers_boot : s.retryTriggers.boot = s.boot := foldl_boot (fun s e => by split <;> simp) _ _
@[simp] theorem State.tickLevel_boot (lvl : Nat) : (s.tickLevel lvl).boot = s.boot := foldl_boot (fun s e => by split <;> simp) _ _
@[simp] theorem State.releaseDue_boot : s.releaseDue.boot = s.boot := foldl_boot (fun s e => by split <;> simp) _ _
@[simp] theorem State.vacateTile_boot (t : Nat) : (s.vacateTile t).boot = s.boot := (frame_vacateTile ..).boot_eq
@[simp] theorem State.holdTile_boot (t : Nat) : (s.holdTile t).boot = s.boot := (frame_holdTile ..).boot_eq
@[simp] theorem State.settleTile_boot (t : Nat) : (s.settleTile t).boot = s.boot := (frame_settleTile ..).boot_eq
@[simp] theorem State.leaveTile_boot (t : Nat) : (s.leaveTile t).boot = s.boot := (frame_leaveTile ..).boot_eq
@[simp] theorem State.dropWaiters_boot (t : Nat) : (s.dropWaiters t).boot = s.boot := (frame_dropWaiters ..).boot_eq
@[simp] theorem State.partFault_boot (t code : Nat) : (s.partFault t code).boot = s.boot := (frame_partFault ..).boot_eq

end

/-! ## Cues (Machine/Cues) -/

section
variable (s : State)

@[simp] theorem State.removeWaiter_boot (w : Waiter) : (s.removeWaiter w).boot = s.boot := by simp [State.removeWaiter]
@[simp] theorem State.nextInstr_boot (t : Nat) : (s.nextInstr t).boot = s.boot := (frame_nextInstr ..).boot_eq

@[simp] theorem State.tileWaitEnd_boot (t cue slot : Nat) (st : WaitStatus) : (s.tileWaitEnd t cue slot st).boot = s.boot :=
  (frame_tileWaitEnd ..).boot_eq

@[simp] theorem State.endWaiter_boot (w : Waiter) (st : WaitStatus) : (s.endWaiter w st).boot = s.boot := (frame_endWaiter ..).boot_eq
@[simp] theorem State.serve_boot (h cue k : Nat) : (s.serve h cue k).boot = s.boot := (frame_serve _ _ _ _).boot_eq
@[simp] theorem State.serveAll_boot (h cue : Nat) : (s.serveAll h cue).boot = s.boot := by unfold State.serveAll; simp
@[simp] theorem State.notify_boot (cue : Nat) : (s.notify cue).boot = s.boot := (frame_notify ..).boot_eq
@[simp] theorem State.cueEvent_boot (cue kind : Nat) : (s.cueEvent cue kind).boot = s.boot := (frame_cueEvent ..).boot_eq
@[simp] theorem State.barrierRelease_boot (cue : Nat) : (s.barrierRelease cue).boot = s.boot := (frame_barrierRelease ..).boot_eq
@[simp] theorem State.arrive_boot (cue v : Nat) : (s.arrive cue v).boot = s.boot := (frame_arrive ..).boot_eq
@[simp] theorem State.afterCount_boot (cue before : Nat) : (s.afterCount cue before).boot = s.boot := (frame_afterCount ..).boot_eq
@[simp] theorem State.signalCue_boot (cue v : Nat) : (s.signalCue cue v).boot = s.boot := (frame_signalCue ..).boot_eq
@[simp] theorem State.setCue_boot (cue v : Nat) : (s.setCue cue v).boot = s.boot := by simp [State.setCue]
@[simp] theorem State.hwSignal_boot (cue stamp : Nat) : (s.hwSignal cue stamp).boot = s.boot := (frame_hwSignal ..).boot_eq

@[simp] theorem State.joinList_boot (r : Requester) (h cue n timeout slot : Nat) : (s.joinList r h cue n timeout slot).boot = s.boot := by
  simp [State.joinList]

@[simp] theorem State.cueViolation_boot (r : Requester) (h cue op : Nat) : (s.cueViolation r h cue op).boot = s.boot := by simp [State.cueViolation]

@[simp] theorem State.opWait_boot (r : Requester) (h cue n timeout slot : Nat) : (s.opWait r h cue n timeout slot).boot = s.boot := by
  simp [State.opWait]

@[simp] theorem State.noArrive_boot (r : Requester) (w : Waiter) : (s.noArrive r w).boot = s.boot := by
  unfold State.noArrive; (repeat' split) <;> simp

@[simp] theorem State.opArrive_boot (r : Requester) (h cue timeout : Nat) : (s.opArrive r h cue timeout).boot = s.boot := by simp [State.opArrive]
@[simp] theorem State.signalFor_boot (h cue : Nat) : (s.signalFor h cue).boot = s.boot := (frame_signalFor ..).boot_eq
@[simp] theorem State.opSignal_boot (r : Requester) (h cue v : Nat) : (s.opSignal r h cue v).boot = s.boot := by simp [State.opSignal]
@[simp] theorem State.opSet_boot (r : Requester) (h cue v : Nat) : (s.opSet r h cue v).boot = s.boot := by simp [State.opSet]
@[simp] theorem State.opTest_boot (r : Requester) (h cue : Nat) : (s.opTest r h cue).2.boot = s.boot := by simp [State.opTest]
@[simp] theorem State.opTake_boot (r : Requester) (h cue : Nat) : (s.opTake r h cue).2.boot = s.boot := by simp [State.opTake]
@[simp] theorem State.cancelWaiters_boot (f : Waiter → Bool) : (s.cancelWaiters f).boot = s.boot := (frame_cancelWaiters ..).boot_eq

@[simp] theorem withHr_boot (r : Requester) (s : State) (write : Bool) (f : Nat → State) (h : ∀ k, (f k).boot = s.boot) :
    (withHr r s write f).boot = s.boot := by
  unfold withHr; split <;> simp [h]

@[simp] theorem execCueSignal_keeps (r : Requester) (cue : BitVec 16) (v : Word) (s : State) : Keeps s (execCueSignal r cue v s) := by
  simp [execCueSignal]

@[simp] theorem execCueWait_keeps (r : Requester) (cue n : BitVec 16) (timeout : BitVec 24) (s : State) :
    Keeps s (execCueWait r cue n timeout s) := by simp [execCueWait]

@[simp] theorem execCueArrive_keeps (r : Requester) (cue : BitVec 16) (timeout : BitVec 24) (s : State) :
    Keeps s (execCueArrive r cue timeout s) := by simp [execCueArrive]

@[simp] theorem execCueTest_keeps (r : Requester) (cue : BitVec 16) (s : State) : Keeps s (execCueTest r cue s) := by simp [execCueTest]
@[simp] theorem execCueSet_keeps (r : Requester) (cue : BitVec 16) (v : Word) (s : State) : Keeps s (execCueSet r cue v s) := by simp [execCueSet]
@[simp] theorem execCueTake_keeps (r : Requester) (cue : BitVec 16) (s : State) : Keeps s (execCueTake r cue s) := by simp [execCueTake]
@[simp] theorem execWaiterTimeout_keeps (i : Nat) (s : State) : Keeps s (execWaiterTimeout i s) := by unfold execWaiterTimeout; split <;> simp

end

/-! ## Banks (Machine/Banks) -/

section
variable (s : State)

@[simp] theorem State.clearBuild_boot (k : Nat) : (s.clearBuild k).boot = s.boot := by simp [State.clearBuild]
@[simp] theorem State.setBuild_boot (k b : Nat) (v : Bool) : (s.setBuild k b v).boot = s.boot := by simp [State.setBuild]
@[simp] theorem State.writeRecord_boot (k : Nat) (valid : Bool) : (s.writeRecord k valid).boot = s.boot := by simp [State.writeRecord]
@[simp] theorem State.abandonSegue_boot (k : Nat) (syn : Option (Nat × Nat)) : (s.abandonSegue k syn).boot = s.boot := by simp [State.abandonSegue]
@[simp] theorem State.abandonAll_boot : s.abandonAll.boot = s.boot := by simp [State.abandonAll]
@[simp] theorem State.bankEnd_boot (k : Nat) (st : PageState) : (s.bankEnd k st).boot = s.boot := by simp [State.bankEnd]
@[simp] theorem State.loseCopies_boot (bits : List Nat) : (s.loseCopies bits).boot = s.boot := by simp [State.loseCopies]
@[simp] theorem State.switchBank_boot (k : Nat) : (s.switchBank k).boot = s.boot := by simp [State.switchBank]
@[simp] theorem State.segueBoundary_boot : s.segueBoundary.2.boot = s.boot := by simp [State.segueBoundary]

end

/-! ## Service (Machine/Service) -/

section
variable (s : State)

@[simp] theorem State.setSync_boot (v : Nat) : (s.setSync v).boot = s.boot := by simp [State.setSync]
@[simp] theorem State.syncCheck_boot : s.syncCheck.boot = s.boot := by simp [State.syncCheck]

@[simp] theorem State.logAt_boot (t cls src unit verdict w1 : Nat) : (s.logAt t cls src unit verdict w1).boot = s.boot := by
  simp -implicitDefEqProofs [State.logAt]

@[simp] theorem State.log_boot (cls src unit verdict w1 : Nat) : (s.log cls src unit verdict w1).boot = s.boot := by simp [State.log]
@[simp] theorem State.loopLost_boot (n : Nat) : (s.loopLost n).boot = s.boot := by simp [State.loopLost]
@[simp] theorem State.lockAxes_boot (always : Bool) : (s.lockAxes always).boot = s.boot := by simp [State.lockAxes]
@[simp] theorem State.dropLevel_boot (n : Nat) : (s.dropLevel n).boot = s.boot := by simp [State.dropLevel]
@[simp] theorem State.evalLevel_boot : s.evalLevel.boot = s.boot := by simp [State.evalLevel]
@[simp] theorem State.capLevel_boot : s.capLevel.boot = s.boot := by simp [State.capLevel]

end

/-! ## Ports (Machine/Ports) -/

section
variable (s : State)

@[simp] theorem State.injCut_boot (n : Nat) : (s.injCut n).boot = s.boot := by simp [State.injCut]
@[simp] theorem State.stageGain_boot (n off : Nat) (v : Word) : (s.stageGain n off v).boot = s.boot := by simp [State.stageGain]
@[simp] theorem State.dropGain_boot (n off : Nat) : (s.dropGain n off).boot = s.boot := by simp [State.dropGain]
@[simp] theorem State.portNote_boot (n : Nat) : (s.portNote n).boot = s.boot := by simp [State.portNote]

@[simp] theorem State.portFault_boot (n kind sw t syn : Nat) (inBlank : Bool) (bits : Nat) :
    (s.portFault n kind sw t syn inBlank bits).boot = s.boot := by simp -implicitDefEqProofs [State.portFault]

@[simp] theorem State.allOff_boot (n : Nat) : (s.allOff n).boot = s.boot := by simp [State.allOff]

@[simp] theorem State.legFault_boot (n kind leg sw t : Nat) : (s.legFault n kind leg sw t).boot = s.boot := by
  unfold State.legFault; dsimp only; (repeat' split) <;> simp

@[simp] theorem State.offFault_boot (n kind t : Nat) : (s.offFault n kind t).boot = s.boot := by simp [State.offFault]
@[simp] theorem State.linkFault_boot (n t : Nat) : (s.linkFault n t).boot = s.boot := by simp [State.linkFault]
@[simp] theorem State.senseFault_boot (n t : Nat) : (s.senseFault n t).boot = s.boot := by simp [State.senseFault]
@[simp] theorem State.loseAdc_boot (bits : List Nat) : (s.loseAdc bits).boot = s.boot := by simp [State.loseAdc]

end

/-! ## The service level (Machine/Level) -/

section
variable (s : State)

@[simp] theorem State.dropHostReads_boot : s.dropHostReads.boot = s.boot := foldl_boot (fun s e => by split <;> simp) _ _
@[simp] theorem State.showLink_boot (speed width : Nat) : (s.showLink speed width).boot = s.boot := by simp [State.showLink]
@[simp] theorem State.linkDown_boot : s.linkDown.boot = s.boot := by simp [State.linkDown]
@[simp] theorem State.degradeLink_boot : s.degradeLink.boot = s.boot := by simp [State.degradeLink]
@[simp] theorem State.markLocker_boot (new : List Nat) : (s.markLocker new).boot = s.boot := by simp [State.markLocker]
@[simp] theorem State.excuse_boot (bits : List Nat) : (s.excuse bits).boot = s.boot := by simp -implicitDefEqProofs [State.excuse]
@[simp] theorem State.startReadmit_boot (h : Nat) : (s.startReadmit h).boot = s.boot := by simp [State.startReadmit]
@[simp] theorem State.stopEverywhere_boot (e : Nat × Nat) : (s.stopEverywhere e).boot = s.boot := by simp [State.stopEverywhere]
@[simp] theorem State.excuseTile_boot (t cause : Nat) : (s.excuseTile t cause).boot = s.boot := by simp -implicitDefEqProofs [State.excuseTile]
@[simp] theorem State.excuseMem_boot (bits : List Nat) : (s.excuseMem bits).boot = s.boot := by simp [State.excuseMem]
@[simp] theorem State.takeCondemned_boot : s.takeCondemned.boot = s.boot := by simp [State.takeCondemned]
@[simp] theorem State.memError_boot (a src kind : Nat) : (s.memError a src kind).boot = s.boot := by simp [State.memError]
@[simp] theorem State.seeErrors_boot (a n src cls : Nat) : (s.seeErrors a n src cls).boot = s.boot := by simp [State.seeErrors]
@[simp] theorem State.lookGrant_boot (h off n : Nat) : (s.lookGrant h off n).boot = s.boot := by simp [State.lookGrant]

end

/-! ## Pages and their commands (Machine/Pages) -/

section
variable (s : State)

@[simp] theorem State.clearOnRead_boot (h : Nat) (p : PageRef) (off : Nat) : (s.clearOnRead h p off).boot = s.boot := by
  unfold State.clearOnRead; (repeat' split) <;> simp

@[simp] theorem State.readWordAt_boot (r : Requester) (h : Nat) (p : PageRef) (off : Nat) : (s.readWordAt r h p off).boot = s.boot := by
  unfold State.readWordAt; dsimp only; (repeat' split) <;> simp

@[simp] theorem State.readSpace_boot (r : Requester) (addr : Nat) : (s.readSpace r addr).boot = s.boot := by
  unfold State.readSpace; dsimp only; (repeat' split) <;> simp

@[simp] theorem State.readAny_boot (r : Requester) (addr size : Nat) : (s.readAny r addr size).boot = s.boot := by simp [State.readAny]
@[simp] theorem execLatchingRead_keeps (r : Requester) (a : PageRead) (s : State) : Keeps s (execLatchingRead r a s) := by simp [execLatchingRead]

@[simp] theorem execRcRegisterRead_keeps (r : Requester) (a : PageRead) (s : State) : Keeps s (execRcRegisterRead r a s) := by
  simp [execRcRegisterRead]

@[simp] theorem State.refuseOwner_boot (r : Requester) (h : Nat) (p : PageRef) (off cmd : Nat) : (s.refuseOwner r h p off cmd).boot = s.boot := by
  simp [State.refuseOwner]

@[simp] theorem State.refuseState_boot (p : PageRef) : (s.refuseState p).boot = s.boot := by simp [State.refuseState]

@[simp] theorem State.guardWrite_boot (r : Requester) (p : PageRef) (off : Nat) (eff : State → Nat → State × Bool)
    (h : ∀ s k, (eff s k).1.boot = s.boot) : (s.guardWrite r p off eff).boot = s.boot := by
  unfold State.guardWrite; dsimp only; split <;> simp [h]

@[simp] theorem State.plainWrite_boot (p : PageRef) (off : Nat) (v : Word) : (s.plainWrite p off v).1.boot = s.boot := by
  unfold State.plainWrite; (repeat' split) <;> simp

@[simp] theorem State.irqWrite_boot (r : Requester) (p : PageRef) (off : Nat) (f : Page → Page) : (s.irqWrite r p off f).boot = s.boot := by
  unfold State.irqWrite; dsimp only; (repeat' split) <;> simp

@[simp] theorem execIrqPendWrite_keeps (r : Requester) (p : PageRef) (v : Word) (s : State) : Keeps s (execIrqPendWrite r p v s) := by
  simp [execIrqPendWrite]

@[simp] theorem execIrqEnWrite_keeps (r : Requester) (p : PageRef) (v : Word) (s : State) : Keeps s (execIrqEnWrite r p v s) := by
  simp [execIrqEnWrite]

@[simp] theorem State.crcWrite_boot (r : Requester) (p : PageRef) (v : Word) : (s.crcWrite r p v).boot = s.boot := by
  unfold State.crcWrite; dsimp only; (repeat' split) <;> simp

/-- The boot unit after a command of a page is the one before, or what the command's body made of it. -/
theorem State.pageCmd_boot_or (r : Requester) (p : PageRef) (code : Nat) (arg : BitVec 24)
    (body : State → Nat → Ans × State) (busy : Ans) :
    (s.pageCmd r p code arg body busy).boot = s.boot ∨
      ∃ (u : State) (h : Nat), u.boot = s.boot ∧ (s.pageCmd r p code arg body busy).boot = (body u h).2.boot := by
  unfold State.pageCmd
  dsimp only
  split
  · simp
  next h _ =>
    iterate 5
      split
      · simp
    refine .inr ⟨_, h, ?_, State.postAnswer_boot _ _ _ _ _ _ _⟩
    split <;> simp

/-- A command keeps of the boot unit what its body keeps. -/
theorem State.pageCmd_keeps {β : Type} (g : BootUnit → β) (r : Requester) (p : PageRef) (code : Nat) (arg : BitVec 24)
    {body : State → Nat → Ans × State} (busy : Ans) (h : ∀ s k, g (body s k).2.boot = g s.boot) :
    g (s.pageCmd r p code arg body busy).boot = g s.boot := by
  obtain hk | ⟨u, k, hu, hk⟩ := s.pageCmd_boot_or r p code arg body busy
  · rw [hk]
  · rw [hk, h, hu]

@[simp] theorem State.pageCmd_boot (r : Requester) (p : PageRef) (code : Nat) (arg : BitVec 24) (body : State → Nat → Ans × State)
    (busy : Ans) (h : ∀ s k, (body s k).2.boot = s.boot) : (s.pageCmd r p code arg body busy).boot = s.boot :=
  s.pageCmd_keeps id r p code arg busy h

@[simp] theorem crcGate_boot (p : PageRef) (k : Ans × State) (h : k.2.boot = s.boot) : (crcGate s p k).2.boot = s.boot := by
  simp [crcGate, h]

@[simp] theorem genDisable_boot (p : PageRef) : (genDisable s p).2.boot = s.boot := by simp [genDisable]
@[simp] theorem genQuiesce_boot (p : PageRef) : (genQuiesce s p).2.boot = s.boot := by simp [genQuiesce]
@[simp] theorem genReset_boot (p : PageRef) : (genReset s p).2.boot = s.boot := by simp [genReset]
@[simp] theorem execNop_keeps (r : Requester) (p : PageRef) (arg : BitVec 24) (s : State) : Keeps s (execNop r p arg s) := by simp [execNop]

@[simp] theorem execUnknownCommand_keeps (r : Requester) (p : PageRef) (code : BitVec 8) (arg : BitVec 24) (s : State) :
    Keeps s (execUnknownCommand r p code arg s) := by simp [execUnknownCommand]

end

/-! ## Scores (Machine/Score) -/

section
variable (s : State)

@[simp] theorem State.refitAll_boot : s.refitAll.boot = s.boot := by simp -implicitDefEqProofs [State.refitAll]
@[simp] theorem State.sleepPage_boot (p : PageRef) : (s.sleepPage p).boot = s.boot := by simp [State.sleepPage]

@[simp] theorem State.wakePage_boot (p : PageRef) (next : PageState → PageState) : (s.wakePage p next).boot = s.boot := by
  unfold State.wakePage; (repeat' split) <;> simp

@[simp] theorem State.clearTags_boot (q : Nat) : (s.clearTags q).boot = s.boot := by simp [State.clearTags]
@[simp] theorem State.gateSection_boot (q : Nat) (keep : Bool) : (s.gateSection q keep).boot = s.boot := by simp [State.gateSection]
@[simp] theorem State.powerSection_boot (q : Nat) : (s.powerSection q).boot = s.boot := by simp [State.powerSection]
@[simp] theorem State.updateReflex_boot : s.updateReflex.boot = s.boot := by simp [State.updateReflex]
@[simp] theorem State.syncTiles_boot (h : Nat) : (s.syncTiles h).boot = s.boot := by simp [State.syncTiles]

@[simp] theorem State.replaceScore_boot (h : Nat) : (s.replaceScore h).boot = s.boot := by
  unfold State.replaceScore
  split
  · rfl
  · dsimp only
    rw [State.updateReflex_boot, State.syncTiles_boot, foldl_boot (fun s e => by split <;> simp)]
    simp

@[simp] theorem execAdmitScore_keeps (r : Requester) (h : Fin 8) (arg : BitVec 24) (s : State) : Keeps s (execAdmitScore r h arg s) := by
  simp [execAdmitScore]

@[simp] theorem State.lookAdmit_boot (h off : Nat) : (s.lookAdmit h off).boot = s.boot := by unfold State.lookAdmit; (repeat' split) <;> simp

@[simp] theorem execAdmitComplete_keeps (h : Fin 8) (s : State) : Keeps s (execAdmitComplete h s) := by
  unfold execAdmitComplete; (repeat' split) <;> simp

@[simp] theorem execReadmissionComplete_keeps (h : Fin 8) (s : State) : Keeps s (execReadmissionComplete h s) := by simp [execReadmissionComplete]
@[simp] theorem State.applyReadmit_boot (h : Nat) : (s.applyReadmit h).boot = s.boot := by unfold State.applyReadmit; (repeat' split) <;> simp

end

/-! ## Homerooms (Machine/Homeroom) -/

section
variable (s : State)

@[simp] theorem State.setBits256_boot (p : PageRef) (base n : Nat) : (s.setBits256 p base n).boot = s.boot := by
  simp -implicitDefEqProofs [State.setBits256]

@[simp] theorem State.refreshHr0_boot : s.refreshHr0.boot = s.boot := by simp [State.refreshHr0]
@[simp] theorem State.setOwner_boot (p : PageRef) (h : Nat) : (s.setOwner p h).boot = s.boot := by simp [State.setOwner]
@[simp] theorem State.moveTiles_boot (t old new : Nat) : (s.moveTiles t old new).boot = s.boot := by simp [State.moveTiles]

@[simp] theorem State.configureApply_boot (t : Nat) : (s.configureApply t).boot = s.boot := by
  unfold State.configureApply
  generalize Nat.testBit = bit
  revert bit
  refine id ?_
  intro bit
  dsimp only
  rw [State.updateReflex_boot, State.refreshHr0_boot, State.modHr_boot, State.moveTiles_boot, State.setOwner_boot,
    foldl_boot (fun s c => by split <;> simp)]
  simp

@[simp] theorem execConfigure_keeps (r : Requester) (arg : BitVec 24) (s : State) : Keeps s (execConfigure r arg s) := by
  unfold execConfigure
  rw [keeps_done, State.pageCmd_boot]
  intro s k
  dsimp only
  (repeat' split) <;> simp -implicitDefEqProofs

@[simp] theorem execGrantPage_keeps (r : Requester) (arg : BitVec 24) (s : State) : Keeps s (execGrantPage r arg s) := by
  unfold execGrantPage
  rw [keeps_done, State.pageCmd_boot]
  intro s k
  dsimp only
  (repeat' split) <;> simp -implicitDefEqProofs

@[simp] theorem execRevokePage_keeps (r : Requester) (arg : BitVec 24) (s : State) : Keeps s (execRevokePage r arg s) := by
  unfold execRevokePage
  rw [keeps_done, State.pageCmd_boot]
  intro s k
  dsimp only
  (repeat' split) <;> simp -implicitDefEqProofs

@[simp] theorem State.cancelHr_boot (h : Nat) : (s.cancelHr h).boot = s.boot := by simp [State.cancelHr]
@[simp] theorem execRelease_keeps (r : Requester) (arg : BitVec 24) (s : State) : Keeps s (execRelease r arg s) := by simp [execRelease]
@[simp] theorem State.clearMemoryOf_boot (h : Nat) : (s.clearMemoryOf h).boot = s.boot := by simp [State.clearMemoryOf]
@[simp] theorem State.clearBlock_boot (b : Nat) : (s.clearBlock b).boot = s.boot := by simp [State.clearBlock]
@[simp] theorem execReleaseComplete_keeps (s : State) : Keeps s (execReleaseComplete s) := by unfold execReleaseComplete; split <;> simp

@[simp] theorem execViolationWindowExpiry_keeps (h : Fin 8) (s : State) : Keeps s (execViolationWindowExpiry h s) := by
  simp -implicitDefEqProofs [execViolationWindowExpiry]

@[simp] theorem State.stopHr_boot (h : Nat) : (s.stopHr h).boot = s.boot := by simp [State.stopHr]
@[simp] theorem State.hrStopOne_boot (h : Nat) : (s.hrStopOne h).boot = s.boot := by simp [State.hrStopOne]
@[simp] theorem hrEnable_boot (h : Nat) : (hrEnable s h).2.boot = s.boot := by unfold hrEnable; (repeat' split) <;> simp
@[simp] theorem hrDisable_boot (h : Nat) : (hrDisable s h).2.boot = s.boot := by simp [hrDisable]
@[simp] theorem State.hrQuiesceDone_boot (h : Nat) : (s.hrQuiesceDone h).boot = s.boot := by simp [State.hrQuiesceDone]
@[simp] theorem State.hrHold_boot (h : Nat) : (s.hrHold h).boot = s.boot := by simp [State.hrHold]
@[simp] theorem hrQuiesce_boot (h : Nat) : (hrQuiesce s h).2.boot = s.boot := by simp [hrQuiesce]
@[simp] theorem hrStop_boot (h : Nat) : (hrStop s h).2.boot = s.boot := by simp [hrStop]
@[simp] theorem hrReset_boot (h : Nat) : (hrReset s h).2.boot = s.boot := by simp [hrReset]
@[simp] theorem cueCfgEffect_boot (b j : Nat) (v : Word) (s : State) : (cueCfgEffect b j v s).1.boot = s.boot := by simp [cueCfgEffect]

@[simp] theorem execCueCfgWrite_keeps (r : Requester) (b : BitVec 8) (j : Fin 128) (v : Word) (s : State) :
    Keeps s (execCueCfgWrite r b j v s) := by simp [execCueCfgWrite]

@[simp] theorem State.cancelBlock_boot (b : Nat) : (s.cancelBlock b).boot = s.boot := by simp [State.cancelBlock]
@[simp] theorem execCueStorageError_keeps (b idx : BitVec 8) (s : State) : Keeps s (execCueStorageError b idx s) := by simp [execCueStorageError]
@[simp] theorem cueStop_boot (b : Nat) : (cueStop s b).2.boot = s.boot := by simp [cueStop]
@[simp] theorem cueReset_boot (b : Nat) : (cueReset s b).2.boot = s.boot := by simp [cueReset]

end

/-! ## Tempo (Machine/Tempo) -/

section
variable (s : State)

@[simp] theorem State.setActive_boot (pulse beats bars e barNo : Nat) : (s.setActive pulse beats bars e barNo).boot = s.boot := by
  simp [State.setActive]

@[simp] theorem State.ticksStop_boot : s.ticksStop.boot = s.boot := by simp [State.ticksStop]
@[simp] theorem State.restartWindows_boot : s.restartWindows.boot = s.boot := by simp -implicitDefEqProofs [State.restartWindows]
@[simp] theorem State.tempoRequest_boot (v : Nat) : (s.tempoRequest v).boot = s.boot := by simp [State.tempoRequest]
@[simp] theorem tempoEnable_boot : (tempoEnable s).2.boot = s.boot := by unfold tempoEnable; (repeat' split) <;> simp
@[simp] theorem tempoDisable_boot : (tempoDisable s).2.boot = s.boot := by simp [tempoDisable]
@[simp] theorem State.dropChange_boot : s.dropChange.boot = s.boot := by simp [State.dropChange]
@[simp] theorem State.abandonChange_boot : s.abandonChange.boot = s.boot := by simp [State.abandonChange]
@[simp] theorem State.torqueTaken_boot : s.torqueTaken.boot = s.boot := by unfold State.torqueTaken; (repeat' split) <;> simp
@[simp] theorem tempoQuiesce_boot : (tempoQuiesce s).2.boot = s.boot := by simp [tempoQuiesce]
@[simp] theorem State.tempoQuiesceDone_boot : s.tempoQuiesceDone.boot = s.boot := by simp [State.tempoQuiesceDone]
@[simp] theorem State.quiesceBeat_boot : s.quiesceBeat.boot = s.boot := by simp [State.quiesceBeat]
@[simp] theorem tempoStop_boot : (tempoStop s).2.boot = s.boot := by unfold tempoStop; (repeat' split) <;> simp
@[simp] theorem tempoReset_boot : (tempoReset s).2.boot = s.boot := by simp [tempoReset]
@[simp] theorem execSetTempo_keeps (r : Requester) (arg : BitVec 24) (s : State) : Keeps s (execSetTempo r arg s) := by simp [execSetTempo]

@[simp] theorem execSetTempoCheckDone_keeps (s : State) : Keeps s (execSetTempoCheckDone s) := by
  unfold execSetTempoCheckDone; (repeat' split) <;> simp

@[simp] theorem State.applyChange_boot : s.applyChange.boot = s.boot := by unfold State.applyChange; (repeat' split) <;> simp
@[simp] theorem execStepMtn_keeps (r : Requester) (arg : BitVec 24) (s : State) : Keeps s (execStepMtn r arg s) := by simp [execStepMtn]
@[simp] theorem execTempoSlewWrite_keeps (r : Requester) (v : Word) (s : State) : Keeps s (execTempoSlewWrite r v s) := by simp [execTempoSlewWrite]
@[simp] theorem execSyncHoldoverTimeout_keeps (s : State) : Keeps s (execSyncHoldoverTimeout s) := by simp [execSyncHoldoverTimeout]

@[simp] theorem execTempoEpochReached_keeps (s : State) : Keeps s (execTempoEpochReached s) := by
  unfold execTempoEpochReached; dsimp only; (repeat' split) <;> simp

@[simp] theorem State.planFsync_boot : s.planFsync.boot = s.boot := by simp [State.planFsync]
@[simp] theorem execFsyncAssert_keeps (n : Fin 12) (s : State) : Keeps s (execFsyncAssert n s) := by unfold execFsyncAssert; split <;> simp
@[simp] theorem execFsyncDeassert_keeps (n : Fin 12) (s : State) : Keeps s (execFsyncDeassert n s) := by unfold execFsyncDeassert; split <;> simp

@[simp] theorem execTriggerHoldExpiry_keeps (h : Fin 8) (i : Nat) (s : State) : Keeps s (execTriggerHoldExpiry h i s) := by
  unfold execTriggerHoldExpiry; (repeat' split) <;> simp

@[simp] theorem execDeadlineExpiry_keeps (h : Fin 8) (i : Nat) (s : State) : Keeps s (execDeadlineExpiry h i s) := by
  unfold execDeadlineExpiry; split <;> simp

@[simp] theorem execBudgetExpiry_keeps (h : Fin 8) (i : Nat) (at' : Dword) (s : State) : Keeps s (execBudgetExpiry h i at' s) := by
  unfold execBudgetExpiry; split <;> simp

@[simp] theorem execSkipDeadlineExpiry_keeps (h : Fin 8) (i : Nat) (s : State) : Keeps s (execSkipDeadlineExpiry h i s) := by
  unfold execSkipDeadlineExpiry; (repeat' split) <;> simp

@[simp] theorem execNoTriggerExpiry_keeps (h : Fin 8) (i : Nat) (s : State) : Keeps s (execNoTriggerExpiry h i s) := by
  unfold execNoTriggerExpiry; split <;> simp

end

/-! ## Power stages (Machine/PowerStage) -/

section
variable (s : State)

@[simp] theorem State.dutyOff_boot (n : Nat) : (s.dutyOff n).boot = s.boot := by simp [State.dutyOff]
@[simp] theorem State.dutyWrite_boot (n a b c : Nat) : (s.dutyWrite n a b c).boot = s.boot := by simp [State.dutyWrite]
@[simp] theorem execPwmUpdatePoint_keeps (n : Fin 16) (s : State) : Keeps s (execPwmUpdatePoint n s) := by unfold execPwmUpdatePoint; split <;> simp

@[simp] theorem execGateDriverFault_keeps (n : Fin 16) (sw : Fin 6) (levels : BitVec 11) (time : Dword) (s : State) :
    Keeps s (execGateDriverFault n sw levels time s) := by unfold execGateDriverFault; (repeat' split) <;> simp

@[simp] theorem execBlankingExpiry_keeps (n : Fin 16) (sw : Fin 6) (time : Dword) (s : State) : Keeps s (execBlankingExpiry n sw time s) := by
  simp [execBlankingExpiry]

@[simp] theorem execOcComparatorTrip_keeps (n : Fin 16) (phase : Fin 3) (levels : BitVec 11) (time : Dword) (s : State) :
    Keeps s (execOcComparatorTrip n phase levels time s) := by simp [execOcComparatorTrip]

@[simp] theorem execFaultWindowExpiry_keeps (n : Fin 16) (s : State) : Keeps s (execFaultWindowExpiry n s) := by
  unfold execFaultWindowExpiry; split <;> simp

@[simp] theorem execAscTimeout_keeps (n : Fin 16) (s : State) : Keeps s (execAscTimeout n s) := by unfold execAscTimeout; split <;> simp
@[simp] theorem execIoLinkDown_keeps (d : Fin 2) (s : State) : Keeps s (execIoLinkDown d s) := by simp [execIoLinkDown]
@[simp] theorem execIoLinkWatchdogExpiry_keeps (d : Fin 2) (s : State) : Keeps s (execIoLinkWatchdogExpiry d s) := by simp [execIoLinkWatchdogExpiry]
@[simp] theorem pstageEnable_boot (n : Nat) : (pstageEnable s n).2.boot = s.boot := by simp -implicitDefEqProofs [pstageEnable]
@[simp] theorem pstageDisable_boot (n : Nat) : (pstageDisable s n).2.boot = s.boot := by simp [pstageDisable]
@[simp] theorem pstageStop_boot (n : Nat) : (pstageStop s n).2.boot = s.boot := by simp [pstageStop]
@[simp] theorem pstageReset_boot (n : Nat) : (pstageReset s n).2.boot = s.boot := by simp [pstageReset]

@[simp] theorem execTestPath_keeps (r : Requester) (n : Fin 16) (arg : BitVec 24) (s : State) : Keeps s (execTestPath r n arg s) := by
  simp [execTestPath]

@[simp] theorem State.testPathDone_boot (n failed : Nat) : (s.testPathDone n failed).boot = s.boot := by simp [State.testPathDone]
@[simp] theorem State.calibSample_boot (d : Nat) : (s.calibSample d).boot = s.boot := by unfold State.calibSample; (repeat' split) <;> simp

@[simp] theorem execAdcSample_keeps (d : Fin 2) (codes : List (BitVec 14)) (time : Dword) (s : State) :
    Keeps s (execAdcSample d codes time s) := by simp -implicitDefEqProofs [execAdcSample]

@[simp] theorem execCalibrate_keeps (r : Requester) (d : Fin 2) (arg : BitVec 24) (s : State) : Keeps s (execCalibrate r d arg s) := by
  simp [execCalibrate]

@[simp] theorem State.calibAbort_boot : s.calibAbort.boot = s.boot := foldl_boot (fun s e => by split <;> simp) _ _
@[simp] theorem State.calibBeat_boot : s.calibBeat.boot = s.boot := foldl_boot (fun s e => by split <;> simp) _ _
@[simp] theorem adcWrite_boot (d off : Nat) (v : Word) (s : State) : (adcWrite d off v s).1.boot = s.boot := by simp [adcWrite]

end

/-! ## Angle trackers (Machine/Angle) -/

section
variable (s : State)

@[simp] theorem State.setAngSync_boot (n v : Nat) : (s.setAngSync n v).boot = s.boot := by simp [State.setAngSync]
@[simp] theorem State.setFlagged_boot (n : Nat) (b : Bool) : (s.setFlagged n b).boot = s.boot := by simp [State.setFlagged]
@[simp] theorem State.angLog_boot (n e outcome count : Nat) (w1 : Word) : (s.angLog n e outcome count w1).boot = s.boot := by simp [State.angLog]
@[simp] theorem State.fireSlot_boot (n e outcome : Nat) : (s.fireSlot n e outcome).boot = s.boot := by simp [State.fireSlot]
@[simp] theorem State.cancelSlot_boot (n e : Nat) : (s.cancelSlot n e).boot = s.boot := by simp [State.cancelSlot]
@[simp] theorem State.cancelDeferred_boot (n : Nat) : (s.cancelDeferred n).boot = s.boot := by simp [State.cancelDeferred]
@[simp] theorem State.fireDeferred_boot (n : Nat) : (s.fireDeferred n).boot = s.boot := by simp [State.fireDeferred]

@[simp] theorem execAngleEventFire_keeps (n e : Fin 16) (s : State) : Keeps s (execAngleEventFire n e s) := by
  unfold execAngleEventFire; split <;> simp

@[simp] theorem execAngEventWrite_keeps (r : Requester) (n e : Fin 16) (ctl : Bool) (v : Word) (s : State) :
    Keeps s (execAngEventWrite r n e ctl v s) := by simp [execAngEventWrite]

@[simp] theorem State.lossOfSync_boot (n cause : Nat) : (s.lossOfSync n cause).boot = s.boot := by simp [State.lossOfSync]
@[simp] theorem State.corrected_boot (n : Nat) (corr : Int) : (s.corrected n corr).boot = s.boot := by simp [State.corrected]
@[simp] theorem State.takeTooth_boot (n i stamp : Nat) (forward : Bool) : (s.takeTooth n i stamp forward).boot = s.boot := by simp [State.takeTooth]
@[simp] theorem State.showPrediction_boot (n : Nat) : (s.showPrediction n).boot = s.boot := by simp [State.showPrediction]
@[simp] theorem State.realTooth_boot (n i stamp : Nat) (endsGap : Bool) : (s.realTooth n i stamp endsGap).boot = s.boot := by simp [State.realTooth]
@[simp] theorem State.syntheticTooth_boot (n : Nat) : (s.syntheticTooth n).boot = s.boot := by simp [State.syntheticTooth]

@[simp] theorem State.searchPulse_boot (n stamp : Nat) : (s.searchPulse n stamp).boot = s.boot := by
  unfold State.searchPulse; dsimp only; (repeat' split) <;> simp

@[simp] theorem State.windowPulse_boot (s : State) (n stamp k : Nat) : (s.windowPulse n stamp k).boot = s.boot := by
  induction k generalizing s with
  | zero => simp [State.windowPulse]
  | succ k ih => unfold State.windowPulse; simp [ih]

@[simp] theorem State.toothPulse_boot (n stamp : Nat) : (s.toothPulse n stamp).boot = s.boot := by
  simp only [State.toothPulse]; (repeat' split) <;> simp_all

@[simp] theorem State.setCount_boot (n : Nat) (c : Int) (stamp : Nat) : (s.setCount n c stamp).boot = s.boot := by simp [State.setCount]
@[simp] theorem State.stepCount_boot (n : Nat) (d : Int) (stamp : Nat) : (s.stepCount n d stamp).boot = s.boot := by simp [State.stepCount]
@[simp] theorem State.abEdge_boot (n stamp : Nat) (isA together : Bool) : (s.abEdge n stamp isA together).boot = s.boot := by simp [State.abEdge]
@[simp] theorem State.indexEdge_boot (n stamp : Nat) : (s.indexEdge n stamp).boot = s.boot := by simp [State.indexEdge]

@[simp] theorem execPulseInputEdge_keeps (n : Fin 16) (sig : PulseSignal) (rising : Bool) (time : Dword) (s : State) :
    Keeps s (execPulseInputEdge n sig rising time s) := by unfold execPulseInputEdge; dsimp only; (repeat' split) <;> simp

@[simp] theorem execSyntheticTooth_keeps (n : Fin 16) (s : State) : Keeps s (execSyntheticTooth n s) := by simp [execSyntheticTooth]
@[simp] theorem execTrackerHalt_keeps (n : Fin 16) (s : State) : Keeps s (execTrackerHalt n s) := by simp [execTrackerHalt]

@[simp] theorem State.jslSample_boot (n : Nat) (a : Int) (stamp : Nat) : (s.jslSample n a stamp).boot = s.boot := by
  unfold State.jslSample; dsimp only; (repeat' split) <;> simp

@[simp] theorem State.jslMiss_boot (n : Nat) : (s.jslMiss n).boot = s.boot := by simp [State.jslMiss]

@[simp] theorem State.trackerPulse_boot (n : Nat) (sample : Option (List Byte × Nat)) : (s.trackerPulse n sample).boot = s.boot := by
  unfold State.trackerPulse; (repeat' split) <;> simp

@[simp] theorem angleEnable_boot (n : Nat) : (angleEnable s n).2.boot = s.boot := by simp [angleEnable]
@[simp] theorem angleStop_boot (n : Nat) : (angleStop s n).2.boot = s.boot := by simp [angleStop]
@[simp] theorem angleDisable_boot (n : Nat) : (angleDisable s n).2.boot = s.boot := by simp [angleDisable]

end

/-! ## Joint serial links (Machine/Jsl) -/

section
variable (s : State)

@[simp] theorem execJslTransactionStart_keeps (p : Fin 8) (s : State) : Keeps s (execJslTransactionStart p s) := by simp [execJslTransactionStart]
@[simp] theorem State.jslSettle_boot (p : Nat) : (s.jslSettle p).boot = s.boot := by simp [State.jslSettle]
@[simp] theorem State.jslError_boot (p a err : Nat) : (s.jslError p a err).boot = s.boot := by simp -implicitDefEqProofs [State.jslError]
@[simp] theorem State.jslGood_boot (p a : Nat) (payload : List Byte) : (s.jslGood p a payload).boot = s.boot := by simp [State.jslGood]

@[simp] theorem execJslResponse_keeps (p : Fin 8) (a : Fin 4) (frame : List Byte) (stopOk : Bool) (s : State) :
    Keeps s (execJslResponse p a frame stopOk s) := by unfold execJslResponse; dsimp only; (repeat' split) <;> simp

@[simp] theorem execJslResponseTimeout_keeps (p : Fin 8) (a : Fin 4) (s : State) : Keeps s (execJslResponseTimeout p a s) := by
  simp [execJslResponseTimeout]

@[simp] theorem execAcyc_keeps (r : Requester) (p : Fin 8) (arg : BitVec 24) (s : State) : Keeps s (execAcyc r p arg s) := by simp [execAcyc]
@[simp] theorem State.jslPublish_boot : s.jslPublish.2.boot = s.boot := foldl_snd_boot (fun x k => by simp -implicitDefEqProofs) _ _
@[simp] theorem State.jslRefit_boot : s.jslRefit.boot = s.boot := by simp [State.jslRefit]

@[simp] theorem jslEnable_boot (k : Nat) : (jslEnable s k).2.boot = s.boot := by
  unfold jslEnable; dsimp only; (repeat' split) <;> simp -implicitDefEqProofs

@[simp] theorem jslQuiesce_boot (k : Nat) : (jslQuiesce s k).2.boot = s.boot := by simp [jslQuiesce]
@[simp] theorem jslStop_boot (k : Nat) : (jslStop s k).2.boot = s.boot := by simp [jslStop]

end

/-! ## The Loop Engine (Machine/LoopEngine) -/

section
variable (s : State)

@[simp] theorem State.leaveTorque_boot (n : Nat) (st : PageState) : (s.leaveTorque n st).boot = s.boot := by simp [State.leaveTorque]
@[simp] theorem State.loopFault_boot (n code detail : Nat) : (s.loopFault n code detail).boot = s.boot := by simp [State.loopFault]
@[simp] theorem State.enterLaw_boot (n v : Nat) : (s.enterLaw n v).boot = s.boot := by unfold State.enterLaw; (repeat' split) <;> simp
@[simp] theorem State.rideEnd_boot (n : Nat) : (s.rideEnd n).boot = s.boot := by simp [State.rideEnd]
@[simp] theorem execObsRideTimeout_keeps (n : Fin 16) (s : State) : Keeps s (execObsRideTimeout n s) := by simp [execObsRideTimeout]
@[simp] theorem State.flushGains_boot (n : Nat) : (s.flushGains n).boot = s.boot := by simp [State.flushGains]
@[simp] theorem loopGainWrite_boot (n off : Nat) (v : Word) (s : State) : (loopGainWrite n off v s).1.boot = s.boot := by simp [loopGainWrite]

@[simp] theorem execLoopGainWrite_keeps (r : Requester) (n : Fin 16) (k : Fin 30) (v : Word) (s : State) :
    Keeps s (execLoopGainWrite r n k v s) := by simp [execLoopGainWrite]

@[simp] theorem ostTableWrite_boot (n i : Nat) (v : Word) (s : State) : (ostTableWrite n i v s).1.boot = s.boot := by simp [ostTableWrite]

@[simp] theorem execOstTableWrite_keeps (r : Requester) (n : Fin 16) (i : Fin 512) (v : Word) (s : State) :
    Keeps s (execOstTableWrite r n i v s) := by simp [execOstTableWrite]

@[simp] theorem tgtCommit_boot (n : Nat) (v : Word) (s : State) : (tgtCommit n v s).1.boot = s.boot := by simp [tgtCommit]

@[simp] theorem execLoopTgtCommit_keeps (r : Requester) (n : Fin 16) (v : Word) (s : State) : Keeps s (execLoopTgtCommit r n v s) := by
  simp [execLoopTgtCommit]

@[simp] theorem State.latchWord_boot (n : Nat) : (s.latchWord n).1.boot = s.boot := by simp [State.latchWord]

@[simp] theorem State.enterRunning_boot (n : Nat) (enc : Option (Nat × Int × Int)) : (s.enterRunning n enc).boot = s.boot := by
  unfold State.enterRunning
  dsimp only
  rw [State.torqueTaken_boot, State.enterLaw_boot, State.modAxis_boot, foldl_boot (fun s k => by simp)]
  simp

@[simp] theorem State.lawStep_boot (n conf th : Nat) : (s.lawStep n conf th).boot = s.boot := by unfold State.lawStep; (repeat' split) <;> simp
@[simp] theorem State.setStale_boot (n : Nat) (b : Bool) : (s.setStale n b).boot = s.boot := by simp [State.setStale]

@[simp] theorem State.plannerStep_boot (n : Nat) (taken : Option (Int × Int)) : (s.plannerStep n taken).boot = s.boot := by
  unfold State.plannerStep; (repeat' split) <;> simp

@[simp] theorem State.analogStep_boot (s : State) (n : Nat) (k : Nat) : (s.analogStep n k).1.boot = s.boot := by
  revert k
  change Sat.Always (fun x => x.boot = s.boot) (s.analogStep n)
  refine Sat.always_ite_bind fun v => Sat.always_pure ?_
  simp

@[simp] theorem State.pulseStep_boot (n : Nat) (k : Nat) : (s.pulseStep n k).1.boot = s.boot := by unfold State.pulseStep; simp

@[simp] theorem State.sourceStep_boot (n : Nat) (taken : Option (Int × Int)) (k : Nat) : (s.sourceStep n taken k).1.boot = s.boot := by
  unfold State.sourceStep
  generalize s.lf n 0x040 1 0 = c
  match c with
  | 0 => simp
  | 1 => simp
  | c + 2 => simp

@[simp] theorem execSetpointTimeout_keeps (n : Fin 16) (s : State) : Keeps s (execSetpointTimeout n s) := by simp [execSetpointTimeout]

@[simp] theorem State.shaper_boot (n : Nat) (k : Nat) : (s.shaper n k).1.boot = s.boot := by
  unfold State.shaper
  simp -implicitDefEqProofs

@[simp] theorem State.motion_boot (n : Nat) (enc : Option (Nat × Int × Int)) (k : Nat) : (s.motion n enc k).1.1.boot = s.boot := by
  unfold State.motion
  dsimp only
  generalize s.law n = c
  split
  · simp
  · simp
  · simp
  · simp
  · cases enc <;> simp

@[simp] theorem State.captureStep_boot (n : Nat) : (s.captureStep n).boot = s.boot := by
  unfold State.captureStep; dsimp only; (repeat' split) <;> simp

@[simp] theorem State.setFlags_boot (n bits : Nat) : (s.setFlags n bits).boot = s.boot := by simp [State.setFlags]

@[simp] theorem State.endTorque_boot (s : State) (n : Nat) (e : LoopEnd) : (s.endTorque n e).boot = s.boot := by
  cases e <;> simp [State.endTorque]

@[simp] theorem State.countSats_boot (n k : Nat) : (s.countSats n k).boot = s.boot := by simp [State.countSats]

@[simp] theorem State.loopDrive_boot (n th : Nat) (dq emf : Int × Int) (conf : Nat) (m : Motion) (fin : Option LoopEnd) (k : Nat) :
    (s.loopDrive n th dq emf conf m fin k).1.1.boot = s.boot := by
  revert k
  change Sat.Always (fun x => x.1.boot = s.boot) (s.loopDrive n th dq emf conf m fin)
  refine Sat.always_bind fun limit => Sat.always_bind ?_
  rintro ⟨sig, inj⟩
  refine Sat.always_bind fun src0 => Sat.always_ite_bind fun t => Sat.always_bind ?_
  rintro ⟨xs, ds⟩
  refine Sat.always_bind fun v => Sat.always_ite_bind fun ud => Sat.always_ite_bind fun uq => Sat.always_bind ?_
  rintro ⟨md, limited⟩
  refine Sat.always_bind ?_
  rintro ⟨ab, duty⟩
  refine Sat.always_bind fun excess => Sat.always_pure ?_
  simp only [↓State.setRegN_boot, ↓State.setReg64_boot]
  rw [foldl_boot (fun s k => by simp)]
  cases fin <;> simp only [↓State.endTorque_boot, ↓State.dutyWrite_boot, ↓State.setAxis_boot, ↓boot_ite, ↓State.setRegN_boot, ite_self]

@[simp] theorem State.loopCompute_boot (n : Nat) (enc : Option (Nat × Int × Int)) (taken : Option (Int × Int)) (fin : Option LoopEnd) (k : Nat) :
    (s.loopCompute n enc taken fin k).1.1.boot = s.boot := by
  revert k
  change Sat.Always (fun x => x.1.boot = s.boot) (s.loopCompute n enc taken fin)
  refine Sat.always_bind fun iab => Sat.always_bind fun dq => Sat.always_bind ?_
  rintro ⟨a, conf⟩
  refine Sat.always_bind fun emf => ?_
  refine Sat.always_bind_of (Q := fun x => x.boot = s.boot) (fun k => by simp) fun sx hsx => ?_
  refine Sat.always_bind_of (Q := fun x => x.boot = s.boot) (fun k => by simp [hsx]) fun s3 h3 => ?_
  refine Sat.always_bind_of (Q := fun x => x.1.boot = s.boot) (fun k => by simp [h3]) fun y hy => ?_
  refine Sat.always_bind fun err k => ?_
  simp [hy]

@[simp] theorem State.loopFinish_boot (n sats bits : Nat) : (s.loopFinish n sats bits).boot = s.boot := by simp [State.loopFinish]

@[simp] theorem State.loopRun_boot (n : Nat) (enc : Option (Nat × Int × Int)) (taken : Option (Int × Int)) (fin : Option LoopEnd) (sats : Nat) :
    (s.loopRun n enc taken fin sats).boot = s.boot := by simp [State.loopRun]

@[simp] theorem State.loopPulse_boot (n : Nat) : (s.loopPulse n).boot = s.boot := by unfold State.loopPulse; dsimp only; (repeat' split) <;> simp
@[simp] theorem execCaptureDone_keeps (n : Fin 16) (s : State) : Keeps s (execCaptureDone n s) := by unfold execCaptureDone; split <;> simp

@[simp] theorem loopEnable_boot (n : Nat) : (loopEnable s n).2.boot = s.boot := by
  unfold loopEnable; dsimp only; (repeat' split) <;> simp -implicitDefEqProofs

@[simp] theorem loopDisable_boot (n : Nat) : (loopDisable s n).2.boot = s.boot := by simp [loopDisable]
@[simp] theorem loopQuiesce_boot (n : Nat) : (loopQuiesce s n).2.boot = s.boot := by simp [loopQuiesce]
@[simp] theorem loopStop_boot (n : Nat) : (loopStop s n).2.boot = s.boot := by unfold loopStop; (repeat' split) <;> simp
@[simp] theorem loopReset_boot (n : Nat) : (loopReset s n).2.boot = s.boot := by simp [loopReset]

@[simp] theorem execCapture_keeps (r : Requester) (n : Fin 16) (arg : BitVec 24) (s : State) : Keeps s (execCapture r n arg s) := by
  simp [execCapture]

@[simp] theorem execCapStop_keeps (r : Requester) (n : Fin 16) (arg : BitVec 24) (s : State) : Keeps s (execCapStop r n arg s) := by
  simp [execCapStop]

@[simp] theorem execOstClear_keeps (r : Requester) (n : Fin 16) (arg : BitVec 24) (s : State) : Keeps s (execOstClear r n arg s) := by
  simp [execOstClear]

end

/-! ## The Rubric (Machine/Rubric) -/

section
variable (s : State)

@[simp] theorem State.setRuleBits_boot (i : Nat) (active latched : Bool) : (s.setRuleBits i active latched).boot = s.boot := by
  simp [State.setRuleBits]

@[simp] theorem State.evalRule_boot (img : Image) (fast : Bool) (i : Nat) : (s.evalRule img fast i).boot = s.boot := by simp [State.evalRule]
@[simp] theorem State.lookSources_boot (img : Image) (fast : Bool) : (s.lookSources img fast).boot = s.boot := by simp [State.lookSources]
@[simp] theorem State.evalPass_boot (img : Image) (fast : Bool) : (s.evalPass img fast).boot = s.boot := by simp [State.evalPass]
@[simp] theorem State.rubricInForce_boot (img : Image) : (s.rubricInForce img).boot = s.boot := by simp [State.rubricInForce]

end

/-! ## The Proctor (Machine/Proctor) -/

section
variable (s : State)

@[simp] theorem State.setVerdict_boot (a v : Nat) : (s.setVerdict a v).boot = s.boot := by simp [State.setVerdict]
@[simp] theorem State.setOut_boot (i : Nat) (b : Bool) : (s.setOut i b).boot = s.boot := by simp [State.setOut]
@[simp] theorem State.setStoB_boot (b : Bool) : (s.setStoB b).boot = s.boot := by simp [State.setStoB]
@[simp] theorem State.dropSto_boot : s.dropSto.boot = s.boot := by simp [State.dropSto]
@[simp] theorem State.stoCheck_boot (beat : Bool) : (s.stoCheck beat).boot = s.boot := by simp [State.stoCheck]
@[simp] theorem State.brakes_boot : s.brakes.boot = s.boot := by simp [State.brakes]

@[simp] theorem State.startMon_boot (img : Image) (a : Nat) (j : Judged) : (s.startMon img a j).boot = s.boot := by
  unfold State.startMon; (repeat' split) <;> simp

@[simp] theorem State.judge_boot (beat : Bool) : (s.judge beat).boot = s.boot := by
  unfold State.judge
  split
  · rfl
  extract_lets js changed loud up words s1 s2 s3 s4
  have h1 : s1.boot = s.boot := foldl_boot (fun s a => by split <;> simp -implicitDefEqProofs) _ _
  have h2 : s2.boot = s.boot := by
    simp only [s2]
    split
    · rw [foldl_boot (fun s a => by split <;> simp -implicitDefEqProofs), h1]
    · simp -implicitDefEqProofs [h1]
  simp -implicitDefEqProofs [s4, s3, h2]

@[simp] theorem State.latchV_boot (v axes : Nat) (c : LatchCause) : (s.latchV v axes c).boot = s.boot := by simp [State.latchV]
@[simp] theorem State.fatal_boot (cls unit : Nat) : (s.fatal cls unit).boot = s.boot := by simp [State.fatal]
@[simp] theorem State.haltProctor_boot : s.haltProctor.boot = s.boot := by simp [State.haltProctor]
@[simp] theorem execLockstepMismatch_keeps (s : State) : Keeps s (execLockstepMismatch s) := by simp [execLockstepMismatch]
@[simp] theorem execProctorSramUe_keeps (s : State) : Keeps s (execProctorSramUe s) := by simp [execProctorSramUe]
@[simp] theorem State.proctorLost_boot : s.proctorLost.boot = s.boot := by simp [State.proctorLost]
@[simp] theorem execProctorHang_keeps (s : State) : Keeps s (execProctorHang s) := by simp [execProctorHang]
@[simp] theorem State.receive_boot (n : Note) : (s.receive n).boot = s.boot := by simp [State.receive]
@[simp] theorem execProctorEvent_keeps (s : State) : Keeps s (execProctorEvent s) := by unfold execProctorEvent; split <;> simp
@[simp] theorem State.drainNotes_boot : s.drainNotes.boot = s.boot := by simp [State.drainNotes]
@[simp] theorem State.takeDefaults_boot : s.takeDefaults.boot = s.boot := by simp [State.takeDefaults]
@[simp] theorem State.resetEvent_boot (taken : List Latch) : (s.resetEvent taken).boot = s.boot := by simp [State.resetEvent]
@[simp] theorem State.endRubric_boot : s.endRubric.boot = s.boot := by simp [State.endRubric]
@[simp] theorem State.crcFault_boot (p : PageRef) : (s.crcFault p).boot = s.boot := by simp [State.crcFault]
@[simp] theorem State.crcCheck_boot (p : PageRef) : (s.crcCheck p).boot = s.boot := by simp [State.crcCheck]
@[simp] theorem State.lineCheck_boot : s.lineCheck.boot = s.boot := by unfold State.lineCheck; (repeat' split) <;> simp
@[simp] theorem State.monitorBeat_boot (img : Image) : (s.monitorBeat img).boot = s.boot := foldl_boot (fun s a => by (repeat' split) <;> simp) _ _

@[simp] theorem State.startReaction_boot : s.startReaction.boot = s.boot := by
  unfold State.startReaction
  dsimp only
  split
  · rfl
  split
  · simp -implicitDefEqProofs
  split
  · rw [foldl_boot (fun s e => by split <;> simp)]; simp
  · simp

@[simp] theorem State.sendStatus_boot (img : Image) (crc : Nat) : (s.sendStatus img crc).boot = s.boot := by simp [State.sendStatus]
@[simp] theorem State.beatStatus_boot : s.beatStatus.boot = s.boot := by unfold State.beatStatus; (repeat' split) <;> simp

@[simp] theorem State.proctorBeat_boot : s.proctorBeat.boot = s.boot := by
  unfold State.proctorBeat
  split
  · rfl
  extract_lets s1 s2 s3 s4 took s5 cans s6 s7 breaks s8 s9
  have h1 : s1.boot = s.boot := by simp -implicitDefEqProofs [s1]
  split
  · exact h1
  have h2 : s2.boot = s.boot := by simp only [s2]; split <;> simp [h1]
  have h4 : s4.boot = s.boot := by simp only [s4]; split <;> simp [s3, h2]
  have h7 : s7.boot = s.boot := by simp [s7, s6, s5, h4]
  have h8 : s8.boot = s.boot := by simp [s8, h7]
  simp [s9, h8]

@[simp] theorem State.proctorPulse_boot (beat : Bool) : (s.proctorPulse beat).boot = s.boot := by
  unfold State.proctorPulse; dsimp only; (repeat' split) <;> simp

@[simp] theorem execLimitWord_keeps (n : Fin 16) (errors : BitVec 41) (s : State) : Keeps s (execLimitWord n errors s) := by
  simp -implicitDefEqProofs [execLimitWord]

@[simp] theorem execHostRequestRelease_keeps (r : Requester) (arg : BitVec 24) (s : State) : Keeps s (execHostRequestRelease r arg s) := by
  simp [execHostRequestRelease]

@[simp] theorem procStop_boot : (procStop s).2.boot = s.boot := by simp [procStop]
@[simp] theorem procQuiesce_boot : (procQuiesce s).2.boot = s.boot := by simp [procQuiesce]
@[simp] theorem rubricEnable_boot : (rubricEnable s).2.boot = s.boot := by simp [rubricEnable]

-- The checks of the Rubric stay variables here, or the kernel would run them: `id` keeps `revert` and `intro` from cancelling.
@[simp] theorem State.rubricEnableDone_boot : s.rubricEnableDone.boot = s.boot := by
  unfold State.rubricEnableDone
  generalize State.rubricFails = fails
  generalize State.crcMatches = ok
  revert fails ok
  refine id ?_
  intro fails ok
  split
  · rfl
  · dsimp only
    (repeat' split) <;> simp

@[simp] theorem State.rubricGone_boot : s.rubricGone.boot = s.boot := by simp [State.rubricGone]
@[simp] theorem rubricStop_boot : (rubricStop s).2.boot = s.boot := by simp [rubricStop]

end

/-! ## Safety outputs and inputs, Hall Monitor (Machine/SafetyIo) -/

section
variable (s : State)

@[simp] theorem State.hmFault_boot (cause : Nat) : (s.hmFault cause).boot = s.boot := by simp [State.hmFault]
@[simp] theorem execHmChallenge_keeps (cycles : BitVec 32) (s : State) : Keeps s (execHmChallenge cycles s) := by simp [execHmChallenge]
@[simp] theorem execHmAnswer_keeps (errors : BitVec 24) (ns : BitVec 20) (s : State) : Keeps s (execHmAnswer errors ns s) := by simp [execHmAnswer]
@[simp] theorem execHmAnswerWindowExpiry_keeps (s : State) : Keeps s (execHmAnswerWindowExpiry s) := by simp [execHmAnswerWindowExpiry]
@[simp] theorem execHmSupplyFault_keeps (s : State) : Keeps s (execHmSupplyFault s) := by simp [execHmSupplyFault]
@[simp] theorem State.outFault_boot (cause k : Nat) : (s.outFault cause k).boot = s.boot := by simp [State.outFault]
@[simp] theorem execStoTestPulse_keeps (b seen : Bool) (s : State) : Keeps s (execStoTestPulse b seen s) := by simp [execStoTestPulse]
@[simp] theorem execStoFeedbackCheck_keeps (b fb : Bool) (s : State) : Keeps s (execStoFeedbackCheck b fb s) := by simp [execStoFeedbackCheck]

@[simp] theorem execBrakeFeedbackTimeout_keeps (k : Fin 2) (fb : Bool) (s : State) : Keeps s (execBrakeFeedbackTimeout k fb s) := by
  simp [execBrakeFeedbackTimeout]

@[simp] theorem State.setPairState_boot (k v : Nat) : (s.setPairState k v).boot = s.boot := by simp [State.setPairState]
@[simp] theorem State.settlePair_boot (k t : Nat) : (s.settlePair k t).boot = s.boot := by simp [State.settlePair]
@[simp] theorem State.pairDemand_boot (k t : Nat) : (s.pairDemand k t).boot = s.boot := by simp [State.pairDemand]
@[simp] theorem State.pairFault_boot (k cause : Nat) : (s.pairFault k cause).boot = s.boot := by simp [State.pairFault]
@[simp] theorem State.pairRun_boot (k t : Nat) : (s.pairRun k t).boot = s.boot := by simp [State.pairRun]

@[simp] theorem execSafeInEdge_keeps (k : Fin 8) (chB high : Bool) (time : Dword) (s : State) : Keeps s (execSafeInEdge k chB high time s) := by
  simp [execSafeInEdge]

@[simp] theorem execSafeInFilterExpiry_keeps (k : Fin 8) (time : Dword) (s : State) : Keeps s (execSafeInFilterExpiry k time s) := by
  simp [execSafeInFilterExpiry]

@[simp] theorem execDiscrepancyExpiry_keeps (k : Fin 8) (time : Dword) (s : State) : Keeps s (execDiscrepancyExpiry k time s) := by
  simp [execDiscrepancyExpiry]

@[simp] theorem execTpTestPulse_keeps (tp1 : Bool) (during after : BitVec 16) (time : Dword) (s : State) :
    Keeps s (execTpTestPulse tp1 during after time s) := by simp [execTpTestPulse]

@[simp] theorem execOssdIntervalExpiry_keeps (k : Fin 8) (chB : Bool) (s : State) : Keeps s (execOssdIntervalExpiry k chB s) := by
  simp [execOssdIntervalExpiry]

@[simp] theorem State.parkPairs_boot : s.parkPairs.boot = s.boot := by simp [State.parkPairs]
@[simp] theorem State.startPairs_boot : s.startPairs.boot = s.boot := by simp [State.startPairs]
@[simp] theorem safeioEnable_boot : (safeioEnable s).2.boot = s.boot := by unfold safeioEnable; (repeat' split) <;> simp
@[simp] theorem safeioStop_boot : (safeioStop s).2.boot = s.boot := by simp [safeioStop]
@[simp] theorem safeioDisable_boot : (safeioDisable s).2.boot = s.boot := by simp [safeioDisable]
@[simp] theorem safeioReset_boot : (safeioReset s).2.boot = s.boot := by simp [safeioReset]
@[simp] theorem safeioWrite_boot (off : Nat) (v : Word) (s : State) : (safeioWrite off v s).1.boot = s.boot := by simp [safeioWrite]
@[simp] theorem execRefClockLoss_keeps (s : State) : Keeps s (execRefClockLoss s) := by simp [execRefClockLoss]
@[simp] theorem execBeatTimingFault_keeps (s : State) : Keeps s (execBeatTimingFault s) := by simp [execBeatTimingFault]

@[simp] theorem execSupplyMonitorFault_keeps (vddSafe : Bool) (s : State) : Keeps s (execSupplyMonitorFault vddSafe s) := by
  simp [execSupplyMonitorFault]

end

/-! ## CAN_S (Machine/CanS) -/

section
variable (s : State)

@[simp] theorem State.setCans_boot (v : Nat) : (s.setCans v).boot = s.boot := by simp [State.setCans]
@[simp] theorem State.cansDiscard_boot : s.cansDiscard.boot = s.boot := by simp [State.cansDiscard]
@[simp] theorem State.acceptCommand_boot (f : List Byte) : (s.acceptCommand f).boot = s.boot := by simp [State.acceptCommand]

@[simp] theorem execCansCommand_keeps (id : BitVec 11) (frame : List Byte) (s : State) : Keeps s (execCansCommand id frame s) := by
  unfold execCansCommand; split <;> simp

@[simp] theorem execCansTimeout_keeps (s : State) : Keeps s (execCansTimeout s) := by simp [execCansTimeout]

@[simp] theorem execCansStatusTimer_keeps (time : Dword) (s : State) : Keeps s (execCansStatusTimer time s) := by
  unfold execCansStatusTimer; dsimp only; split <;> simp

@[simp] theorem State.setSeat_boot (v : Nat) : (s.setSeat v).boot = s.boot := by simp [State.setSeat]
@[simp] theorem State.judgeSeat_boot (body : List Byte) : (s.judgeSeat body).boot = s.boot := by unfold State.judgeSeat; (repeat' split) <;> simp

@[simp] theorem execBodyPdu_keeps (id : BitVec 11) (frame : List Byte) (s : State) : Keeps s (execBodyPdu id frame s) := by
  unfold execBodyPdu; dsimp only; (repeat' split) <;> simp -implicitDefEqProofs

@[simp] theorem execNoBodyTimeout_keeps (s : State) : Keeps s (execNoBodyTimeout s) := by simp [execNoBodyTimeout]

end

/-! ## Boot, images and identity (Machine/Boot) -/

section
variable (s : State)

@[simp] theorem State.flashWrite_fuses (a : Nat) (bs : List Byte) : (s.flashWrite a bs).boot.fuses = s.boot.fuses := rfl
@[simp] theorem State.flashErase_fuses (a n : Nat) : (s.flashErase a n).boot.fuses = s.boot.fuses := rfl

@[simp] theorem State.writeBcr_fuses (r : Bcr) (ok : Bool) : (s.writeBcr r ok).boot.fuses = s.boot.fuses := by
  unfold State.writeBcr; (repeat' split) <;> simp -implicitDefEqProofs

@[simp] theorem State.showBcr_boot : s.showBcr.boot = s.boot := by simp [State.showBcr]
@[simp] theorem State.showFuses_boot : s.showFuses.boot = s.boot := by simp [State.showFuses]

@[simp] theorem State.setBytes_boot (p : PageRef) (off : Nat) (bs : List Byte) : (s.setBytes p off bs).boot = s.boot := by
  simp -implicitDefEqProofs [State.setBytes]

@[simp] theorem State.loadSram_boot (a : Nat) (bs : List Byte) : (s.loadSram a bs).boot = s.boot := by simp [State.loadSram]
@[simp] theorem State.loadConductor_boot (slot : Nat) : (s.loadConductor slot).boot = s.boot := by simp [State.loadConductor]
@[simp] theorem State.showSeat_boot : s.showSeat.boot = s.boot := by unfold State.showSeat; dsimp only; (repeat' split) <;> simp
@[simp] theorem State.powerOn_fuses (cause : Nat) : (s.powerOn cause).boot.fuses = s.boot.fuses := rfl

@[simp] theorem execPorstNAssert_keeps (ns : Word) (s : State) : Keeps s (execPorstNAssert ns s) := by
  unfold execPorstNAssert; (repeat' split) <;> simp -implicitDefEqProofs

@[simp] theorem State.bootBist_boot (failed : BitVec 256) : (s.bootBist failed).boot = s.boot := by simp -implicitDefEqProofs [State.bootBist]

/-- The boot unit of one state is that of another. A relation of its own, so that the kernel compares the states first and does not
run the checks of the Rubric. -/
def SameBoot (s t : State) : Prop := t.boot = s.boot

/-- An operation that leaves the boot unit alone, said of the operation as a whole. -/
def KeepsBoot (f : State → State) : Prop := ∀ s, SameBoot s (f s)

theorem keepsBoot_intro {f : State → State} (h : ∀ s, SameBoot s (f s)) : KeepsBoot f := h

theorem keepsBoot_bootRubric : KeepsBoot State.bootRubric := by
  delta State.bootRubric
  refine keepsBoot_intro fun s => ?_
  extract_lets img store s1
  have h1 : s1.boot = s.boot := by
    refine (State.modPage_boot _ _ _).trans (foldl_boot (fun s e => ?_) _ _)
    simp only [store]
    split <;> simp
  clear_value s1
  (repeat' split) <;> simp [SameBoot, h1]

@[simp] theorem State.bootRubric_boot : s.bootRubric.boot = s.boot := keepsBoot_bootRubric s

@[simp] theorem State.bootIdentity_fuses : s.bootIdentity.boot.fuses = s.boot.fuses := by simp [State.bootIdentity]
@[simp] theorem State.endBoot_boot (level : Nat) : (s.endBoot level).boot = s.boot := by simp [State.endBoot]
@[simp] theorem State.showImages_fuses (slot : Nat) : (s.showImages slot).boot.fuses = s.boot.fuses := by simp [State.showImages]

@[simp] theorem State.bootPair_fuses (slot outcome : Nat) (failed : BitVec 256) : (s.bootPair slot outcome failed).boot.fuses = s.boot.fuses := by
  unfold State.bootPair; dsimp only; (repeat' split) <;> simp -implicitDefEqProofs

@[simp] theorem State.bootRecovery_boot : s.bootRecovery.boot = s.boot := by simp [State.bootRecovery]

@[simp] theorem execBootStart_keeps (failed : BitVec 256) (readFail : BitVec 4) (recFail : Bool) (time : Dword) (s : State) :
    Keeps s (execBootStart failed readFail recFail time s) := by unfold execBootStart; dsimp only; (repeat' split) <;> simp -implicitDefEqProofs

@[simp] theorem cmdDone_boot (p : PageRef) (s : State) : (cmdDone p s).2.boot = s.boot := by simp [cmdDone]

theorem State.imageCmd_keeps {β : Type} (g : BootUnit → β) (r : Requester) (p : PageRef) (code : Nat) (arg : BitVec 24)
    {body : State → Ans × State} (h : ∀ s, g (body s).2.boot = g s.boot) : g (s.imageCmd r p code arg body).boot = g s.boot :=
  s.pageCmd_keeps g r p code arg _ fun s _ => by split <;> simp [h]

@[simp] theorem State.imageCmd_boot (r : Requester) (p : PageRef) (code : Nat) (arg : BitVec 24) (body : State → Ans × State)
    (h : ∀ s, (body s).2.boot = s.boot) : (s.imageCmd r p code arg body).boot = s.boot := s.imageCmd_keeps id r p code arg h

theorem keeps_imageCmd (r : Requester) (p : PageRef) (code : Nat) (arg : BitVec 24) {body : State → Ans × State}
    (h : ∀ s, (body s).2.boot.fuses.values = s.boot.fuses.values) : Keeps s (done (s.imageCmd r p code arg body)) :=
  (keeps_done _ _).mpr (s.imageCmd_keeps (fun b => b.fuses.values) r p code arg h)

@[simp] theorem State.takeJob_fuses : s.takeJob.boot.fuses = s.boot.fuses := rfl

@[simp] theorem execFlashErase_keeps (r : Requester) (arg : BitVec 24) (s : State) : Keeps s (execFlashErase r arg s) := by
  refine keeps_imageCmd _ _ _ _ _ fun s => ?_
  (repeat' split) <;> simp

@[simp] theorem execFlashWrite_keeps (r : Requester) (arg : BitVec 24) (s : State) : Keeps s (execFlashWrite r arg s) := by
  refine keeps_imageCmd _ _ _ _ _ fun s => ?_
  (repeat' split) <;> simp

@[simp] theorem execVerifySlot_keeps (r : Requester) (arg : BitVec 24) (s : State) : Keeps s (execVerifySlot r arg s) := by simp [execVerifySlot]

@[simp] theorem execSetPreferred_keeps (r : Requester) (arg : BitVec 24) (s : State) : Keeps s (execSetPreferred r arg s) :=
  keeps_imageCmd _ _ _ _ _ fun _ => rfl

@[simp] theorem execConfirm_keeps (r : Requester) (arg : BitVec 24) (s : State) : Keeps s (execConfirm r arg s) := by simp [execConfirm]
@[simp] theorem execDeviceReset_keeps (r : Requester) (arg : BitVec 24) (s : State) : Keeps s (execDeviceReset r arg s) := by simp [execDeviceReset]
@[simp] theorem State.finishDone_boot (p : PageRef) : (s.finishDone p).boot = s.boot := by simp [State.finishDone]

@[simp] theorem State.flashUnits_fuses (c : PendCmd) (n : Nat) : (s.flashUnits c n).boot.fuses = s.boot.fuses := by
  unfold State.flashUnits; dsimp only; (repeat' split) <;> simp -implicitDefEqProofs

@[simp] theorem State.imageComplete_fuses (detail : Nat) : (s.imageComplete detail).boot.fuses = s.boot.fuses := by
  unfold State.imageComplete; dsimp only; (repeat' split) <;> simp -implicitDefEqProofs

@[simp] theorem imageStop_fuses (old : Option PendCmd) (s : State) : (imageStop old s).2.boot.fuses = s.boot.fuses := by
  unfold imageStop; dsimp only; (repeat' split) <;> simp -implicitDefEqProofs

@[simp] theorem execQuote_keeps (r : Requester) (arg : BitVec 24) (s : State) : Keeps s (execQuote r arg s) := by simp [execQuote]

@[simp] theorem execSeatAccept_keeps (r : Requester) (arg : BitVec 24) (s : State) : Keeps s (execSeatAccept r arg s) := by
  refine keeps_imageCmd _ _ _ _ _ fun s => ?_
  dsimp only
  (repeat' split) <;> simp

@[simp] theorem execFleetEnrol_keeps (r : Requester) (arg : BitVec 24) (s : State) : Keeps s (execFleetEnrol r arg s) := by
  refine keeps_imageCmd _ _ _ _ _ fun s => ?_
  dsimp only
  (repeat' split) <;> simp [cmdDone, Fuses.values]

@[simp] theorem State.writeSeat_fuses : s.writeSeat.boot.fuses = s.boot.fuses := rfl

@[simp] theorem State.identComplete_fuses (detail : Nat) : (s.identComplete detail).boot.fuses = s.boot.fuses := by
  unfold State.identComplete
  (repeat' split) <;> simp -implicitDefEqProofs

@[simp] theorem identStop_fuses (old : Option PendCmd) (s : State) : (identStop old s).2.boot.fuses = s.boot.fuses := by
  unfold identStop; (repeat' split) <;> simp -implicitDefEqProofs

end

/-! ## SRAM and the Locker (Machine/Memory) -/

section
variable (s : State)

@[simp] theorem State.recordClash_boot (t off cls : Nat) : (s.recordClash t off cls).boot = s.boot := by simp -implicitDefEqProofs [State.recordClash]

@[simp] theorem State.afterRead_boot (mode t : Nat) (slots : List Nat) : (s.afterRead mode t slots).boot = s.boot := by
  simp -implicitDefEqProofs [State.afterRead]

@[simp] theorem State.afterWrite_boot (mode t : Nat) (halves : List Nat) : (s.afterWrite mode t halves).boot = s.boot := by
  simp -implicitDefEqProofs [State.afterWrite]

@[simp] theorem State.sramViolation_boot (src h a : Nat) : (s.sramViolation src h a).boot = s.boot := by simp [State.sramViolation]
@[simp] theorem State.flitDone_boot (src a : Nat) (write : Bool) : (s.flitDone src a write).boot = s.boot := by simp [State.flitDone]
@[simp] theorem State.readBy_boot (src h a n : Nat) : (s.readBy src h a n).2.boot = s.boot := by unfold State.readBy; (repeat' split) <;> simp

@[simp] theorem State.writeBy_boot (src h a : Nat) (bs : List Byte) (poisoned : Bool) : (s.writeBy src h a bs poisoned).2.boot = s.boot := by
  unfold State.writeBy; dsimp only; (repeat' split) <;> simp

@[simp] theorem State.streamRead_boot (r : Requester) (h a n : Nat) : (s.streamRead r h a n).2.boot = s.boot := by simp [State.streamRead]

@[simp] theorem State.streamWrite_boot (r : Requester) (h a : Nat) (bs : List Byte) (poisoned : Bool) :
    (s.streamWrite r h a bs poisoned).2.boot = s.boot := by simp [State.streamWrite]

@[simp] theorem State.engineLoad_boot (h a n : Nat) : (s.engineLoad h a n).2.2.boot = s.boot := by
  simp only [State.engineLoad]; (repeat' split) <;> simp_all

@[simp] theorem execScrubRead_keeps (addr : Word) (ecc : Ecc) (s : State) : Keeps s (execScrubRead addr ecc s) := by
  unfold execScrubRead; dsimp only; split <;> simp

@[simp] theorem execLockerLinkDown_keeps (flit : LinkFlit) (s : State) : Keeps s (execLockerLinkDown flit s) := by simp [execLockerLinkDown]

@[simp] theorem execCorridorParityFail_keeps (flit : CorridorFlit) (s : State) : Keeps s (execCorridorParityFail flit s) := by
  simp [execCorridorParityFail]

@[simp] theorem execSetTags_keeps (r : Requester) (t : Fin 32) (arg : BitVec 24) (s : State) : Keeps s (execSetTags r t arg s) := by
  simp -implicitDefEqProofs [execSetTags]

@[simp] theorem execInject_keeps (r : Requester) (k : Fin 4) (arg : BitVec 24) (s : State) : Keeps s (execInject r k arg s) := by simp [execInject]

@[simp] theorem execTileBankmapWrite_keeps (r : Requester) (t : Fin 32) (v : Word) (s : State) : Keeps s (execTileBankmapWrite r t v s) := by
  simp [execTileBankmapWrite]

end

/-! ## DMA (Machine/Dma) -/

section
variable (s : State)

@[simp] theorem State.afterSide_boot (write : Bool) (mode a : Nat) : (s.afterSide write mode a).boot = s.boot := by
  unfold State.afterSide; (repeat' split) <;> simp

@[simp] theorem State.dmaMove_boot (c : Fin 8) (h : Nat) (j : DmaJob) : (s.dmaMove c h j).2.2.boot = s.boot := by
  unfold State.dmaMove
  extract_lets per row col a b hostRow reach got bad s1 reachB wr s2
  have hg : got.2.boot = s.boot := by
    simp only [got]
    generalize hostRow = o
    rcases o with _ | _ | _ <;> simp
  have h1 : s1.boot = s.boot := by simp [s1, hg]
  have hw : wr.2.boot = s.boot := by simp [wr, h1]
  have h2 : s2.boot = s.boot := by simp [s2, hw]
  (repeat' split) <;> simp [hg, hw, h2]

@[simp] theorem State.dmaRun_boot (s : State) (c : Fin 8) (h : Nat) (j : DmaJob) (k : Nat) : (s.dmaRun c h j k).2.2.boot = s.boot := by
  induction k generalizing s j with
  | zero => rfl
  | succ k ih =>
    have hm := s.dmaMove_boot c h j
    unfold State.dmaRun
    split
    · next e => rw [e] at hm; rw [ih]; exact hm
    · exact hm

@[simp] theorem State.dmaChunks_boot (s : State) (c : Fin 8) (h : Nat) (j : DmaJob) (l : List Nat) : (s.dmaChunks c h j l).2.2.boot = s.boot := by
  induction l generalizing s j with
  | nil => rfl
  | cons ns l ih => unfold State.dmaChunks; simp [ih]

@[simp] theorem State.dmaSettle_boot (c : Nat) : (s.dmaSettle c).boot = s.boot := by simp [State.dmaSettle]

@[simp] theorem State.dmaFinish_boot (c : Fin 8) (h status : Nat) : (s.dmaFinish c h status).boot = s.boot := by
  unfold State.dmaFinish; (repeat' split) <;> simp

@[simp] theorem State.dmaAdvance_boot (c : Fin 8) (ns : List Nat) : (s.dmaAdvance c ns).boot = s.boot := by
  simp only [State.dmaAdvance]; (repeat' split) <;> simp_all

@[simp] theorem execDmaTailWrite_keeps (r : Requester) (c : Fin 8) (v : Word) (s : State) : Keeps s (execDmaTailWrite r c v s) := by
  simp -implicitDefEqProofs [execDmaTailWrite]

@[simp] theorem execDmaDescriptorStart_keeps (c : Fin 8) (s : State) : Keeps s (execDmaDescriptorStart c s) := by simp [execDmaDescriptorStart]

@[simp] theorem execDmaDescriptorEnd_keeps (c : Fin 8) (ns : List Nat) (s : State) : Keeps s (execDmaDescriptorEnd c ns s) := by
  simp [execDmaDescriptorEnd]

@[simp] theorem execDmaTagTimeout_keeps (c : Fin 8) (s : State) : Keeps s (execDmaTagTimeout c s) := by unfold execDmaTagTimeout; split <;> simp
@[simp] theorem dmaEnable_boot (c : Nat) : (dmaEnable s c).2.boot = s.boot := by unfold dmaEnable; dsimp only; (repeat' split) <;> simp
@[simp] theorem dmaDisable_boot (c : Nat) : (dmaDisable s c).2.boot = s.boot := by simp [dmaDisable]
@[simp] theorem dmaQuiesce_boot (c : Nat) : (dmaQuiesce s c).2.boot = s.boot := by simp [dmaQuiesce]
@[simp] theorem dmaStopCmd_boot (c : Nat) : (dmaStopCmd s c).2.boot = s.boot := by simp [dmaStopCmd]
@[simp] theorem dmaReset_boot (c : Nat) : (dmaReset s c).2.boot = s.boot := by simp [dmaReset]

end

/-! ## Tiles (Machine/Tile) -/

section
variable (s : State)

@[simp] theorem State.illegal_boot (t : Nat) : (s.illegal t).boot = s.boot := by simp [State.illegal]
@[simp] theorem State.countChoice_boot (t : Nat) : (s.countChoice t).boot = s.boot := by simp [State.countChoice]
@[simp] theorem State.setS_boot (t r : Nat) (v : Word) : (s.setS t r v).boot = s.boot := by simp [State.setS]
@[simp] theorem State.setSP_boot (t r : Nat) (v : Word) (poisoned : Bool) : (s.setSP t r v poisoned).boot = s.boot := by simp [State.setSP]
@[simp] theorem State.noteWait_boot (t : Nat) (old : TileWait) : (s.noteWait t old).boot = s.boot := by simp [State.noteWait]

theorem State.fetch_boot (t a n : Nat) : EndsWith s.boot (s.fetch t a n) := by
  unfold State.fetch; dsimp only; (repeat' split) <;> simp [EndsWith]

theorem State.fetch_error {s x : State} {t a n : Nat}
    (h : s.fetch t a n = .error x) : x.boot = s.boot := by
  have hb := s.fetch_boot t a n
  rwa [h] at hb

theorem State.fetch_ok {s : State} {x : State} {t a n : Nat}
    (h : s.fetch t a n = .ok x) : x.boot = s.boot := by
  have hb := s.fetch_boot t a n
  rwa [h] at hb

theorem State.fetchAll_boot (s : State) (t : Nat) (l : List (Nat × Nat)) : EndsWith s.boot (s.fetchAll t l) := by
  induction l generalizing s with
  | nil => rfl
  | cons e l ih =>
    rw [State.fetchAll, List.foldlM_cons]
    cases h : s.fetch t e.1 e.2 with
    | error x => exact State.fetch_error h
    | ok x =>
      rw [← State.fetch_ok h]
      exact ih x

theorem State.fetchAll_error {s x : State} {t : Nat} {l : List (Nat × Nat)}
    (h : s.fetchAll t l = .error x) : x.boot = s.boot := by
  have hb := s.fetchAll_boot t l
  rwa [h] at hb

theorem State.fetchAll_ok {s : State} {x : State} {t : Nat} {l : List (Nat × Nat)}
    (h : s.fetchAll t l = .ok x) : x.boot = s.boot := by
  have hb := s.fetchAll_boot t l
  rwa [h] at hb

@[simp] theorem State.issue_boot (t : Nat) (i : Instr) (f : State → State) (h : ∀ s, (f s).boot = s.boot) :
    (s.issue t i f).boot = s.boot := by
  unfold State.issue
  dsimp only
  cases hx : s.fetch t (s.fetchAt t) 8 with
  | error x => simp [State.fetch_error hx]
  | ok x => simp [State.fetch_ok hx, h]

theorem State.engineRead_boot (t cls mode : Nat) (rs : List (Nat × Nat)) : ReadEndsWith s.boot (s.engineRead t cls mode rs) := by
  unfold State.engineRead; dsimp only; (repeat' split) <;> simp [ReadEndsWith]

theorem State.engineRead_error {s x : State} {t cls mode : Nat} {rs : List (Nat × Nat)}
    (h : s.engineRead t cls mode rs = .error x) : x.boot = s.boot := by
  have hb := s.engineRead_boot t cls mode rs
  rwa [h] at hb

theorem State.engineRead_ok {s : State} {x : Bool × State} {t cls mode : Nat} {rs : List (Nat × Nat)}
    (h : s.engineRead t cls mode rs = .ok x) : x.2.boot = s.boot := by
  have hb := s.engineRead_boot t cls mode rs
  rwa [h] at hb

@[simp] theorem State.engineReadDone_boot (t cls mode : Nat) (rs : List (Nat × Nat)) : (s.engineReadDone t cls mode rs).boot = s.boot := by
  simp [State.engineReadDone]

theorem State.engineWrite_boot (t cls mode off : Nat) (bs : List Byte) (poisoned : Bool) :
    EndsWith s.boot (s.engineWrite t cls mode off bs poisoned) := by
  unfold State.engineWrite; dsimp only; (repeat' split) <;> simp [EndsWith]

theorem State.engineWrite_error {s x : State} {t cls mode off : Nat} {bs : List Byte} {b : Bool}
    (h : s.engineWrite t cls mode off bs b = .error x) : x.boot = s.boot := by
  have hb := s.engineWrite_boot t cls mode off bs b
  rwa [h] at hb

theorem State.engineWrite_ok {s : State} {x : State} {t cls mode off : Nat} {bs : List Byte} {b : Bool}
    (h : s.engineWrite t cls mode off bs b = .ok x) : x.boot = s.boot := by
  have hb := s.engineWrite_boot t cls mode off bs b
  rwa [h] at hb

@[simp] theorem State.saveTile_boot (t image k : Nat) : (s.saveTile t image k).boot = s.boot := by simp -implicitDefEqProofs [State.saveTile]
@[simp] theorem State.forgetTouched_boot (t key : Nat) : (s.forgetTouched t key).boot = s.boot := by simp -implicitDefEqProofs [State.forgetTouched]

@[simp] theorem State.restoreTile_boot (t image k rank key : Nat) : (s.restoreTile t image k rank key).boot = s.boot := by
  simp -implicitDefEqProofs [State.restoreTile]

@[simp] theorem execActivationDispatch_keeps (h : Fin 8) (i : Nat) (s : State) : Keeps s (execActivationDispatch h i s) := by
  unfold execActivationDispatch
  split
  · simp
  split
  · simp
  dsimp only
  split
  · simp
  rw [keeps_done, foldl_boot]
  · simp
  intro s e
  split
  · next h =>
    rw [State.takeCondemned_boot, State.fetchAll_ok h]; split <;> simp
  · next h => rw [State.takeCondemned_boot, State.fetchAll_error h]; split <;> simp

@[simp] theorem State.gapMax_boot (t : Nat) : (s.gapMax t).boot = s.boot := by simp [State.gapMax]

@[simp] theorem State.yieldAt_boot (t k : Nat) : (s.yieldAt t k).boot = s.boot := by
  unfold State.yieldAt
  split
  · next h => simp [State.fetch_error h]
  · next h => simp [State.fetch_ok h]

@[simp] theorem State.swapOut_boot (t : Nat) : (s.swapOut t).boot = s.boot := by simp [State.swapOut]

@[simp] theorem execYieldBarrierRelease_keeps (h : Fin 8) (i : Nat) (s : State) : Keeps s (execYieldBarrierRelease h i s) := by
  unfold execYieldBarrierRelease
  split
  · simp
  dsimp only
  split
  · simp
  split
  · rw [keeps_done, foldl_boot]
    intro s t; split <;> simp
  split
  · split
    · split
      · next h => simp [State.fetchAll_error h]
      · next h =>
        rw [keeps_done, foldl_boot (fun s t => by simp), State.modAct_boot, State.takeCondemned_boot,
            foldl_boot (fun s t => by simp), State.fetchAll_ok h]
    · simp
  · rw [keeps_done, foldl_boot (fun s t => by simp)]

@[simp] theorem execActivationStop_keeps (t : Fin 32) (s : State) : Keeps s (execActivationStop t s) := by simp [execActivationStop]

@[simp] theorem execStallTimeout_keeps (t : Fin 32) (s : State) : Keeps s (execStallTimeout t s) := by
  unfold execStallTimeout
  dsimp only
  (repeat' split) <;> simp -implicitDefEqProofs

@[simp] theorem execHardwareStall_keeps (t : Fin 32) (s : State) : Keeps s (execHardwareStall t s) := by simp [execHardwareStall]
@[simp] theorem execBankPhaseApply_keeps (t : Fin 32) (s : State) : Keeps s (execBankPhaseApply t s) := by unfold execBankPhaseApply; split <;> simp

@[simp] theorem execInjectCk_keeps (r : Requester) (t : Fin 32) (arg : BitVec 24) (s : State) : Keeps s (execInjectCk r t arg s) := by
  simp [execInjectCk]

@[simp] theorem tileEnable_boot (t : Nat) : (tileEnable s t).2.boot = s.boot := by simp [tileEnable]
@[simp] theorem tileQuiesce_boot (t : Nat) : (tileQuiesce s t).2.boot = s.boot := by simp [tileQuiesce]
@[simp] theorem tileStop_boot (t : Nat) : (tileStop s t).2.boot = s.boot := by unfold tileStop; (repeat' split) <;> simp
@[simp] theorem tileReset_boot (t : Nat) : (tileReset s t).2.boot = s.boot := by simp [tileReset]

@[simp] theorem execBist_keeps (r : Requester) (q : Fin 4) (arg : BitVec 24) (s : State) : Keeps s (execBist r q arg s) := by
  simp -implicitDefEqProofs [execBist]

@[simp] theorem State.clearScratchpad_boot (t : Nat) : (s.clearScratchpad t).boot = s.boot := by simp [State.clearScratchpad]

@[simp] theorem execBistComplete_keeps (q : Fin 4) (passed : BitVec 8) (failMap : BitVec 28) (s : State) :
    Keeps s (execBistComplete q passed failMap s) := by simp [execBistComplete]

end

/-! ## The matrix engine (Machine/Mxe) -/

section
variable (s : State)

@[simp] theorem mxCfg_boot (t : Nat) (f : MxFields) (s : State) : (mxCfg t f s).boot = s.boot := by simp [mxCfg]

@[simp] theorem mxLdw_boot (t : Nat) (f : MxFields) (s : State) : (mxLdw t f s).boot = s.boot := by
  unfold mxLdw
  dsimp only
  split
  · simp
  split
  · next h => exact State.engineRead_error h
  · next s1 h =>
    have hr : s1.boot = s.boot := State.engineRead_ok h
    simp [hr]

@[simp] theorem mxSwap_boot (t : Nat) (s : State) : (mxSwap t s).boot = s.boot := by simp [mxSwap]
@[simp] theorem mxZacc_boot (t : Nat) (f : MxFields) (s : State) : (mxZacc t f s).boot = s.boot := by simp [mxZacc]

@[simp] theorem State.reportCk_boot (t outcome column row : Nat) (replayOk : Bool) : (s.reportCk t outcome column row replayOk).boot = s.boot := by
  simp -implicitDefEqProofs [State.reportCk]

@[simp] theorem State.judgeMismatch_boot (t column row : Nat) (replayOk : Bool) : (s.judgeMismatch t column row replayOk).2.boot = s.boot := by
  simp [State.judgeMismatch]

@[simp] theorem State.takeInject_boot (t : Nat) (real : Bool) : (s.takeInject t real).boot = s.boot := by
  unfold State.takeInject; (repeat' split) <;> simp

@[simp] theorem State.passBlocks_boot (s : State) (t : Nat) (f : MxFields) (desc : List Byte) (ups : List MxUpset) (k : Nat) :
    (s.passBlocks t f desc ups k).boot = s.boot := by
  induction k generalizing s with
  | zero => simp [State.passBlocks]
  | succ k ih =>
    unfold State.passBlocks
    extract_lets u b aE wE rows cols ks at' rs acts olds wts first again outs
    split
    · next h => exact State.engineRead_error h
    · next s1 h =>
      have h1 : s1.boot = s.boot := State.engineRead_ok h
      extract_lets s2 s3 x rowOf bank s4
      have hx : x.2.boot = s.boot := by
        simp only [x]
        split <;> simp [s3, s2, h1]
      split
      · exact hx
      · rw [ih, State.engineReadDone_boot, State.modTile_boot, hx]

@[simp] theorem mxPass_boot (t : Nat) (f : MxFields) (ups : List MxUpset) (s : State) : (mxPass t f ups s).boot = s.boot := by
  unfold mxPass
  dsimp only
  split
  · simp
  split
  · next h => exact State.fetchAll_error h
  · next h => simp [State.fetchAll_ok h]

@[simp] theorem State.lookChan_boot (t : Nat) : (s.lookChan t).boot = s.boot := by unfold State.lookChan; dsimp only; (repeat' split) <;> simp

@[simp] theorem mxOut_boot (t : Nat) (f : MxFields) (parity : Option AccParity) (s : State) : (mxOut t f parity s).boot = s.boot := by
  unfold mxOut
  extract_lets u w rows elems bytes sats nans bad off at' x
  have hx : x.2.boot = s.boot := by
    simp only [x]
    split <;> simp
  split
  · simp
  split
  · exact hx
  split
  · next h => rw [State.engineWrite_error h, hx]
  · next h => simp [State.engineWrite_ok h, hx]

@[simp] theorem execMxCfg_keeps (t : Fin 32) (f : MxFields) (s : State) : Keeps s (execMxCfg t f s) := by simp [execMxCfg]
@[simp] theorem execMxLdw_keeps (t : Fin 32) (f : MxFields) (s : State) : Keeps s (execMxLdw t f s) := by simp [execMxLdw]
@[simp] theorem execMxSwap_keeps (t : Fin 32) (f : MxFields) (s : State) : Keeps s (execMxSwap t f s) := by simp [execMxSwap]
@[simp] theorem execMxPass_keeps (t : Fin 32) (f : MxFields) (ups : List MxUpset) (s : State) : Keeps s (execMxPass t f ups s) := by simp [execMxPass]
@[simp] theorem execMxOut_keeps (t : Fin 32) (f : MxStore) (s : State) : Keeps s (execMxOut t f s) := by simp [execMxOut]
@[simp] theorem execMxZacc_keeps (t : Fin 32) (f : MxFields) (s : State) : Keeps s (execMxZacc t f s) := by simp [execMxZacc]

end

/-! ## The vector engine (Machine/Vxe) -/

section
variable (s : State)

@[simp] theorem withFmt_boot (t : Nat) (f : VxFields) (s : State) (g : Elem → State) (h : ∀ k, (g k).boot = s.boot) :
    (withFmt t f s g).boot = s.boot := by
  unfold withFmt; split <;> simp [h]

@[simp] theorem State.putV_boot (t : Nat) (f : VxFields) (srcs : List (BitVec 5)) (v : BitVec 2048) : (s.putV t f srcs v).boot = s.boot := by
  simp [State.putV]

@[simp] theorem vxLd_boot (t : Nat) (f : VxFields) (s : State) : (vxLd t f s).boot = s.boot := by
  refine withFmt_boot _ _ _ _ fun _ => ?_
  dsimp only
  split
  · simp
  split
  · next h => exact State.engineRead_error h
  · next h => simpa using State.engineRead_ok h

@[simp] theorem vxSt_boot (t : Nat) (f : VxFields) (s : State) : (vxSt t f s).boot = s.boot := by
  refine withFmt_boot _ _ _ _ fun _ => ?_
  dsimp only
  split
  · simp
  split
  · next h => exact State.engineWrite_error h
  · next h => simp [State.engineWrite_ok h]

@[simp] theorem vxAlu_boot (t : Nat) (op : VxAluOp) (f : VxFields) (s : State) : (vxAlu t op f s).boot = s.boot := by simp [vxAlu]
@[simp] theorem vxFma_boot (t : Nat) (f : VxFields) (s : State) : (vxFma t f s).boot = s.boot := by simp [vxFma]
@[simp] theorem vxFn_boot (t : Nat) (op : VxFnOp) (f : VxFields) (s : State) : (vxFn t op f s).boot = s.boot := by simp [vxFn]

@[simp] theorem vxCvt_boot (t : Nat) (f : VxFields) (dst : BitVec 4) (sat : Bool) (s : State) : (vxCvt t f dst sat s).boot = s.boot := by
  unfold vxCvt; split <;> simp

@[simp] theorem vxQmul_boot (t : Nat) (f : VxFields) (s : State) : (vxQmul t f s).boot = s.boot := by simp [vxQmul]
@[simp] theorem vxMac8_boot (t : Nat) (f : VxFields) (s : State) : (vxMac8 t f s).boot = s.boot := by simp [vxMac8]
@[simp] theorem vxLred_boot (t : Nat) (f : VxFields) (maximum : Bool) (s : State) : (vxLred t f maximum s).boot = s.boot := by simp [vxLred]
@[simp] theorem vxSel_boot (t : Nat) (f : VxFields) (s : State) : (vxSel t f s).boot = s.boot := by simp [vxSel]

@[simp] theorem vxPerm_boot (t : Nat) (f : VxFields) (s : State) : (vxPerm t f s).boot = s.boot := by
  refine withFmt_boot _ _ _ _ fun _ => ?_
  dsimp only
  split
  · next h => exact State.fetchAll_error h
  · next h => simp [State.fetchAll_ok h]

@[simp] theorem vxArgmax_boot (t : Nat) (f : VxFields) (s : State) : (vxArgmax t f s).boot = s.boot := by simp [vxArgmax]

@[simp] theorem vxAtomic_boot (t : Fin 32) (f : VxFields) (add : Nat → Nat → Nat) (s : State) : (vxAtomic t f add s).boot = s.boot := by
  simp [vxAtomic]

@[simp] theorem vxAtaddi_boot (t : Fin 32) (f : VxFields) (s : State) : (vxAtaddi t f s).boot = s.boot := by simp [vxAtaddi]
@[simp] theorem vxAtaddf_boot (t : Fin 32) (f : VxFields) (s : State) : (vxAtaddf t f s).boot = s.boot := by simp [vxAtaddf]
@[simp] theorem State.vxParity_boot (t : Nat) : (s.vxParity t).boot = s.boot := by simp [State.vxParity]

@[simp] theorem vxGuard_boot (t : Nat) (f : VxFields) (g : State → State) (s : State) (h : ∀ s, (g s).boot = s.boot) :
    (vxGuard t f g s).boot = s.boot := by simp [vxGuard, h]

@[simp] theorem execVxLd_keeps (t : Fin 32) (f : VxFields) (s : State) : Keeps s (execVxLd t f s) := by simp [execVxLd]
@[simp] theorem execVxSt_keeps (t : Fin 32) (f : VxFields) (s : State) : Keeps s (execVxSt t f s) := by simp [execVxSt]
@[simp] theorem execVxAlu_keeps (t : Fin 32) (op : VxAluOp) (f : VxFields) (s : State) : Keeps s (execVxAlu t op f s) := by simp [execVxAlu]
@[simp] theorem execVxFma_keeps (t : Fin 32) (f : VxFields) (s : State) : Keeps s (execVxFma t f s) := by simp [execVxFma]
@[simp] theorem execVxFn_keeps (t : Fin 32) (op : VxFnOp) (f : VxFields) (s : State) : Keeps s (execVxFn t op f s) := by simp [execVxFn]

@[simp] theorem execVxCvt_keeps (t : Fin 32) (f : VxFields) (dst : BitVec 4) (sat : Bool) (s : State) : Keeps s (execVxCvt t f dst sat s) := by
  simp [execVxCvt]

@[simp] theorem execVxQmul_keeps (t : Fin 32) (f : VxFields) (s : State) : Keeps s (execVxQmul t f s) := by simp [execVxQmul]
@[simp] theorem execVxMac8_keeps (t : Fin 32) (f : VxFields) (s : State) : Keeps s (execVxMac8 t f s) := by simp [execVxMac8]
@[simp] theorem execVxLred_keeps (t : Fin 32) (f : VxFields) (maximum : Bool) (s : State) : Keeps s (execVxLred t f maximum s) := by simp [execVxLred]
@[simp] theorem execVxSel_keeps (t : Fin 32) (f : VxFields) (s : State) : Keeps s (execVxSel t f s) := by simp [execVxSel]
@[simp] theorem execVxPerm_keeps (t : Fin 32) (f : VxFields) (s : State) : Keeps s (execVxPerm t f s) := by simp [execVxPerm]
@[simp] theorem execVxArgmax_keeps (t : Fin 32) (f : VxFields) (s : State) : Keeps s (execVxArgmax t f s) := by simp [execVxArgmax]
@[simp] theorem execVxAtaddi_keeps (t : Fin 32) (f : VxFields) (s : State) : Keeps s (execVxAtaddi t f s) := by simp [execVxAtaddi]
@[simp] theorem execVxAtaddf_keeps (t : Fin 32) (f : VxFields) (s : State) : Keeps s (execVxAtaddf t f s) := by simp [execVxAtaddf]

end

/-! ## Other tile instructions (Machine/TileOps) -/

section
variable (s : State)

@[simp] theorem mvUnits_boot (t : Fin 32) (f : MvFields) (src : Nat → Nat) (dst total k i : Nat) (s : State) :
    (mvUnits t f src dst total k i s).boot = s.boot := by
  induction k generalizing i s with
  | zero => simp [mvUnits]
  | succ k ih => unfold mvUnits; dsimp only; (repeat' split) <;> simp [ih]

@[simp] theorem mvCopy_boot (t : Fin 32) (f : MvFields) (s : State) : (mvCopy t f s).boot = s.boot := by
  simp only [mvCopy]; (repeat' split) <;> simp_all

@[simp] theorem State.gatherList_boot (t : Fin 32) (h a n : Nat) : (s.gatherList t h a n).2.boot = s.boot := by simp [State.gatherList]

@[simp] theorem mvGather_boot (t : Fin 32) (f : MvFields) (s : State) : (mvGather t f s).boot = s.boot := by
  simp only [mvGather]; (repeat' split) <;> simp_all

@[simp] theorem mvBcast_boot (t : Fin 32) (f : MvFields) (s : State) : (mvBcast t f s).boot = s.boot := by
  unfold mvBcast
  extract_lets h a off dests group n units one r
  have hone : ∀ x k, (one x k).2.boot = x.2.boot := by
    intro x k
    unfold one
    extract_lets got s1
    have h1 : s1.boot = x.2.boot := by simp only [s1]; split <;> simp [got]
    split
    · exact h1
    · exact (foldl_boot (fun s d => by simp) _ _).trans h1
  have hr : r.2.boot = s.boot := foldl_snd_boot hone _ _
  (repeat' split) <;> simp [hr]

@[simp] theorem mvRed_boot (t : Fin 32) (f : MvFields) (s : State) : (mvRed t f s).boot = s.boot := by
  unfold mvRed
  extract_lets h a b n group contrib reachMask units fp others last x vec s1 e g v bytes bad wr
  have hx : x.2.2.2.boot = s.boot := by
    refine foldl_keeps (fun x : List Byte × Bool × Bool × State => x.2.2.2.boot) (fun x k => ?_) units _
    dsimp only
    split <;> simp
  have h1 : s1.boot = s.boot := by simp [s1, hx]
  have hw : wr.2.boot = s.boot := by
    refine (foldl_snd_boot (fun y k => ?_) _ _).trans h1
    simp
  have he : ∀ l : List Nat, (l.foldl (fun s u =>
      (s.modTile u fun w => { w with offered := none, offeredPoison := false, wait := .none }).nextInstr u) wr.2).boot = s.boot :=
    fun l => (foldl_boot (fun s u => by simp) l _).trans hw
  (repeat' split) <;> simp [hx, h1, hw, he]

@[simp] theorem sySignal_boot (t : Fin 32) (f : SyFields) (s : State) : (sySignal t f s).boot = s.boot := by simp [sySignal]
@[simp] theorem sySet_boot (t : Fin 32) (f : SyFields) (s : State) : (sySet t f s).boot = s.boot := by simp [sySet]
@[simp] theorem syWait_boot (t : Fin 32) (f : SyFields) (s : State) : (syWait t f s).boot = s.boot := by simp [syWait]
@[simp] theorem syArrive_boot (t : Fin 32) (f : SyFields) (s : State) : (syArrive t f s).boot = s.boot := by simp [syArrive]
@[simp] theorem syTest_boot (t : Fin 32) (f : SyFields) (s : State) : (syTest t f s).boot = s.boot := by simp [syTest]
@[simp] theorem syTake_boot (t : Fin 32) (f : SyFields) (s : State) : (syTake t f s).boot = s.boot := by simp [syTake]
@[simp] theorem syWaitany_boot (t : Fin 32) (f : SyFields) (s : State) : (syWaitany t f s).boot = s.boot := by simp [syWaitany]

@[simp] theorem syTags_boot (t : Fin 32) (first count1 : BitVec 13) (v : BitVec 2) (s : State) : (syTags t first count1 v s).boot = s.boot := by
  simp -implicitDefEqProofs [syTags]

@[simp] theorem ctSets_boot (t : Nat) (f : CtFields) (s : State) : (ctSets t f s).boot = s.boot := by simp [ctSets]
@[simp] theorem ctAlu_boot (t : Nat) (op : CtAluOp) (f : CtFields) (s : State) : (ctAlu t op f s).boot = s.boot := by simp [ctAlu]
@[simp] theorem ctBr_boot (t : Nat) (f : CtFields) (s : State) : (ctBr t f s).boot = s.boot := by unfold ctBr; (repeat' split) <;> simp
@[simp] theorem ctLoop_boot (t : Nat) (f : CtFields) (s : State) : (ctLoop t f s).boot = s.boot := by simp [ctLoop]
@[simp] theorem ctPhase_boot (t : Nat) (f : CtFields) (s : State) : (ctPhase t f s).boot = s.boot := by simp [ctPhase]
@[simp] theorem ctYield_boot (t : Nat) (f : CtFields) (s : State) : (ctYield t f s).boot = s.boot := by simp [ctYield]
@[simp] theorem ctEnd_boot (t : Nat) (s : State) : (ctEnd t s).boot = s.boot := by unfold ctEnd; (repeat' split) <;> simp
@[simp] theorem ctMtn_boot (t : Nat) (f : CtFields) (s : State) : (ctMtn t f s).boot = s.boot := by simp [ctMtn]
@[simp] theorem ctTid_boot (t : Nat) (f : CtFields) (s : State) : (ctTid t f s).boot = s.boot := by simp [ctTid]
@[simp] theorem ctLds_boot (t : Fin 32) (f : CtFields) (s : State) : (ctLds t f s).boot = s.boot := by simp [ctLds]
@[simp] theorem ctSts_boot (t : Fin 32) (f : CtFields) (s : State) : (ctSts t f s).boot = s.boot := by simp [ctSts]

@[simp] theorem ckRange_boot (t : Fin 32) (a k : Nat) (s : State) (acc : List Byte) (bad : Bool) : (ckRange t a k s acc bad).2.2.2.boot = s.boot := by
  induction k generalizing a s acc bad with
  | zero => rfl
  | succ k ih => unfold ckRange; simp [ih]

@[simp] theorem ckJudge_boot (t : Fin 32) (f : CkFields) (g : List Byte → Word) (s : State) : (ckJudge t f g s).boot = s.boot := by
  simp only [ckJudge]; (repeat' split) <;> simp_all

@[simp] theorem ckCrc_boot (t : Fin 32) (f : CkFields) (s : State) : (ckCrc t f s).boot = s.boot := by simp [ckCrc]
@[simp] theorem ckFin_boot (t : Fin 32) (f : CkFields) (s : State) : (ckFin t f s).boot = s.boot := by simp [ckFin]
@[simp] theorem ckBound_boot (t : Fin 32) (f : CkFields) (s : State) : (ckBound t f s).boot = s.boot := by simp [ckBound]
@[simp] theorem ckTrap_boot (t : Nat) (f : CkFields) (s : State) : (ckTrap t f s).boot = s.boot := by simp [ckTrap]
@[simp] theorem ckStamp_boot (t : Fin 32) (f : CkFields) (s : State) : (ckStamp t f s).boot = s.boot := by simp [ckStamp]
@[simp] theorem execMvCopy_keeps (t : Fin 32) (f : MvFields) (s : State) : Keeps s (execMvCopy t f s) := by simp [execMvCopy]
@[simp] theorem execMvBcast_keeps (t : Fin 32) (f : MvFields) (s : State) : Keeps s (execMvBcast t f s) := by unfold execMvBcast; simp
@[simp] theorem execMvRed_keeps (t : Fin 32) (f : MvFields) (s : State) : Keeps s (execMvRed t f s) := by simp [execMvRed]
@[simp] theorem execMvGather_keeps (t : Fin 32) (f : MvFields) (s : State) : Keeps s (execMvGather t f s) := by simp [execMvGather]
@[simp] theorem execSySignal_keeps (t : Fin 32) (f : SyFields) (s : State) : Keeps s (execSySignal t f s) := by simp [execSySignal]
@[simp] theorem execSyWait_keeps (t : Fin 32) (f : SyFields) (s : State) : Keeps s (execSyWait t f s) := by simp [execSyWait]
@[simp] theorem execSyArrive_keeps (t : Fin 32) (f : SyFields) (s : State) : Keeps s (execSyArrive t f s) := by simp [execSyArrive]
@[simp] theorem execSyTest_keeps (t : Fin 32) (f : SyFields) (s : State) : Keeps s (execSyTest t f s) := by simp [execSyTest]
@[simp] theorem execSySet_keeps (t : Fin 32) (f : SyFields) (s : State) : Keeps s (execSySet t f s) := by simp [execSySet]
@[simp] theorem execSyTake_keeps (t : Fin 32) (f : SyFields) (s : State) : Keeps s (execSyTake t f s) := by simp [execSyTake]
@[simp] theorem execSyWaitany_keeps (t : Fin 32) (f : SyFields) (s : State) : Keeps s (execSyWaitany t f s) := by simp [execSyWaitany]
@[simp] theorem execCtSets_keeps (t : Fin 32) (f : CtFields) (s : State) : Keeps s (execCtSets t f s) := by simp [execCtSets]
@[simp] theorem execCtBr_keeps (t : Fin 32) (f : CtFields) (s : State) : Keeps s (execCtBr t f s) := by simp [execCtBr]
@[simp] theorem execCtLoop_keeps (t : Fin 32) (f : CtFields) (s : State) : Keeps s (execCtLoop t f s) := by simp [execCtLoop]
@[simp] theorem execCtPhase_keeps (t : Fin 32) (f : CtFields) (s : State) : Keeps s (execCtPhase t f s) := by simp [execCtPhase]
@[simp] theorem execCtYield_keeps (t : Fin 32) (f : CtFields) (s : State) : Keeps s (execCtYield t f s) := by simp [execCtYield]
@[simp] theorem execCtMtn_keeps (t : Fin 32) (f : CtFields) (s : State) : Keeps s (execCtMtn t f s) := by simp [execCtMtn]
@[simp] theorem execCtTid_keeps (t : Fin 32) (f : CtFields) (s : State) : Keeps s (execCtTid t f s) := by simp [execCtTid]
@[simp] theorem execCtLds_keeps (t : Fin 32) (f : CtFields) (s : State) : Keeps s (execCtLds t f s) := by simp [execCtLds]
@[simp] theorem execCtSts_keeps (t : Fin 32) (f : CtFields) (s : State) : Keeps s (execCtSts t f s) := by simp [execCtSts]
@[simp] theorem execCkCrc_keeps (t : Fin 32) (f : CkFields) (s : State) : Keeps s (execCkCrc t f s) := by simp [execCkCrc]
@[simp] theorem execCkFin_keeps (t : Fin 32) (f : CkFields) (s : State) : Keeps s (execCkFin t f s) := by simp [execCkFin]
@[simp] theorem execCkBound_keeps (t : Fin 32) (f : CkFields) (s : State) : Keeps s (execCkBound t f s) := by simp [execCkBound]
@[simp] theorem execCkTrap_keeps (t : Fin 32) (f : CkFields) (s : State) : Keeps s (execCkTrap t f s) := by simp [execCkTrap]
@[simp] theorem execCkStamp_keeps (t : Fin 32) (f : CkFields) (s : State) : Keeps s (execCkStamp t f s) := by simp [execCkStamp]
@[simp] theorem execSyFence_keeps (t : Fin 32) (f : SyFields) (s : State) : Keeps s (execSyFence t f s) := by simp [execSyFence]

@[simp] theorem execSyTags_keeps (t : Fin 32) (first count1 : BitVec 13) (v : BitVec 2) (s : State) : Keeps s (execSyTags t first count1 v s) := by
  simp [execSyTags]

@[simp] theorem execCtAlu_keeps (t : Fin 32) (op : CtAluOp) (f : CtFields) (s : State) : Keeps s (execCtAlu t op f s) := by simp [execCtAlu]
@[simp] theorem execCtEnd_keeps (t : Fin 32) (f : CtFields) (s : State) : Keeps s (execCtEnd t f s) := by simp [execCtEnd]

@[simp] theorem heldEffect_boot (t : Fin 32) (i : Instr) (s : State) : (heldEffect t i s).boot = s.boot := by
  unfold heldEffect; (repeat' split) <;> simp

@[simp] theorem execScratchpadAccessIssue_keeps (t : Fin 32) (ecc : Ecc) (s : State) : Keeps s (execScratchpadAccessIssue t ecc s) := by
  unfold execScratchpadAccessIssue; dsimp only; (repeat' split) <;> simp

end

/-! ## Cameras and the PFE (Machine/Camera) -/

section
variable (s : State)

@[simp] theorem State.camError_boot (n kind line detail stamp : Nat) : (s.camError n kind line detail stamp).boot = s.boot := by
  simp -implicitDefEqProofs [State.camError]

@[simp] theorem State.settleCam_boot (n : Nat) : (s.settleCam n).boot = s.boot := by simp [State.settleCam]
@[simp] theorem State.countDrop_boot (n : Nat) : (s.countDrop n).boot = s.boot := by simp [State.countDrop]

@[simp] theorem State.frameError_boot (n kind detail stamp : Nat) : (s.frameError n kind detail stamp).boot = s.boot := by
  unfold State.frameError; (repeat' split) <;> simp

@[simp] theorem State.endFrame_boot (n : Nat) : (s.endFrame n).boot = s.boot := by simp [State.endFrame]
@[simp] theorem State.pfeAdvance_boot (n : Nat) : (s.pfeAdvance n).boot = s.boot := by simp [State.pfeAdvance]
@[simp] theorem State.pfeNext_boot (n : Nat) : (s.pfeNext n).boot = s.boot := by simp [State.pfeNext]
@[simp] theorem State.pfeDrop_boot (n kind : Nat) : (s.pfeDrop n kind).boot = s.boot := by unfold State.pfeDrop; (repeat' split) <;> simp

@[simp] theorem State.pfeWrite_boot (n off : Nat) (bs : List Byte) (poisoned fill : Bool) :
    (s.pfeWrite n off bs poisoned fill).2.boot = s.boot := foldl_snd_boot (fun s e => by dsimp only; (repeat' split) <;> simp) _ _

@[simp] theorem State.lookMesh_boot (n : Nat) : (s.lookMesh n).boot = s.boot := by simp [State.lookMesh]
@[simp] theorem State.pfeStart_boot (n : Nat) : (s.pfeStart n).boot = s.boot := by simp [State.pfeStart]

@[simp] theorem State.pfeRun_boot (s : State) (n k : Nat) : (s.pfeRun n k).boot = s.boot := by
  induction k generalizing s with
  | zero => rfl
  | succ k ih => unfold State.pfeRun; split <;> simp [ih]

@[simp] theorem State.pfeRunAll_boot (n : Nat) : (s.pfeRunAll n).boot = s.boot := by unfold State.pfeRunAll; simp
@[simp] theorem State.headerEcc_boot (n : Nat) (e : Ecc) : (s.headerEcc n e).boot = s.boot := by simp [State.headerEcc]

@[simp] theorem State.csiPacket_boot (n : Nat) (hdr : CsiHeader) (f : State → State) (h : ∀ s, (f s).boot = s.boot) :
    (s.csiPacket n hdr f).boot = s.boot := by simp [State.csiPacket, h]

@[simp] theorem State.frameStart_boot (n fn fs detail : Nat) : (s.frameStart n fn fs detail).boot = s.boot := by simp [State.frameStart]

@[simp] theorem execCsiFrameStart_keeps (n : Fin 12) (fn : BitVec 16) (hdr : CsiHeader) (s : State) : Keeps s (execCsiFrameStart n fn hdr s) := by
  simp [execCsiFrameStart]

@[simp] theorem State.frameLine_boot (n detail : Nat) (payload : List Byte) (crcOk : Bool) :
    (s.frameLine n detail payload crcOk).boot = s.boot := by unfold State.frameLine; (repeat' split) <;> simp

@[simp] theorem execCsiLinePacket_keeps (n : Fin 12) (hdr : CsiHeader) (payload : List Byte) (crcOk : Bool) (s : State) :
    Keeps s (execCsiLinePacket n hdr payload crcOk s) := by simp [execCsiLinePacket]

@[simp] theorem State.frameEnd_boot (n fn fe detail : Nat) : (s.frameEnd n fn fe detail).boot = s.boot := by
  unfold State.frameEnd; dsimp only; (repeat' split) <;> simp

@[simp] theorem execCsiFrameEnd_keeps (n : Fin 12) (fn : BitVec 16) (hdr : CsiHeader) (s : State) : Keeps s (execCsiFrameEnd n fn hdr s) := by
  simp [execCsiFrameEnd]

@[simp] theorem execCsiIgnoredPacket_keeps (n : Fin 12) (hdr : CsiHeader) (s : State) : Keeps s (execCsiIgnoredPacket n hdr s) := by
  simp -implicitDefEqProofs [execCsiIgnoredPacket]

@[simp] theorem execCamNoFeTimeout_keeps (n : Fin 12) (s : State) : Keeps s (execCamNoFeTimeout n s) := by unfold execCamNoFeTimeout; split <;> simp
@[simp] theorem execCamNoFrameTimeout_keeps (n : Fin 12) (s : State) : Keeps s (execCamNoFrameTimeout n s) := by simp [execCamNoFrameTimeout]
@[simp] theorem execCsiPhyLoss_keeps (n : Fin 12) (s : State) : Keeps s (execCsiPhyLoss n s) := by unfold execCsiPhyLoss; (repeat' split) <;> simp
@[simp] theorem State.committed_boot (n : Nat) (f : CamFrame) (buf fe : Nat) : (s.committed n f buf fe).boot = s.boot := by simp [State.committed]

@[simp] theorem execPfeFrameCommit_keeps (n : Fin 12) (time : Dword) (s : State) : Keeps s (execPfeFrameCommit n time s) := by
  unfold execPfeFrameCommit; dsimp only; split <;> simp

@[simp] theorem execPfeSampleStart_keeps (n : Fin 12) (s : State) : Keeps s (execPfeSampleStart n s) := by
  simp only [execPfeSampleStart]; (repeat' split) <;> simp_all

@[simp] theorem camEnable_boot (n : Nat) : (camEnable s n).2.boot = s.boot := by
  unfold camEnable; dsimp only; (repeat' split) <;> simp -implicitDefEqProofs

@[simp] theorem camDisable_boot (n : Nat) : (camDisable s n).2.boot = s.boot := by simp [camDisable]
@[simp] theorem camQuiesce_boot (n : Nat) : (camQuiesce s n).2.boot = s.boot := by simp [camQuiesce]
@[simp] theorem camStop_boot (n : Nat) : (camStop s n).2.boot = s.boot := by simp [camStop]
@[simp] theorem camReset_boot (n : Nat) : (camReset s n).2.boot = s.boot := by simp [camReset]
@[simp] theorem pfeEnable_boot (n : Nat) : (pfeEnable s n).2.boot = s.boot := by simp [pfeEnable]
@[simp] theorem State.readTail_boot (n : Nat) : (s.readTail n).boot = s.boot := by simp [State.readTail]
@[simp] theorem State.pfeEnableDone_boot (n : Nat) : (s.pfeEnableDone n).boot = s.boot := by unfold State.pfeEnableDone; (repeat' split) <;> simp
@[simp] theorem pfeQuiesce_boot (n : Nat) : (pfeQuiesce s n).2.boot = s.boot := by simp [pfeQuiesce]
@[simp] theorem pfeStop_boot (n : Nat) : (pfeStop s n).2.boot = s.boot := by simp [pfeStop]

end

/-! ## The DPP (Machine/Dpp) -/

section
variable (s : State)

@[simp] theorem queueWrite_boot (p : PageRef) (entry off : Nat) (v : Word) (s : State) : (queueWrite p entry off v s).1.boot = s.boot := by
  simp [queueWrite]

@[simp] theorem execDppJobStart_keeps (s : State) : Keeps s (execDppJobStart s) := by unfold execDppJobStart; dsimp only; (repeat' split) <;> simp
@[simp] theorem State.dppDecode_boot (h : Nat) (d : DppDesc) : (s.dppDecode h d).2.2.boot = s.boot := by unfold State.dppDecode; simp

@[simp] theorem State.engineStore_boot (h a : Nat) (bs : List Byte) (poisoned : Bool) : (s.engineStore h a bs poisoned).boot = s.boot := by
  simp [State.engineStore]

@[simp] theorem State.dppFinish_boot (j : DppJob) (d : DppDesc) (status ns : Nat) (stamp : Option Nat) :
    (s.dppFinish j d status ns stamp).boot = s.boot := by unfold State.dppFinish; split <;> simp -implicitDefEqProofs

@[simp] theorem execDppJobEnd_keeps (ns : Nat) (s : State) : Keeps s (execDppJobEnd ns s) := by unfold execDppJobEnd; split <;> simp
@[simp] theorem State.dropQueue_boot (h : Nat) : (s.dropQueue h).boot = s.boot := by simp [State.dropQueue]
@[simp] theorem State.dppStopJob_boot : s.dppStopJob.boot = s.boot := by unfold State.dppStopJob; split <;> simp
@[simp] theorem dppStop_boot : (dppStop s).2.boot = s.boot := by simp [dppStop]
@[simp] theorem dppQuiesce_boot : (dppQuiesce s).2.boot = s.boot := by simp [dppQuiesce]
@[simp] theorem dppEnable_boot : (dppEnable s).2.boot = s.boot := by simp [dppEnable]

end

/-! ## Weight builds (Machine/Weights) -/

section
variable (s : State)

@[simp] theorem weightEnable_boot (k : Nat) : (weightEnable s k).2.boot = s.boot := by
  unfold weightEnable; dsimp only; (repeat' split) <;> simp -implicitDefEqProofs

@[simp] theorem weightDisable_boot (k : Nat) : (weightDisable s k).2.boot = s.boot := by simp [weightDisable]
@[simp] theorem weightStop_boot (k : Nat) : (weightStop s k).2.boot = s.boot := by simp [weightStop]
@[simp] theorem weightReset_boot (k : Nat) : (weightReset s k).2.boot = s.boot := by simp [weightReset]

@[simp] theorem execBuildBegin_keeps (r : Requester) (k : Fin 8) (arg : BitVec 24) (s : State) : Keeps s (execBuildBegin r k arg s) := by
  simp [execBuildBegin]

@[simp] theorem execSegue_keeps (r : Requester) (k : Fin 8) (arg : BitVec 24) (s : State) : Keeps s (execSegue r k arg s) := by simp [execSegue]

end

/-! ## The codec (Machine/Codec) -/

section
variable (s : State)

@[simp] theorem State.codecRead_boot (s : State) (j : CodecJob) (host : List HostChunk) (a n : Nat) : (s.codecRead j host a n).2.boot = s.boot := by
  simp [State.codecRead]

theorem State.boot_of_codecRead {s s1 : State} {j : CodecJob} {host : List HostChunk} {a n : Nat} {o : Option (List Byte × Bool)}
    (h : s.codecRead j host a n = (o, s1)) : s1.boot = s.boot := by
  rw [← s.codecRead_boot j host a n, h]

@[simp] theorem State.afterFill_boot (a n : Nat) : (s.afterFill a n).boot = s.boot := by unfold State.afterFill; (repeat' split) <;> simp

@[simp] theorem State.codecWrite_boot (j : CodecJob) (a : Nat) (bs : List Byte) (poisoned : Bool) :
    (s.codecWrite j a bs poisoned).boot = s.boot := by simp [State.codecWrite]

@[simp] theorem State.dropCodecJob_boot (h : Nat) : (s.dropCodecJob h).boot = s.boot := by simp [State.dropCodecJob]

@[simp] theorem State.codecFinish_boot (j : CodecJob) (status : Nat) : (s.codecFinish j status).boot = s.boot := by
  simp -implicitDefEqProofs [State.codecFinish]

@[simp] theorem State.codecCheck_boot (j : CodecJob) (host : List HostChunk) : (s.codecCheck j host).2.2.boot = s.boot := by
  unfold State.codecCheck
  extract_lets wp viol dst j1 r
  have hv : ∀ s a, (viol s a).boot = s.boot := fun _ _ => by simp [viol]
  have hr : r.2.2.boot = s.boot := by
    simp only [r]
    split
    · rfl
    split
    · next h => exact State.boot_of_codecRead h
    · next h =>
      have h1 := State.boot_of_codecRead h
      (repeat' split) <;> simp [hv, h1]
  clear_value r
  obtain ⟨o, j2, s2⟩ := r
  dsimp only at hr
  cases o <;> (repeat' split) <;> simp_all

@[simp] theorem State.codecStart_boot (h : Nat) (host : List HostChunk) : (s.codecStart h host).boot = s.boot := by
  unfold State.codecStart
  extract_lets i at' s1 s2 j
  have h2 : s2.boot = s.boot := by simp [s2, s1]
  split
  · simp [h2]
  have hc := s2.codecCheck_boot j host
  split <;> next h => rw [h] at hc; simpa [h2] using hc

@[simp] theorem State.codecOp_boot (h op : Nat) (host : List HostChunk) : (s.codecOp h op host).boot = s.boot := by simp [State.codecOp]
@[simp] theorem execDecodeWpkf_keeps (h : Fin 8) (host : List HostChunk) (s : State) : Keeps s (execDecodeWpkf h host s) := by simp [execDecodeWpkf]
@[simp] theorem execDecodeApkv_keeps (h : Fin 8) (host : List HostChunk) (s : State) : Keeps s (execDecodeApkv h host s) := by simp [execDecodeApkv]
@[simp] theorem execEncodeApkv_keeps (h : Fin 8) (host : List HostChunk) (s : State) : Keeps s (execEncodeApkv h host s) := by simp [execEncodeApkv]
@[simp] theorem execCopyBlocks_keeps (h : Fin 8) (host : List HostChunk) (s : State) : Keeps s (execCopyBlocks h host s) := by simp [execCopyBlocks]

@[simp] theorem State.codecProduce_boot (j : CodecJob) (host : List HostChunk) : (s.codecProduce j host).2.boot = s.boot := by
  unfold State.codecProduce
  split
  · split <;> next h => exact State.boot_of_codecRead h
  extract_lets i
  split
  · next h => exact State.boot_of_codecRead h
  next h =>
  have h1 := State.boot_of_codecRead h
  extract_lets off
  split
  · exact h1
  split
  · next h => rw [State.boot_of_codecRead h, h1]
  next h =>
  have h2 := (State.boot_of_codecRead h).trans h1
  extract_lets size
  split
  · exact h2
  split
  · next h => rw [State.boot_of_codecRead h, h2]
  next h =>
  have h3 := (State.boot_of_codecRead h).trans h2
  split
  · next h => rw [State.boot_of_codecRead h, h3]
  next h =>
  have h4 := (State.boot_of_codecRead h).trans h3
  dsimp only
  (repeat' split) <;> exact h4

@[simp] theorem State.blockBuilt_boot (j : CodecJob) (n : Nat) (po : Bool) : (s.blockBuilt j n po).boot = s.boot := by simp [State.blockBuilt]
@[simp] theorem State.encodeEnd_boot (j : CodecJob) : (s.encodeEnd j).boot = s.boot := by simp [State.encodeEnd]

@[simp] theorem State.codecStep_boot (j : CodecJob) (host : List HostChunk) : (s.codecStep j host).boot = s.boot := by
  unfold State.codecStep
  extract_lets put a
  have hput : ∀ s j, (put s j).boot = s.boot := fun _ _ => rfl
  split
  · simp
  split
  · simp
  have hp := s.codecProduce_boot j host
  split
  · next h => simpa [h] using hp
  · next s1 h =>
    have h1 : s1.boot = s.boot := by simpa [h] using hp
    (repeat' split) <;> simp [hput, h1]

@[simp] theorem execCodecBlock_keeps (ns : Nat) (host : List HostChunk) (s : State) : Keeps s (execCodecBlock ns host s) := by
  unfold execCodecBlock; dsimp only; (repeat' split) <;> simp

@[simp] theorem State.codecStopJobs_boot : s.codecStopJobs.boot = s.boot := by simp [State.codecStopJobs]
@[simp] theorem State.codecDropQueue_boot (h : Nat) : (s.codecDropQueue h).boot = s.boot := by simp [State.codecDropQueue]
@[simp] theorem codecStop_boot : (codecStop s).2.boot = s.boot := by simp [codecStop]
@[simp] theorem codecEnable_boot : (codecEnable s).2.boot = s.boot := by simp [codecEnable]

end

/-! ## The KV unit (Machine/Kv) -/

section
variable (s : State)

@[simp] theorem State.kvShowFree_boot : s.kvShowFree.boot = s.boot := by simp [State.kvShowFree]
@[simp] theorem State.kvRelease_boot (q : Nat) : (s.kvRelease q).boot = s.boot := by simp [State.kvRelease]
@[simp] theorem State.kvTake_boot (q n : Nat) : (s.kvTake q n).2.boot = s.boot := by simp [State.kvTake]
@[simp] theorem State.kvPutList_boot (q first : Nat) (pages : List Nat) : (s.kvPutList q first pages).boot = s.boot := by simp [State.kvPutList]
@[simp] theorem State.kvLose_boot (q : Nat) : (s.kvLose q).boot = s.boot := by simp [State.kvLose]
@[simp] theorem State.kvHostErr_boot : s.kvHostErr.boot = s.boot := by simp [State.kvHostErr]
@[simp] theorem State.kvSwapOut_boot (q : Nat) : (s.kvSwapOut q).boot = s.boot := by simp only [State.kvSwapOut]; (repeat' split) <;> simp_all
@[simp] theorem State.kvSwapDone_boot (w : KvSwap) (ok : Bool) : (s.kvSwapDone w ok).boot = s.boot := by simp [State.kvSwapDone]

@[simp] theorem State.kvSwapIn_boot (q : Nat) (host : List HostChunk) : (s.kvSwapIn q host).2.boot = s.boot := by
  unfold State.kvSwapIn; dsimp only; (repeat' split) <;> simp

@[simp] theorem State.kvFinish_boot (r : KvReq) (status : Nat) : (s.kvFinish r status).boot = s.boot := by simp -implicitDefEqProofs [State.kvFinish]
@[simp] theorem State.kvPushResult_boot (r : KvReq) (x : Nat × Nat × Nat) : (s.kvPushResult r x).boot = s.boot := by simp [State.kvPushResult]
@[simp] theorem State.kvAdmit_boot (r : KvReq) (q n : Nat) : (s.kvAdmit r q n).boot = s.boot := by simp [State.kvAdmit]

@[simp] theorem State.kvEntryStep_boot (r : KvReq) : (s.kvEntryStep r).boot = s.boot := by
  unfold State.kvEntryStep
  dsimp only
  by_cases h3 : s.seqState (s.kvEntry r r.entry).1 = 3
  · have hk := s.kvSwapIn_boot (s.kvEntry r r.entry).1 r.host
    simp only [h3]
    (repeat' split) <;> simp_all
  · simp only [h3]
    (repeat' split) <;> simp_all

@[simp] theorem State.kvBatchRun_boot (s : State) (k : Nat) : (s.kvBatchRun k).boot = s.boot := by
  induction k generalizing s with
  | zero => rfl
  | succ k ih => unfold State.kvBatchRun; split <;> simp [ih]

@[simp] theorem State.kvOpRun_boot (r : KvReq) : (s.kvOpRun r).boot = s.boot := by
  unfold State.kvOpRun
  dsimp only
  split
  · split <;> simp
  · (repeat' split) <;> simp
  · simp
  · simp
  · split
    · simp
    · have hk := s.kvSwapIn_boot r.seq r.host
      split <;> next h => rw [h] at hk; simpa using hk
  · simp
  · simp

@[simp] theorem State.kvRun_boot (op ns : Nat) (host : List HostChunk) : (s.kvRun op ns host).boot = s.boot := by simp [State.kvRun]
@[simp] theorem execOpenSeq_keeps (ns : Nat) (s : State) : Keeps s (execOpenSeq ns s) := by simp [execOpenSeq]
@[simp] theorem execBatchSeq_keeps (ns : Nat) (host : List HostChunk) (s : State) : Keeps s (execBatchSeq ns host s) := by simp [execBatchSeq]
@[simp] theorem execCloseSeq_keeps (ns : Nat) (s : State) : Keeps s (execCloseSeq ns s) := by simp [execCloseSeq]
@[simp] theorem execSwapOut_keeps (ns : Nat) (s : State) : Keeps s (execSwapOut ns s) := by simp [execSwapOut]
@[simp] theorem execSwapIn_keeps (ns : Nat) (host : List HostChunk) (s : State) : Keeps s (execSwapIn ns host s) := by simp [execSwapIn]
@[simp] theorem execSetPriority_keeps (ns : Nat) (s : State) : Keeps s (execSetPriority ns s) := by simp [execSetPriority]

@[simp] theorem execSwapOutReadbackDone_keeps (ok : Bool) (ns : Nat) (s : State) : Keeps s (execSwapOutReadbackDone ok ns s) := by
  simp only [execSwapOutReadbackDone]; (repeat' split) <;> simp_all

@[simp] theorem kvEnable_boot : (kvEnable s).2.boot = s.boot := by
  unfold kvEnable
  split
  · extract_lets h s1
    have h1 : s1.boot = s.boot := State.writeGrant_boot _ _ _ _ _
    (repeat' split) <;> simp [h1]
  · simp
  · rfl

@[simp] theorem kvQuiesce_boot : (kvQuiesce s).2.boot = s.boot := by simp [kvQuiesce]
@[simp] theorem kvDisable_boot : (kvDisable s).2.boot = s.boot := by simp [kvDisable]
@[simp] theorem kvStop_boot : (kvStop s).2.boot = s.boot := by unfold kvStop; dsimp only; (repeat' split) <;> simp
@[simp] theorem kvReset_boot : (kvReset s).2.boot = s.boot := by simp [kvReset]

end

/-! ## Dynamics (Machine/Dynamics) -/

section
variable (s : State)

@[simp] theorem execWakeTolWrite_keeps (r : Requester) (h : Fin 8) (v : Word) (s : State) : Keeps s (execWakeTolWrite r h v s) := by
  simp [execWakeTolWrite]

@[simp] theorem State.setDyn_boot (dst : Nat) : (s.setDyn dst).boot = s.boot := by simp [State.setDyn]
@[simp] theorem State.sleepAny_boot (p : PageRef) : (s.sleepAny p).boot = s.boot := by simp [State.sleepAny]
@[simp] theorem State.linkPm_boot (v : Nat) : (s.linkPm v).boot = s.boot := by simp [State.linkPm]
@[simp] theorem State.compOff_boot : s.compOff.boot = s.boot := by simp [State.compOff]
@[simp] theorem State.enterPianissimo_boot : s.enterPianissimo.boot = s.boot := by simp [State.enterPianissimo]
@[simp] theorem State.loseAll_boot : s.loseAll.boot = s.boot := by simp -implicitDefEqProofs [State.loseAll]
@[simp] theorem State.enterTacet_boot : s.enterTacet.boot = s.boot := by simp [State.enterTacet]
@[simp] theorem State.enterPiano_boot : s.enterPiano.boot = s.boot := by simp [State.enterPiano]
@[simp] theorem State.descend_boot (dst : Nat) : (s.descend dst).boot = s.boot := by simp [State.descend]
@[simp] theorem State.dynBeat_boot : s.dynBeat.boot = s.boot := by simp [State.dynBeat]
@[simp] theorem execDwellExpiry_keeps (time : Dword) (s : State) : Keeps s (execDwellExpiry time s) := by unfold execDwellExpiry; split <;> simp

@[simp] theorem State.bar2Unit_boot (pasid : Option (BitVec 20)) (h a : Nat) (write : Bool) (bs : List Byte) :
    (s.bar2Unit pasid h a write bs).2.2.boot = s.boot := by simp [State.bar2Unit]

@[simp] theorem State.bar2Run_boot (s : State) (pasid : Option (BitVec 20)) (h a : Nat) (write : Bool) (k : Nat) (bs : List Byte) :
    (s.bar2Run pasid h a write k bs).2.2.boot = s.boot := by
  induction k generalizing s a bs with
  | zero => rfl
  | succ k ih => unfold State.bar2Run; simp [ih]

@[simp] theorem State.bar2_boot (pasid : Option (BitVec 20)) (a : Nat) (write : Bool) (data : List Byte) :
    (s.bar2 pasid a write data).boot = s.boot := by simp only [State.bar2]; (repeat' split) <;> simp_all

@[simp] theorem execHostSramAccess_keeps (pasid : Option (BitVec 20)) (addr : Word) (write : Bool) (data : List Byte) (s : State) :
    Keeps s (execHostSramAccess pasid addr write data s) := by simp [execHostSramAccess]

@[simp] theorem State.reloadConductor_boot (flashFail : Bool) : (s.reloadConductor flashFail).boot = s.boot := by simp [State.reloadConductor]
@[simp] theorem State.powerUp_boot (src dst : Nat) (flashFail : Bool) : (s.powerUp src dst flashFail).boot = s.boot := by simp [State.powerUp]
@[simp] theorem State.wakeDone_boot : s.wakeDone.boot = s.boot := by simp [State.wakeDone]
@[simp] theorem State.serveHeld_boot : s.serveHeld.boot = s.boot := by simp [State.serveHeld]

@[simp] theorem execWakeComplete_keeps (time : Dword) (flashFail : Bool) (s : State) : Keeps s (execWakeComplete time flashFail s) := by
  unfold execWakeComplete; split <;> simp

@[simp] theorem execLinkExitFromL1_keeps (s : State) : Keeps s (execLinkExitFromL1 s) := by simp [execLinkExitFromL1]
@[simp] theorem execWakeCmd_keeps (r : Requester) (arg : BitVec 24) (s : State) : Keeps s (execWakeCmd r arg s) := by simp [execWakeCmd]
@[simp] theorem execDynAlarmExpiry_keeps (s : State) : Keeps s (execDynAlarmExpiry s) := by simp [execDynAlarmExpiry]
@[simp] theorem State.setThrottle_boot (l : Nat) : (s.setThrottle l).boot = s.boot := by simp [State.setThrottle]
@[simp] theorem State.stopTiles_boot : s.stopTiles.boot = s.boot := by simp [State.stopTiles]

@[simp] theorem execThermalSample_keeps (sec die : Word) (tooHot : Bool) (time : Dword) (s : State) :
    Keeps s (execThermalSample sec die tooHot time s) := by simp [execThermalSample]

@[simp] theorem execPwrwarnAssert_keeps (s : State) : Keeps s (execPwrwarnAssert s) := by simp [execPwrwarnAssert]
@[simp] theorem execPwrwarnClear_keeps (s : State) : Keeps s (execPwrwarnClear s) := by simp [execPwrwarnClear]
@[simp] theorem dynWrite_boot (off : Nat) (v : Word) (s : State) : (dynWrite off v s).1.boot = s.boot := by simp [dynWrite]

end

/-! ## PCIe (Machine/Pcie) -/

section
variable (s : State)

@[simp] theorem State.flushMsix_boot : s.flushMsix.boot = s.boot := by simp [State.flushMsix]

@[simp] theorem State.cfgAnswer_boot (s : State) (q : CfgReq) : (s.cfgAnswer q).boot = s.boot := by
  cases q <;> simp [State.cfgAnswer]

@[simp] theorem execPcieConfigRequest_keeps (req : CfgReq) (time : Dword) (s : State) : Keeps s (execPcieConfigRequest req time s) := by
  unfold execPcieConfigRequest
  extract_lets s1 early out s2
  have h1 : s1.boot = s.boot := advanceTo_boot _ _
  have h2 : s2.boot = s.boot := h1
  split
  · simp [h1]
  · rw [keeps_done]
    split <;> simp [h2]

@[simp] theorem execPcieLinkReset_keeps (perst : Bool) (released : Dword) (s : State) : Keeps s (execPcieLinkReset perst released s) := by
  simp [execPcieLinkReset]

@[simp] theorem execPcieLinkUp_keeps (speed : BitVec 3) (width : BitVec 4) (s : State) : Keeps s (execPcieLinkUp speed width s) := by
  simp [execPcieLinkUp]

@[simp] theorem execPcieLaneLoss_keeps (s : State) : Keeps s (execPcieLaneLoss s) := by simp [execPcieLaneLoss]
@[simp] theorem execRetrain_keeps (r : Requester) (d : Fin 2) (arg : BitVec 24) (s : State) : Keeps s (execRetrain r d arg s) := by simp [execRetrain]
@[simp] theorem execMsixUnmask_keeps (e : Fin 64) (masked : Bool) (s : State) : Keeps s (execMsixUnmask e masked s) := by simp [execMsixUnmask]

@[simp] theorem State.hostRow_boot (c row : Nat) (data : Option (List Byte)) (ep : Bool) : (s.hostRow c row data ep).boot = s.boot := by
  unfold State.hostRow; (repeat' split) <;> simp

@[simp] theorem execHostCompletion_keeps (c : Fin 8) (row : Nat) (got : HostRow) (s : State) : Keeps s (execHostCompletion c row got s) := by
  simp [execHostCompletion]

@[simp] theorem execHostCompletionTimeout_keeps (c : Option (Fin 8)) (row : Nat) (s : State) : Keeps s (execHostCompletionTimeout c row s) := by
  unfold execHostCompletionTimeout; split <;> simp

end

/-! ## Ethernet (Machine/Ethernet) -/

section
variable (s : State)

@[simp] theorem State.ringStep_boot (p : PageRef) (ring tail : Nat) : (s.ringStep p ring tail).boot = s.boot := by simp [State.ringStep]

@[simp] theorem State.ethWriteBack_boot (m : Nat) (d : EthDesc) (status : Nat) (cls len stamp : Option Nat) :
    (s.ethWriteBack m d status cls len stamp).boot = s.boot := by unfold State.ethWriteBack; (repeat' split) <;> simp

@[simp] theorem State.txEnd_boot (m q : Nat) (d : EthDesc) (status : Nat) (stamp : Option Nat) : (s.txEnd m q d status stamp).boot = s.boot := by
  simp [State.txEnd]

@[simp] theorem State.dropOversize_boot (s : State) (m q k : Nat) : (s.dropOversize m q k).boot = s.boot := by
  induction k generalizing s with
  | zero => rfl
  | succ k ih => unfold State.dropOversize; (repeat' split) <;> simp [ih]

@[simp] theorem State.txSend_boot (m q : Nat) (d : EthDesc) (host : List HostChunk) (start : Nat) : (s.txSend m q d host start).boot = s.boot := by
  unfold State.txSend; (repeat' split) <;> simp

@[simp] theorem execEthFrameTransmit_keeps (m : Fin 4) (host : List HostChunk) (time : Dword) (s : State) :
    Keeps s (execEthFrameTransmit m host time s) := by simp only [execEthFrameTransmit]; (repeat' split) <;> simp_all

@[simp] theorem execEthFrameReceive_keeps (m : Fin 4) (frame : List Byte) (fcsOk : Bool) (time : Dword) (s : State) :
    Keeps s (execEthFrameReceive m frame fcsOk time s) := by unfold execEthFrameReceive; dsimp only; (repeat' split) <;> simp

@[simp] theorem execEthLinkChange_keeps (m : Fin 4) (speed : BitVec 3) (s : State) : Keeps s (execEthLinkChange m speed s) := by
  simp [execEthLinkChange]

@[simp] theorem State.servoTake_boot (offset : Int) : (s.servoTake offset).boot = s.boot := by simp [State.servoTake]

@[simp] theorem execGptpMessageReceive_keeps (m : Fin 4) (msg : GptpMsg) (s : State) : Keeps s (execGptpMessageReceive m msg s) := by
  unfold execGptpMessageReceive; split <;> simp

@[simp] theorem execGptpSyncSend_keeps (m : Fin 4) (time : Dword) (s : State) : Keeps s (execGptpSyncSend m time s) := by simp [execGptpSyncSend]
@[simp] theorem execGptpPdelay_keeps (m : Fin 4) (delay : Word) (s : State) : Keeps s (execGptpPdelay m delay s) := by simp [execGptpPdelay]

@[simp] theorem execQbvApply_keeps (r : Requester) (m : Fin 4) (arg : BitVec 24) (s : State) : Keeps s (execQbvApply r m arg s) := by
  simp [execQbvApply]

@[simp] theorem State.showOper_boot (m : Nat) (g : GateList) : (s.showOper m g).boot = s.boot := by simp -implicitDefEqProofs [State.showOper]

@[simp] theorem execQbvCycleStart_keeps (m : Fin 4) (time : Dword) (s : State) : Keeps s (execQbvCycleStart m time s) := by
  unfold execQbvCycleStart; dsimp only; (repeat' split) <;> simp

@[simp] theorem ethEnable_boot (m : Nat) : (ethEnable s m).2.boot = s.boot := by unfold ethEnable; (repeat' split) <;> simp

@[simp] theorem State.stopRing_boot (s : State) (m q k : Nat) : (s.stopRing m q k).boot = s.boot := by
  induction k generalizing s with
  | zero => rfl
  | succ k ih => unfold State.stopRing; split <;> simp [ih]

@[simp] theorem ethStop_boot (m : Nat) : (ethStop s m).2.boot = s.boot := by simp only [ethStop]; (repeat' split) <;> simp_all

@[simp] theorem State.tailWrite_boot (p : PageRef) (ring tail : Nat) (v : Word) : (s.tailWrite p ring tail v).1.boot = s.boot := by
  simp [State.tailWrite]

@[simp] theorem ethWrite_boot (m off : Nat) (v : Word) (s : State) : (ethWrite m off v s).1.boot = s.boot := by simp [ethWrite]

end

/-! ## CAN (Machine/Can) -/

section
variable (s : State)

@[simp] theorem State.canStatus_boot (m off status : Nat) : (s.canStatus m off status).boot = s.boot := by simp [State.canStatus]

@[simp] theorem execCanFrameReceive_keeps (m : Fin 4) (f : CanFrame) (time : Dword) (s : State) : Keeps s (execCanFrameReceive m f time s) := by
  unfold execCanFrameReceive; dsimp only; (repeat' split) <;> simp

@[simp] theorem execCanFrameTransmit_keeps (m : Fin 4) (arbLost : Bool) (time : Dword) (s : State) :
    Keeps s (execCanFrameTransmit m arbLost time s) := by unfold execCanFrameTransmit; dsimp only; (repeat' split) <;> simp

@[simp] theorem execCanBusOff_keeps (m : Fin 4) (s : State) : Keeps s (execCanBusOff m s) := by simp [execCanBusOff]
@[simp] theorem execCanBusOffRecovery_keeps (m : Fin 4) (s : State) : Keeps s (execCanBusOffRecovery m s) := by simp [execCanBusOffRecovery]
@[simp] theorem canEnable_boot (m : Nat) : (canEnable s m).2.boot = s.boot := by unfold canEnable; (repeat' split) <;> simp

@[simp] theorem State.stopRecords_boot (s : State) (m ring tail k : Nat) : (s.stopRecords m ring tail k).boot = s.boot := by
  induction k generalizing s with
  | zero => rfl
  | succ k ih => unfold State.stopRecords; split <;> simp [ih]

@[simp] theorem canStop_boot (m : Nat) : (canStop s m).2.boot = s.boot := by simp only [canStop]; (repeat' split) <;> simp_all
@[simp] theorem canWrite_boot (m off : Nat) (v : Word) (s : State) : (canWrite m off v s).1.boot = s.boot := by simp [canWrite]

end

/-! ## The Compositor (Machine/Compositor) -/

section
variable (s : State)

@[simp] theorem State.lookFrame_boot : s.lookFrame.boot = s.boot := by simp [State.lookFrame]
@[simp] theorem State.compEnd_boot : s.compEnd.boot = s.boot := by simp [State.compEnd]
@[simp] theorem State.compBegin_boot (wb : Nat → Bool) : (s.compBegin wb).boot = s.boot := by unfold State.compBegin; (repeat' split) <;> simp
@[simp] theorem execCompFrameStart_keeps (time : Dword) (s : State) : Keeps s (execCompFrameStart time s) := by simp [execCompFrameStart]
@[simp] theorem State.compBar_boot : s.compBar.boot = s.boot := by simp [State.compBar]

@[simp] theorem execCompLineUnderrun_keeps (line x : BitVec 11) (s : State) : Keeps s (execCompLineUnderrun line x s) := by
  simp [execCompLineUnderrun]

@[simp] theorem State.wbStore_boot (off : Nat) (row : List Rgb) (bad : List Bool) : (s.wbStore off row bad).boot = s.boot := by simp [State.wbStore]
@[simp] theorem execCompWritebackDone_keeps (s : State) : Keeps s (execCompWritebackDone s) := by unfold execCompWritebackDone; split <;> simp

@[simp] theorem execCommitLayers_keeps (r : Requester) (arg : BitVec 24) (s : State) : Keeps s (execCommitLayers r arg s) := by
  unfold execCommitLayers
  rw [keeps_done, State.pageCmd_boot]
  intro s k
  (repeat' split) <;> simp -implicitDefEqProofs

@[simp] theorem State.dcsCmd_boot (code : Nat) (r : Requester) (arg : BitVec 24) (answer : Option Dword) :
    (s.dcsCmd code r arg answer).boot = s.boot := by simp [State.dcsCmd]

@[simp] theorem execDcsSend_keeps (r : Requester) (arg : BitVec 24) (s : State) : Keeps s (execDcsSend r arg s) := by simp [execDcsSend]

@[simp] theorem execDcsRead_keeps (r : Requester) (arg : BitVec 24) (answer : Option Dword) (s : State) :
    Keeps s (execDcsRead r arg answer s) := by simp [execDcsRead]

@[simp] theorem State.compComplete_boot : s.compComplete.boot = s.boot := by unfold State.compComplete; (repeat' split) <;> simp
@[simp] theorem compEnable_boot : (compEnable s).2.boot = s.boot := by unfold compEnable; (repeat' split) <;> simp
@[simp] theorem compQuiesce_boot : (compQuiesce s).2.boot = s.boot := by simp [compQuiesce]
@[simp] theorem compStop_boot : (compStop s).2.boot = s.boot := by simp [compStop]

end

/-! ## Ticks (Machine/Ticks) -/

section
variable (s : State)

@[simp] theorem State.showTick_boot : s.showTick.boot = s.boot := by simp [State.showTick]
@[simp] theorem State.hrBar_boot (h : Nat) : (s.hrBar h).boot = s.boot := by simp [State.hrBar]

@[simp] theorem State.beatJudge_fuses : s.beatJudge.boot.fuses = s.boot.fuses := by
  unfold State.beatJudge
  dsimp only
  split <;> simp

@[simp] theorem State.beatRelease_boot (bar : Bool) : (s.beatRelease bar).boot = s.boot := by simp -implicitDefEqProofs [State.beatRelease]

@[simp] theorem execBeatBoundary_keeps (s : State) : Keeps s (execBeatBoundary s) := by
  unfold execBeatBoundary; dsimp only; (repeat' split) <;> simp -implicitDefEqProofs

@[simp] theorem execBarBoundary_keeps (s : State) : Keeps s (execBarBoundary s) := by
  unfold execBarBoundary; dsimp only; (repeat' split) <;> simp -implicitDefEqProofs

@[simp] theorem State.tempoStopped_boot : s.tempoStopped.boot = s.boot := by simp [State.tempoStopped]
@[simp] theorem execPulseBoundary_keeps (s : State) : Keeps s (execPulseBoundary s) := by simp [execPulseBoundary]

end

/-! ## Universal commands (Machine/Universal) -/

section
variable (s : State)

@[simp] theorem enableBody_boot (p : PageRef) (s : State) : (enableBody p s).2.boot = s.boot := by unfold enableBody; (repeat' split) <;> simp
@[simp] theorem disableBody_boot (p : PageRef) (s : State) : (disableBody p s).2.boot = s.boot := by unfold disableBody; (repeat' split) <;> simp
@[simp] theorem quiesceBody_boot (p : PageRef) (s : State) : (quiesceBody p s).2.boot = s.boot := by unfold quiesceBody; (repeat' split) <;> simp

@[simp] theorem stopBody_fuses (p : PageRef) (old : Option PendCmd) (s : State) : (stopBody p old s).2.boot.fuses = s.boot.fuses := by
  unfold stopBody; split <;> simp

@[simp] theorem resetBody_boot (p : PageRef) (healthy : Bool) (s : State) : (resetBody p healthy s).2.boot = s.boot := by
  unfold resetBody; (repeat' split) <;> simp

@[simp] theorem execResetPage_keeps (r : Requester) (p : PageRef) (arg : ResetArg) (s : State) : Keeps s (execResetPage r p arg s) := by
  simp [execResetPage]

@[simp] theorem execEnable_keeps (r : Requester) (p : PageRef) (arg : BitVec 24) (s : State) : Keeps s (execEnable r p arg s) := by simp [execEnable]

@[simp] theorem execDisable_keeps (r : Requester) (p : PageRef) (arg : BitVec 24) (s : State) : Keeps s (execDisable r p arg s) := by
  simp [execDisable]

@[simp] theorem execQuiesce_keeps (r : Requester) (p : PageRef) (arg : BitVec 24) (s : State) : Keeps s (execQuiesce r p arg s) := by
  simp [execQuiesce]

@[simp] theorem execStop_keeps (r : Requester) (p : PageRef) (arg : BitVec 24) (s : State) : Keeps s (execStop r p arg s) := by
  unfold execStop
  extract_lets old
  rw [keeps_done]
  exact State.pageCmd_keeps _ (fun b => b.fuses.values) _ _ _ _ _ fun s k => by simp

@[simp] theorem execCommandCompletion_keeps (p : PageRef) (detail : Word) (s : State) : Keeps s (execCommandCompletion p detail s) := by
  unfold execCommandCompletion; dsimp only; (repeat' split) <;> simp -implicitDefEqProofs

end

/-! ## Register writes (Machine/RegWrite) -/

section
variable (s : State)

@[simp] theorem cueCountWrite_boot (r : Requester) (b off : Nat) (v : Word) (s : State) (h : Nat) :
    (cueCountWrite r b off v s h).1.boot = s.boot := by simp [cueCountWrite]

@[simp] theorem weightWrite_boot (k off : Nat) (v : Word) (s : State) : (weightWrite k off v s).1.boot = s.boot := by simp [weightWrite]
@[simp] theorem tempoSyncWrite_boot (v : Word) (s : State) : (tempoSyncWrite v s).1.boot = s.boot := by simp [tempoSyncWrite]

@[simp] theorem blockEffect_boot (r : Requester) (p : PageRef) (off : Nat) (v : Word) (s : State) (h : Nat) :
    (blockEffect r p off v s h).1.boot = s.boot := by unfold blockEffect; (repeat' split) <;> simp

@[simp] theorem writeBlock_keeps (r : Requester) (p : PageRef) (off : Nat) (v : Word) (s : State) : Keeps s (writeBlock r p off v s) := by
  unfold writeBlock; split <;> simp

@[simp] theorem State.badWrite_boot (r : Requester) (addr : Nat) : (s.badWrite r addr).boot = s.boot := by
  unfold State.badWrite; dsimp only; (repeat' split) <;> simp

end

/-! ## Fuse values that at most grow -/

/-- `g` holds at least the fuse values of `f`, and stays within their ranges if `f` does (R450). -/
def Fuses.Grows (f g : Fuses) : Prop :=
  (f.svnS ≤ 63 ∧ f.svnC ≤ 63 ∧ f.revoked < 16 → g.svnS ≤ 63 ∧ g.svnC ≤ 63 ∧ g.revoked < 16) ∧
  f.svnS ≤ g.svnS ∧ f.svnC ≤ g.svnC ∧ ∀ j, f.revoked.testBit j = true → g.revoked.testBit j = true

theorem Fuses.values_eq_iff {f g : Fuses} :
    g.values = f.values ↔ g.svnS = f.svnS ∧ g.svnC = f.svnC ∧ g.revoked = f.revoked := by simp [Fuses.values]

theorem Fuses.grows_of_values_eq {f g : Fuses} (h : g.values = f.values) : f.Grows g := by
  obtain ⟨hs, hc, hr⟩ := Fuses.values_eq_iff.mp h
  simp [Fuses.Grows, hs, hc, hr]

theorem Fuses.Grows.refl (f : Fuses) : f.Grows f := Fuses.grows_of_values_eq rfl

theorem Fuses.Grows.trans {f g k : Fuses} (h : f.Grows g) (h' : g.Grows k) : f.Grows k := by
  obtain ⟨hb, hs, hc, hr⟩ := h
  obtain ⟨hb', hs', hc', hr'⟩ := h'
  exact ⟨hb' ∘ hb, Nat.le_trans hs hs', Nat.le_trans hc hc', fun j => hr' j ∘ hr j⟩

theorem Fuses.grows_svn (f : Fuses) {a b : Nat} (ha : a ≤ 63) (hb : b ≤ 63) :
    f.Grows { f with svnS := max f.svnS a, svnC := max f.svnC b } :=
  ⟨fun ⟨hs, hc, hr⟩ => ⟨Nat.max_le.mpr ⟨hs, ha⟩, Nat.max_le.mpr ⟨hc, hb⟩, hr⟩, Nat.le_max_left _ _, Nat.le_max_left _ _, fun _ => id⟩

theorem Fuses.grows_revoke (f : Fuses) {k : Nat} (hk : k < 4) : f.Grows { f with revoked := f.revoked ||| 2 ^ k } :=
  ⟨fun ⟨hs, hc, hr⟩ => ⟨hs, hc, Nat.or_lt_two_pow (n := 4) hr (Nat.pow_lt_pow_right (by decide) hk)⟩, Nat.le_refl _, Nat.le_refl _,
    fun j hj => by simp [Nat.testBit_or, hj]⟩

/-- A rollback count of a header has 6 bits. -/
theorem headF_svn_le (h : List Byte) (off : Nat) : headF h off 5 0 ≤ 63 :=
  Nat.le_of_lt_succ (Nat.mod_lt _ (by decide))

/-- An outcome in which the fuse values of `s` have at most grown. -/
def OnlyGrows (s : State) (o : Host.Outcome State Fault Refusal) : Prop := ∀ t, o = .next t → s.boot.fuses.Grows t.boot.fuses

theorem Keeps.onlyGrows {s : State} {o : Host.Outcome State Fault Refusal} (h : Keeps s o) : OnlyGrows s o :=
  fun t ht => Fuses.grows_of_values_eq (h t ht)

theorem onlyGrows_done {s t : State} (h : s.boot.fuses.Grows t.boot.fuses) : OnlyGrows s (done t) := by
  rintro u ⟨⟩
  exact h

/-! ## The two commands -/

theorem State.imageCmd_grows {s : State} {r : Requester} {p : PageRef} {code : Nat} {arg : BitVec 24} {body : State → Ans × State}
    (h : ∀ u : State, u.boot.fuses.Grows (body u).2.boot.fuses) : s.boot.fuses.Grows (s.imageCmd r p code arg body).boot.fuses := by
  obtain hk | ⟨u, _, hu, hk⟩ :=
    s.pageCmd_boot_or r p code arg (fun s _ => if s.pageState p = .running then body s else (ansState, s)) ansBusy
  · rw [State.imageCmd, hk]
    exact Fuses.Grows.refl _
  · rw [State.imageCmd, hk, ← hu]
    split
    · exact h u
    · exact Fuses.Grows.refl _

theorem execCommitSvn_onlyGrows (r : Requester) (arg : BitVec 24) (s : State) : OnlyGrows s (execCommitSvn r arg s) := by
  refine onlyGrows_done (State.imageCmd_grows fun u => ?_)
  split
  · exact Fuses.Grows.refl _
  · simpa [cmdDone, State.modBoot] using Fuses.grows_svn _ (headF_svn_le _ _) (headF_svn_le _ _)

theorem execRevokeKey_onlyGrows (r : Requester) (arg : BitVec 24) (s : State) : OnlyGrows s (execRevokeKey r arg s) := by
  refine onlyGrows_done (State.imageCmd_grows fun u => ?_)
  dsimp only
  split
  · exact Fuses.Grows.refl _
  · simpa [cmdDone, State.modBoot] using Fuses.grows_revoke _ (Nat.mod_lt _ (by decide))

/-! ## Writes to PAGE_CMD -/

/-- A code that programs fuses, at the page it is a command of (Table 13-12). -/
def FuseCommand (p : PageRef) (code : Nat) : Prop := p.ty = .image ∧ (code = 0x15 ∨ code = 0x16)

theorem blockCommand_keeps {r : Requester} {p : PageRef} {code : Nat} {arg : BitVec 24} {s : State} (h : ¬ FuseCommand p code)
    {o : Host.Outcome State Fault Refusal} (ho : blockCommand r p code arg s = some o) : Keeps s o := by
  unfold blockCommand at ho
  dsimp only at ho
  split at ho
  case h_4 | h_5 | h_6 | h_7 => split at ho <;> cases ho; simp
  case h_26 | h_27 => exact absurd ⟨‹_›, by simp⟩ h
  all_goals cases ho <;> simp

theorem writeCommand_keeps {r : Requester} {p : PageRef} {v : Word} {s : State} (h : ¬ FuseCommand p (v.toNat / 0x1000000)) :
    Keeps s (writeCommand r p v s) := by
  unfold writeCommand
  dsimp only
  split
  case h_2 => exact (execResetPage_keeps _ _ _ _).of_boot (State.drawFree_boot s)
  case h_7 =>
    cases hb : blockCommand r p (v.toNat / 0x1000000) (v.setWidth 24) s with
    | none => exact execUnknownCommand_keeps _ _ _ _ _
    | some o => exact blockCommand_keeps h hb
  all_goals simp

theorem writeCommand_onlyGrows (r : Requester) (p : PageRef) (v : Word) (s : State) : OnlyGrows s (writeCommand r p v s) := by
  by_cases h : FuseCommand p (v.toNat / 0x1000000)
  · obtain ⟨hp, hc | hc⟩ := h
    · simpa [writeCommand, blockCommand, hp, hc] using execCommitSvn_onlyGrows _ _ _
    · simpa [writeCommand, blockCommand, hp, hc] using execRevokeKey_onlyGrows _ _ _
  · exact (writeCommand_keeps h).onlyGrows

theorem writePage_keeps_of_ne {r : Requester} {p : PageRef} {off : Nat} {v : Word} {s : State} (h : off ≠ 0x010) :
    Keeps s (writePage r p off v s) := by
  unfold writePage
  rw [if_neg h]
  (repeat' split) <;> simp

/-! ## Writes to register space -/

/-- A word that programs fuses when it is written to an address (Table 13-12). -/
def FuseWrite (g : Grade) (a : Nat) (v : Word) : Prop :=
  pageAt g a = some (imageP, 0x010) ∧ (v.toNat / 0x1000000 = 0x15 ∨ v.toNat / 0x1000000 = 0x16)

theorem pageAt_eq_some {g : Grade} {a off : Nat} {p : PageRef} (h : pageAt g a = some (p, off)) :
    typeBase p.ty ≤ a ∧ a < typeBase p.ty + 0x1000 * span p.ty * instances g p.ty ∧
      p.inst = (a - typeBase p.ty) / (0x1000 * span p.ty) ∧ off = (a - typeBase p.ty) % (0x1000 * span p.ty) := by
  obtain ⟨t, ht, he⟩ := Option.map_eq_some_iff.mp h
  cases he
  have hf := List.find?_some ht
  simpa using hf

theorem eq_imageP_of_pageAt {g : Grade} {a off : Nat} {p : PageRef} (h : pageAt g a = some (p, off)) (hp : p.ty = .image) :
    p = imageP := by
  obtain ⟨hl, hu, hi, -⟩ := pageAt_eq_some h
  cases p with
  | mk ty inst =>
    cases hp
    simp only [imageP, PageRef.mk.injEq, true_and]
    simp only [typeBase, span, instances] at *
    omega

theorem eight_dvd_pages (t : PageType) : 8 ∣ typeBase t ∧ 8 ∣ 0x1000 * span t := by
  cases t <;> decide

theorem pageAt_mod_eight {g : Grade} {a off : Nat} {p : PageRef} (h : pageAt g a = some (p, off)) : off % 8 = a % 8 := by
  obtain ⟨hl, -, -, ho⟩ := pageAt_eq_some h
  obtain ⟨hb, hs⟩ := eight_dvd_pages p.ty
  rw [ho, Nat.mod_mod_of_dvd _ hs]
  omega

theorem writeWord_keeps {r : Requester} {a : Nat} {v : Word} {s : State} (h : ¬ FuseWrite s.chip.grade a v) :
    Keeps s (writeWord r a v s) := by
  unfold writeWord
  split
  · simp
  · split
    · simp
    next p off hp =>
      by_cases ho : off = 0x010
      · rw [writePage, if_pos ho]
        refine writeCommand_keeps fun ⟨hi, hc⟩ => h ⟨?_, hc⟩
        rw [hp, ho, eq_imageP_of_pageAt hp hi]
      · exact writePage_keeps_of_ne ho

theorem writeWord_onlyGrows (r : Requester) (a : Nat) (v : Word) (s : State) : OnlyGrows s (writeWord r a v s) := by
  by_cases h : FuseWrite s.chip.grade a v
  · obtain ⟨hp, -⟩ := h
    unfold writeWord
    split
    · exact Keeps.onlyGrows (by simp)
    · rw [hp]
      exact writeCommand_onlyGrows _ _ _ _
  · exact (writeWord_keeps h).onlyGrows

theorem not_fuseWrite_high {g : Grade} {a : Nat} (ha : a % 8 = 0) (v : Word) : ¬ FuseWrite g (a + 4) v := fun ⟨h, _⟩ => by
  have := pageAt_mod_eight h
  omega

theorem execRegisterWrite_keeps {r : Requester} {addr : Word} {size : Nat} {v : Dword} {s : State}
    (h : ¬ FuseWrite s.chip.grade addr.toNat (v.setWidth 32)) : Keeps s (execRegisterWrite r addr size v s) := by
  unfold execRegisterWrite
  dsimp only
  have hl := writeWord_keeps (r := r) h
  split
  · exact hl
  · split
    next h8 =>
      split
      next u hu =>
        rw [hu, keeps_next] at hl
        intro t ht
        rw [writeWord_keeps (not_fuseWrite_high h8.2 _) t ht, hl]
      · simp
      · simp
    · simp

theorem execRegisterWrite_onlyGrows (r : Requester) (addr : Word) (size : Nat) (v : Dword) (s : State) :
    OnlyGrows s (execRegisterWrite r addr size v s) := by
  unfold execRegisterWrite
  dsimp only
  have hl := writeWord_onlyGrows r addr.toNat (v.setWidth 32) s
  split
  · exact hl
  · split
    next h8 =>
      split
      next u hu =>
        intro t ht
        exact (hl u hu).trans (writeWord_onlyGrows _ _ _ _ t ht)
      · simp [OnlyGrows]
      · simp [OnlyGrows]
    · exact Keeps.onlyGrows (by simp)

/-! ## Every command -/

/-- The commands that program fuses: COMMIT_SVN and REVOKE_KEY, and their writes to PAGE_CMD of the IMAGE page. -/
def FuseInstr (g : Grade) : Instr → Prop
  | .commitSvn _ _ | .revokeKey _ _ => True
  | .registerWrite _ addr _ v => FuseWrite g addr.toNat (v.setWidth 32)
  | _ => False

theorem exec_keeps {c : Instr} {s : State} (h : ¬ FuseInstr s.chip.grade c) : Keeps s (exec c s) := by
  cases c
  case commitSvn | revokeKey => exact absurd trivial h
  case registerWrite => exact execRegisterWrite_keeps h
  all_goals simp [exec]

theorem exec_onlyGrows (c : Instr) (s : State) : OnlyGrows s (exec c s) := by
  by_cases h : FuseInstr s.chip.grade c
  · cases c
    case commitSvn => exact execCommitSvn_onlyGrows _ _ _
    case revokeKey => exact execRevokeKey_onlyGrows _ _ _
    case registerWrite => exact execRegisterWrite_onlyGrows _ _ _ _ _
    all_goals exact h.elim
  · exact (exec_keeps h).onlyGrows

theorem FuseInstr.spelled {g : Grade} {c : Instr} (h : FuseInstr g c) :
    (∃ r a, c = .commitSvn r a ∨ c = .revokeKey r a) ∨
      ∃ r addr size v, c = .registerWrite r addr size v ∧ pageAt g addr.toNat = some (imageP, 0x010) ∧
        (v.toNat % 0x100000000 / 0x1000000 = 0x15 ∨ v.toNat % 0x100000000 / 0x1000000 = 0x16) := by
  cases c
  case commitSvn r a => exact .inl ⟨r, a, .inl rfl⟩
  case revokeKey r a => exact .inl ⟨r, a, .inr rfl⟩
  case registerWrite r addr size v =>
    obtain ⟨hp, hv⟩ := h
    rw [BitVec.toNat_setWidth] at hv
    exact .inr ⟨r, addr, size, v, rfl, hp, hv⟩
  all_goals exact h.elim

/-- Settles O5: COMMIT_SVN takes maxima of 6-bit fields and REVOKE_KEY sets one of four bits; every other command keeps the fuse
values, because no other operation of the model writes them. -/
theorem fuseValuesNeverDecrease : Obligations.FuseValuesNeverDecrease := by
  intro c s t ht
  obtain ⟨hb, hs, hc, hr⟩ := exec_onlyGrows c s t ht
  refine ⟨hb, hs, hc, hr, fun hne => ?_⟩
  by_cases h : FuseInstr s.chip.grade c
  · exact h.spelled
  · obtain ⟨es, ec, er⟩ := Fuses.values_eq_iff.mp (exec_keeps h t ht)
    simp [es, ec, er] at hne

end Sys2Proof.Machine
end
